-- ==== Sys2Proof/Word.lean ====
section
/-! DEFINITION. The plain word types of the RB-4400: bytes, counters, tags, addresses and the small
fixed index types (shore paths, cell heads), with a record of one value per shore path. -/

namespace Sys2Proof

/-- One byte of a frame. -/
abbrev Byte := BitVec 8

/-- A 32-bit event counter: it counts upward and wraps from 2^32 - 1 to 0 (R4, R35, R36, R105, R127). -/
abbrev Count := BitVec 32

/-- A bearer tag, a 32-bit value whose nonzero values map to visitors (R19). -/
abbrev Tag := BitVec 32

/-- An Ethernet address (R184). -/
abbrev Mac := BitVec 48

/-- A 16-byte ASCII name as it stands in a frame, its first character in the top byte
(12_frame_and_record_formats.md, Control frames). -/
abbrev Name := BitVec 128

/-- A cell head number, 0..15 (R155). -/
abbrev Cell := Fin 16

/-- A zone table index, 0..31 (R94). -/
abbrev ZoneIndex := Fin 32

/-- A tariff region, 0..15 (R38). -/
abbrev Region := Fin 16

/-- A shore path, named after its port (R107). -/
inductive Path where
  | sp0
  | sp1
  | sp2
  | sp3
deriving DecidableEq, Repr

/-- One value for each of the four shore paths. -/
structure PerPath (α : Type) where
  sp0 : α
  sp1 : α
  sp2 : α
  sp3 : α
deriving DecidableEq, Repr

/-- The value held for a path. -/
def PerPath.get {α : Type} (t : PerPath α) : Path → α
  | .sp0 => t.sp0
  | .sp1 => t.sp1
  | .sp2 => t.sp2
  | .sp3 => t.sp3

/-- Replaces the value held for one path. -/
def PerPath.set {α : Type} (t : PerPath α) (p : Path) (x : α) : PerPath α :=
  match p with
  | .sp0 => { t with sp0 := x }
  | .sp1 => { t with sp1 := x }
  | .sp2 => { t with sp2 := x }
  | .sp3 => { t with sp3 := x }

/-- The record that gives each path the value of a function. -/
def PerPath.tabulate {α : Type} (f : Path → α) : PerPath α :=
  { sp0 := f .sp0, sp1 := f .sp1, sp2 := f .sp2, sp3 := f .sp3 }

/-- The same value for every path. -/
def PerPath.const {α : Type} (x : α) : PerPath α :=
  { sp0 := x, sp1 := x, sp2 := x, sp3 := x }

/-- The four paths in ascending order of number. -/
def Path.all : List Path := [.sp0, .sp1, .sp2, .sp3]

/-- The number of a path, 0..3. -/
def Path.num : Path → Nat
  | .sp0 => 0
  | .sp1 => 1
  | .sp2 => 2
  | .sp3 => 3

/-- A table of values by number in which an unlisted number holds a value fixed by the table's
owner: pairs in strictly rising order of number. -/
abbrev Table (α : Type) := List (Nat × α)

end Sys2Proof
end

