-- ==== Sys2Proof/Syntax.lean ====
section
/-! DEFINITION. The commands of the RB-4400: one constructor for each row of spec/opcode_table.json,
with the operands a row needs (the port or path it happens on, the frame that arrives). -/

namespace Sys2Proof

/-- A frame as it reaches a port: whether its Ethernet frame check holds, its two addresses, the type
field, and the bytes after the type, which are offset 0 onward of the layouts (R183). -/
structure EthFrame where
  checkOk : Bool
  dst : Mac
  src : Mac
  etherType : BitVec 16
  body : List Byte
deriving DecidableEq, Repr

/-- A port that carries requests: the ship port or the shore port of a path (R5). -/
inductive Port where
  | ship
  | shore (p : Path)
deriving DecidableEq, Repr

/-- The steps of spec/opcode_table.json. A row that names a request is the step in which the Control
Frame Unit takes the head request of the port's queue, which bears that name, and executes it (R5,
R170); its items are those of that request. -/
inductive Instr where
  | powerOnReset
  | shipFrameArrival (f : EthFrame)
  | shoreFrameArrival (p : Path) (f : EthFrame)
  | shoreTransmitTake (p : Path)
  | shoreTransmissionEnd (p : Path)
  | shipTransmitTake
  | shipTransmissionEnd
  | shipLinkLoss
  | shipLinkReturn
  | carrierArrival (p : Path)
  | carrierLoss (p : Path)
  | settleTimerExpiry (p : Path)
  | openTimerExpiry (p : Path)
  | surveyProbeDue (p : Path)
  | probeTimerExpiry (p : Path)
  | probeDeadlineExpiry (p : Path) (id : BitVec 8)
  | idleTimerExpiry (p : Path)
  | recoveryGapEnd (p : Path)
  | drainWindowExpiry (p : Path)
  | holdDownExpiry
  | periodTimerExpiry
  | gapTimerExpiry
  | heartbeatTimerExpiry (c : Nat)
  | grantBoundary
  | positionTimerExpiry
  | intervalExpiry
  | sweepVisit
  | voyageClockRise
  | unknownRequest (port : Port)
  | visitorAdd (port : Port)
  | visitorRemove (port : Port)
  | visitorRead (port : Port)
  | visitorCredit (port : Port)
  | visitorAllow (port : Port)
  | visitorSettle (port : Port)
  | tariffLoad (port : Port)
  | tariffSwitch (port : Port)
  | planLoad (port : Port)
  | partnerLoad (port : Port)
  | recordDrain (port : Port)
  | recordRelease (port : Port)
  | voyageStart (port : Port)
  | recordInterval (port : Port)
  | recordFlush (port : Port)
  | zoneLoad (port : Port)
  | zoneDefaults (port : Port)
  | position (port : Port)
  | zoneForce (port : Port)
  | pathConfig (port : Port)
  | pathEnable (port : Port)
  | pathDisable (port : Port)
  | pathSurvey (port : Port)
  | pathTest (port : Port)
  | selectConfig (port : Port)
  | pathPin (port : Port)
  | reseqConfig (port : Port)
  | cellConfig (port : Port)
  | grantConfig (port : Port)
  | clockSet (port : Port)
  | statusRead (port : Port)
  | noticeArm (port : Port)
  | noticeClear (port : Port)
  | creditListRead (port : Port)
  | partRestart (port : Port)
  | restartEntryStep
  | restartIntervalTimer
deriving DecidableEq, Repr

end Sys2Proof
end

