-- ==== Sys2Proof/Config.lean ====
section
/-! DEFINITION. What is fixed at manufacture: the capacities the manual states, and the one value it
leaves open (the ports' own addresses). -/

namespace Sys2Proof

/-- The Ethernet address of a port, which the manual says is fixed at manufacture and does not give
(R184). No value of it can be proved. -/
opaque Config.portAddress : Port → Mac

/-- Buffers in the Packet Buffer Pool (R6). -/
def Config.poolSize : Nat := 3072

/-- Places in a path transmit queue (R8). -/
def Config.transmitQueueSize : Nat := 1024

/-- Places in the ship egress queue (R9). -/
def Config.egressQueueSize : Nat := 2048

/-- Requests the ship port's request queue holds (R5). -/
def Config.shipRequestQueueSize : Nat := 16

/-- Requests a shore port's request queue holds (R5). -/
def Config.shoreRequestQueueSize : Nat := 4

/-- Visitor entries (R18). -/
def Config.visitorCount : Nat := 4096

/-- Records the record queue holds (R71). -/
def Config.recordQueueSize : Nat := 1024

/-- The number of held records at which RECORD_HIGH is set pending (R72). -/
def Config.recordHighMark : Nat := 768

/-- Indices the credit notice list holds (R180). -/
def Config.creditListSize : Nat := 64

/-- Answers to shore probes that one port holds due (R119). -/
def Config.answersDueMax : Nat := 16

/-- Entries of the outstanding probe list (R121). -/
def Config.outstandingMax : Nat := 8

/-- Probes in one survey (R116). -/
def Config.surveyProbes : Nat := 8

/-- PATH_OPEN frames in one opening attempt (R114). -/
def Config.openAttempts : Nat := 50

/-- Outcomes in the loss window (R122). -/
def Config.lossWindowSize : Nat := 32

/-- The greatest round trip sample, in 0.1 ms (R122). -/
def Config.sampleMax : Nat := 40950

/-- The greatest CHARGED (R54). -/
def Config.chargedMax : Nat := 2 ^ 48 - 1

/-- The greatest value of a 32-bit quantity that saturates or clamps. -/
def Config.max32 : Nat := 2 ^ 32 - 1

/-- One CU in units of 2^-20 CU (R52). -/
def Config.carryUnit : Nat := 2 ^ 20

end Sys2Proof
end

