-- ==== Sys2Proof/Machine/State.lean ====
section
/-! DEFINITION. Everything the manual gives the part, as plain data: one structure per block, and the
queue of commands that wait. State.reset is the part right after power-on reset. -/

namespace Sys2Proof.Machine

/-! ## Frames, requests and replies -/

/-- A frame in a transmitter: the address it goes to and the bytes from offset 0 on. Its type is
0x88B6 and its source address is the port's own (R184). -/
structure TxFrame where
  dst : Mac
  body : List Byte
deriving DecidableEq, Repr

/-- One item of a control frame: a name and a signed 64-bit value. -/
structure Item where
  name : Name
  value : Int
deriving DecidableEq, Repr

/-- A request as it waits in a request queue (R5, R185). -/
structure Request where
  name : Name
  tag : BitVec 16
  items : List Item
deriving DecidableEq, Repr

/-- The status of a reply (R171). -/
inductive Status where
  | done
  | busy
  | refusedIndex
  | refusedState
  | duplicate
  | notPermitted
  | malformed
deriving DecidableEq, Repr

/-- The reason in a fault record (R173). -/
inductive Reason where
  | unknownRequest
  | repeatedItem
  | missingItem
  | badValue
deriving DecidableEq, Repr

/-- The current zone, a candidate or the fallback when it is not UNSET or none: DEFAULT or an entry
of the zone table (R95, R99). -/
inductive Zone where
  | default
  | entry (k : ZoneIndex)
deriving DecidableEq, Repr

/-- The two tariff banks (R38). -/
inductive Bank where
  | b0
  | b1
deriving DecidableEq, Repr

/-- The bank that is not this one. -/
def Bank.other : Bank → Bank
  | .b0 => .b1
  | .b1 => .b0

/-- A roaming standing, and a partner's policy for one region (R21, R42). -/
inductive Roaming where
  | permitted
  | surcharged
  | barred
deriving DecidableEq, Repr

/-- A credit standing (R55). -/
inductive Credit where
  | clear
  | low
  | exhausted
deriving DecidableEq, Repr

/-- The lifecycle of a visitor entry (R18). -/
inductive Lifecycle where
  | free
  | provisioned
  | attached
  | closing
deriving DecidableEq, Repr

/-- Why a usage record closed (R64). -/
inductive CloseReason where
  | zone
  | path
  | tariff
  | interval
  | flush
  | removed
  | volume
  | restart
deriving DecidableEq, Repr

/-- What became of a record at its close (R65). -/
inductive CloseOutcome where
  | queued
  | spilled
  | empty
deriving DecidableEq, Repr

/-- The kind of a path (R107). -/
inductive Kind where
  | terrestrial
  | satellite
deriving DecidableEq, Repr

/-! ## Usage records and visitors -/

/-- An open usage record: its snapshot, its counters and its open time (R62). -/
structure OpenRecord where
  zone : Option Zone
  region : Region
  path : Option Path
  priceEff : Nat
  fee : Nat
  bank : Bank
  roaming : Roaming
  bytesUp : Nat
  bytesDown : Nat
  freeBytes : Nat
  pktsUp : Nat
  pktsDown : Nat
  feeCharged : Nat
  charge : Nat
  openTime : BitVec 32
deriving DecidableEq, Repr

/-- A closed usage record in the record queue (R64). -/
structure Record where
  seq : BitVec 32
  index : Nat
  tag : Tag
  reason : CloseReason
  closeTime : BitVec 32
  contents : OpenRecord
deriving DecidableEq, Repr

/-- One visitor entry (R20). SERVING_CELL none, LIMIT UNLIMITED and an absent OPEN_RECORD are none.
ZONES_CHARGED has bit k for zone k and bit 32 for DEFAULT. -/
structure Visitor where
  lifecycle : Lifecycle
  tag : Tag
  partner : Fin 128
  plan : Fin 8
  servingCell : Option Cell
  roaming : Roaming
  credit : Credit
  limit : Option Nat
  lowMark : Nat
  allowance : Nat
  charged : Nat
  settled : Nat
  spilled : Nat
  carry : Nat
  zonesCharged : BitVec 33
  reviewMark : Bool
  closeMark : Bool
  openRecord : Option OpenRecord
  blocked : Nat
  spillCount : Nat
deriving DecidableEq, Repr

/-- A FREE entry: every field at the FREE value of the table of R20. -/
def Visitor.freeEntry : Visitor :=
  { lifecycle := .free, tag := 0, partner := 0, plan := 0, servingCell := none, roaming := .permitted,
    credit := .clear, limit := none, lowMark := 0, allowance := 0, charged := 0, settled := 0,
    spilled := 0, carry := 0, zonesCharged := 0, reviewMark := false, closeMark := false,
    openRecord := none, blocked := 0, spillCount := 0 }

/-- The reasons for which a packet is refused (R33, R166). -/
inductive Refused where
  | notAttached
  | barred
  | exhausted
  | planKind
  | noBackhaul
  | noCoverage
deriving DecidableEq, Repr

/-- The Visitor Table: the entries that are not FREE by index, an unlisted index reading as
Visitor.freeEntry (R18, R20); ATTACHES (R36) and the six refusal counters (R35). The tag map (R19) and
the counts by lifecycle (R36) are views of the entries (Machine/Visitors.lean). -/
structure Vtb where
  entries : Table Visitor
  attaches : Count
  blkNotAttached : Count
  blkBarred : Count
  blkExhausted : Count
  blkPlanKind : Count
  blkNoBackhaul : Count
  blkNoCoverage : Count
deriving DecidableEq, Repr

/-! ## Rating Unit -/

/-- One row of a tariff bank (R38). -/
structure TariffRow where
  price : Nat
  fee : Nat
deriving DecidableEq, Repr

/-- A tariff bank: one row for each pair of region and plan (R38). -/
abbrev TariffBank := Vector (Vector TariffRow 8) 16

/-- ALLOWED_KINDS of a plan: the set of path kinds the plan may use (R41). -/
structure Plan where
  terrestrial : Bool
  satellite : Bool
deriving DecidableEq, Repr

/-- A partner table entry (R42). -/
structure Partner where
  homeCode : Nat
  policy : Vector Roaming 16
  mult : Nat
deriving DecidableEq, Repr

/-- The Rating Unit's tables (R38, R41, R42). -/
structure Rtu where
  bank0 : TariffBank
  bank1 : TariffBank
  activeBank : Bank
  plans : Vector Plan 8
  partners : Vector Partner 128
deriving DecidableEq, Repr

/-! ## Record Queue and Review Sweep Engine -/

/-- The Record Queue: its records head first, NEXT_SEQ, the issue cursor and limit, SPILLS (R70, R71).
HELD, HEAD_SEQ and the per-entry counts are views of the records (Machine/Records.lean). -/
structure Rcq where
  records : List Record
  nextSeq : BitVec 32
  cursorSeq : BitVec 32
  limitSeq : BitVec 32
  spills : Count
deriving DecidableEq, Repr

/-- The close reason the sweep engine holds (R87). -/
inductive SweepReason where
  | interval
  | flush
deriving DecidableEq, Repr

/-- A timer: none when stopped, otherwise the milliseconds left of it. -/
abbrev Timer := Option Nat

/-- The Review Sweep Engine (R84, R87, R88, R89). REVIEW_PENDING and CLOSE_PENDING are views of the
visitor entries (Machine/Flags.lean). -/
structure Rse where
  running : Bool
  cursor : Nat
  closeReason : SweepReason
  interval : Nat
  intervalTimer : Timer
  reviews : Count
  rateBreaks : Count
  runs : Count
deriving DecidableEq, Repr

/-! ## Zone Unit -/

/-- RANK: the paths in order of preference, each once (R94). -/
structure Rank where
  first : Path
  second : Path
  third : Path
  fourth : Path
deriving DecidableEq, Repr

/-- The terms of a zone (R94, R95). -/
structure Terms where
  region : Region
  cap : Nat
  pathMask : PerPath Bool
  rank : Rank
deriving DecidableEq, Repr

/-- A zone table entry (R94). -/
structure ZoneRow where
  valid : Bool
  latMin : Int
  latMax : Int
  lonMin : Int
  lonMax : Int
  terms : Terms
deriving DecidableEq, Repr

/-- Whether the position is known (R102). -/
inductive PositionState where
  | noFix
  | fresh
  | stale
deriving DecidableEq, Repr

/-- CHANGE_CAUSE (R104, R105). -/
inductive ChangeCause where
  | none
  | report
  | fallback
  | force
  | load
deriving DecidableEq, Repr

/-- The Zone Unit (R94, R95, R99, R101, R102, R105). CURRENT_ZONE and PREV_ZONE UNSET, and a candidate of
none, are none. -/
structure Znu where
  zones : Vector ZoneRow 32
  defaultTerms : Terms
  fallback : Zone
  confirm : Nat
  timeout : Nat
  current : Option Zone
  candidate : Option Zone
  candidateCount : Nat
  positionState : PositionState
  positionTimer : Timer
  prevZone : Option Zone
  changeCause : ChangeCause
  lastLat : Int
  lastLon : Int
  reports : Count
  zoneChanges : Count
  fallbacks : Count
deriving DecidableEq, Repr

/-! ## Shore paths -/

/-- The configuration of a path (R107). -/
structure PathConfig where
  kind : Kind
  surcharge : Nat
  settle : Nat
  prescale : Nat
  postscale : Nat
  probeTimeout : Nat
  surveyPass : Nat
  surveyLimit : Nat
  drain : Nat
deriving DecidableEq, Repr

/-- The state of a path (R109). -/
inductive PathState where
  | disabled
  | down
  | settling
  | opening
  | surveying
  | up
  | test
deriving DecidableEq, Repr

/-- A steady probe in the outstanding probe list, with the time left to its deadline (R121). -/
structure Probe where
  id : BitVec 8
  stamp : BitVec 32
  left : Nat
deriving DecidableEq, Repr

/-- One entry of the survey set (R116). -/
inductive SurveyEntry where
  | unsent
  | inFlight (id : BitVec 8) (stamp : BitVec 32) (left : Nat)
  | echoed (id : BitVec 8) (sample : Nat)
  | lost (id : BitVec 8)
deriving DecidableEq, Repr

/-- A survey in flight: the survey set, how many of its probes have become due, and the 10 ms spacing
to the next (R116). -/
structure SurveyRun where
  entries : List SurveyEntry
  dueCount : Nat
  spacing : Timer
deriving DecidableEq, Repr

/-- SURVEY of a path: IDLE, DEFERRED to the recovery gap's end, or IN_FLIGHT (R127). -/
inductive Survey where
  | idle
  | deferred
  | inFlight (run : SurveyRun)
deriving DecidableEq, Repr

/-- The survey record of a path (R116). -/
structure SurveyRecord where
  echoed : Nat
  minRtt : Nat
  maxRtt : Nat
  pass : Bool
deriving DecidableEq, Repr

/-- A path supervisor (R107, R109, R113 to R127). The loss window holds the newest outcome first, true
for LOST. -/
structure Psv where
  config : PathConfig
  state : PathState
  lostLatch : Bool
  settleTimer : Timer
  openTimer : Timer
  probeTimer : Timer
  idleTimer : Timer
  gap : Timer
  openCount : Nat
  outstanding : List Probe
  survey : Survey
  surveyRecord : SurveyRecord
  srtt : Nat
  lastRtt : Nat
  lossWindow : List Bool
  nextId : BitVec 8
  probes : Count
  echoes : Count
  losses : Count
  strayEchoes : Count
  answered : Count
  ignored : Count
  surveys : Count
  bringups : Count
  openFails : Count
  carrierLosses : Count
deriving DecidableEq, Repr

/-- A supervision frame that is due on a shore port and not yet taken (R12). -/
inductive Due where
  | pathOpen
  | probe
  | surveyProbe (k : Fin 8)
  | echo (id : BitVec 8) (value : BitVec 32)
  | fill
  | pathSwap (leaving : Option Path)
deriving DecidableEq, Repr

/-- A reply in a reply slot, as it will be sent (R171, R75). -/
structure Reply where
  name : Name
  tag : BitVec 16
  status : Status
  adjusted : Bool
  ignoredItem : Bool
  items : List Item
  records : List Record
deriving DecidableEq, Repr

/-- An uplink packet in a path transmit queue (R8). -/
structure UplinkEntry where
  packet : List Byte
  tag : Tag
  length : Nat
  cell : Cell
deriving DecidableEq, Repr

/-- A downlink packet in the ship egress queue, with the cell head chosen to forward it (R9). -/
structure EgressEntry where
  packet : List Byte
  tag : Tag
  length : Nat
  cell : Cell
deriving DecidableEq, Repr

/-- The counters of a shore port (R4). -/
structure ShoreCounters where
  rxData : Count
  rxSupervision : Count
  rxRequest : Count
  txData : Count
  txSupervision : Count
  txReply : Count
  dropForeign : Count
  dropHeader : Count
  dropKind : Count
  dropLength : Count
  dropNotAccept : Count
  dropNoBuffer : Count
  dropUnknownTag : Count
  dropStaleTag : Count
  dropReqFull : Count
  dropReqLost : Count
  flushed : Count
deriving DecidableEq, Repr

/-- A Shore Port Interface: carrier, the path transmit queue, the due supervision frames, the request
queue and reply slot, the transmitter and the learned address (R4, R5, R8, R12, R184). -/
structure ShorePort where
  carrier : Bool
  txQueue : List UplinkEntry
  due : List Due
  requests : List Request
  reply : Option Reply
  transmitter : Option TxFrame
  partner : Option Mac
  counters : ShoreCounters
deriving DecidableEq, Repr

/-- The counters of the ship port (R4). -/
structure ShipCounters where
  rxUser : Count
  rxHeartbeat : Count
  rxRequest : Count
  txUser : Count
  txGrant : Count
  txReply : Count
  txNotice : Count
  dropForeign : Count
  dropHeader : Count
  dropKind : Count
  dropLength : Count
  dropCellOff : Count
  dropNotServing : Count
  dropUnknownTag : Count
  dropNoBuffer : Count
  dropPathFull : Count
  dropEgressFull : Count
  dropReqFull : Count
deriving DecidableEq, Repr

/-- The Ship Port Interface: its link, the ship egress queue, the request queue and reply slot, the
transmitter, whether the last frame taken was one of the part's own, and the onboard controller's
learned address (R4, R5, R9, R15, R184). -/
structure Shi where
  link : Bool
  egress : List EgressEntry
  requests : List Request
  reply : Option Reply
  transmitter : Option TxFrame
  lastOwn : Bool
  controller : Option Mac
  counters : ShipCounters
deriving DecidableEq, Repr

/-! ## Path Selector and Downlink Resequencer -/

/-- LAST_CAUSE, the cause of the last swap (R128, R134). -/
inductive SwapCause where
  | none
  | evaluated
  | pinned
  | forced
  | restored
deriving DecidableEq, Repr

/-- The Path Selector's six settings (R130). -/
structure SelectSettings where
  lossWeight : Nat
  rankStep : Nat
  hysteresis : Nat
  confirm : Nat
  holdDown : Nat
  period : Nat
deriving DecidableEq, Repr

/-- The Path Selector (R128, R130, R144). A drain window is open while its timer runs. -/
structure Psl where
  active : Option Path
  pin : Option Path
  candidate : Option Path
  costs : PerPath (Option Nat)
  confirmCount : Nat
  confirmFor : Option Path
  holdDown : Timer
  drain : PerPath Timer
  period : Timer
  lastFrom : Option Path
  lastCause : SwapCause
  settings : SelectSettings
  swaps : Count
  forcedSwaps : Count
  activations : Count
  noBackhauls : Count
deriving DecidableEq, Repr

/-- A packet held in a slot of the resequencer; its slot is slot seq mod 256 (R146). -/
structure Held where
  seq : BitVec 16
  packet : List Byte
  tag : Tag
  length : Nat
  port : Path
deriving DecidableEq, Repr

/-- The Downlink Resequencer (R145, R154). The occupied slots are listed from the one nearest ahead of
NEXT_EXPECTED. -/
structure Drs where
  locked : Bool
  nextExpected : BitVec 16
  slots : List Held
  gapTimer : Timer
  gapHold : Nat
  delivered : Count
  duplicates : Count
  late : Count
  skipped : Count
  jumps : Count
  gapExpiries : Count
  resyncs : Count
deriving DecidableEq, Repr

/-! ## Coverage Unit -/

/-- The state of a cell head (R158). -/
inductive CellState where
  | absent
  | joining
  | serving
  | lost
deriving DecidableEq, Repr

/-- A cell head record (R155), whether it stands in the owed grant set (R15), its learned address
(R184) and its counts (R168). -/
structure CellHead where
  enable : Bool
  base : Nat
  boost : Nat
  backup : Option Cell
  join : Nat
  state : CellState
  joinCount : Nat
  hbTimer : Timer
  target : Nat
  pendingLevel : Nat
  activeLevel : Nat
  reportedLevel : Nat
  grantOwed : Bool
  address : Option Mac
  heartbeats : Count
  joins : Count
  losses : Count
  decreases : Count
  levelMismatches : Count
deriving DecidableEq, Repr

/-- The Coverage Unit (R155, R157, R163, R168). -/
structure Cvu where
  cells : Vector CellHead 16
  hbTimeout : Nat
  grantPeriod : Nat
  grantTimer : Timer
  boundaries : Count
  substitutions : Count
deriving DecidableEq, Repr

/-! ## Control Frame Unit and Notice Unit -/

/-- The fault record (R173). -/
structure FaultRecord where
  port : Port
  tag : BitVec 16
  name : Name
  reason : Reason
deriving DecidableEq, Repr

/-- A PART_RESTART whose pass over the visitor table is in flight: the next index of the pass, the
request's tag and whether it had an item set aside, and the RESTART records queued and spilled (R182). -/
structure RestartRun where
  nextIndex : Nat
  tag : BitVec 16
  ignoredItem : Bool
  queued : Nat
  spilled : Nat
deriving DecidableEq, Repr

/-- The Control Frame Unit's own state: FAULTS and the fault record (R173), the voyage clock and the
ticks counted toward its next rise (R174), RESTARTS and a restart in flight (R182). -/
structure Cfu where
  faults : Count
  faultRecord : FaultRecord
  clock : BitVec 32
  clockTicks : Nat
  restarts : Count
  restart : Option RestartRun
deriving DecidableEq, Repr

/-- The twelve notice sources in order of priority (R176). -/
inductive Source where
  | pathLost
  | noBackhaul
  | coverage
  | zoneChange
  | positionStale
  | pathSwap
  | pathState
  | recordHigh
  | recordSpill
  | credit
  | surveyDone
  | controlFault
deriving DecidableEq, Repr

/-- PENDING, ARMED and RAISED of a notice source (R176). -/
structure NoticeFlags where
  pending : Bool
  armed : Bool
  raised : Count
deriving DecidableEq, Repr

/-- The Notice Unit (R176, R180). -/
structure Ntu where
  pathLost : NoticeFlags
  noBackhaul : NoticeFlags
  coverage : NoticeFlags
  zoneChange : NoticeFlags
  positionStale : NoticeFlags
  pathSwap : NoticeFlags
  pathState : NoticeFlags
  recordHigh : NoticeFlags
  recordSpill : NoticeFlags
  credit : NoticeFlags
  surveyDone : NoticeFlags
  controlFault : NoticeFlags
  noticeSeq : BitVec 16
  surveyPath : Path
  creditList : List Nat
  creditOverflow : Bool
  creditDrops : Count
deriving DecidableEq, Repr

/-- The part's time base (00_scope.md, Conventions): the 0.1 ms timestamp, and how many tenths have
passed since the last 1 ms tick. -/
structure Clocks where
  stamp : BitVec 32
  tenth : Nat
deriving DecidableEq, Repr

/-! ## The whole part -/

/-- The state of the part and, first in first out, the commands that wait. freeBuffers is the pool's
free count (R6); uplinkSeq is the uplink sequence the next DATA frame carries (R11). -/
structure State where
  shi : Shi
  shore : PerPath ShorePort
  freeBuffers : Nat
  uplinkSeq : BitVec 16
  vtb : Vtb
  rtu : Rtu
  rcq : Rcq
  rse : Rse
  znu : Znu
  psv : PerPath Psv
  psl : Psl
  drs : Drs
  cvu : Cvu
  cfu : Cfu
  ntu : Ntu
  clocks : Clocks
  pending : List Instr
deriving DecidableEq, Repr

/-- Why the part stops with a fault. The manual gives the part no condition in which it stops, so there
is no constructor: no command raises a fault. This is safe. -/
inductive Fault where
deriving DecidableEq, Repr

/-- Why a command is refused. -/
inductive Refusal where
  /-- Raised by exec's arm of a command that has no meaning yet, by its mnemonic; safe, since no next
  state is claimed. -/
  | notModelled (mnemonic : String)
deriving DecidableEq, Repr

/-! ## Power-on values -/

/-- RANK in the natural order (R94). -/
def Rank.natural : Rank :=
  { first := .sp0, second := .sp1, third := .sp2, fourth := .sp3 }

/-- The power-on DEFAULT record (R95). It also gives the terms of a zone table entry at power-on (R94)
and of the zone UNSET (R99). -/
def Terms.powerOn : Terms :=
  { region := 0, cap := 0, pathMask := PerPath.const true, rank := Rank.natural }

/-- A zone table entry at power-on (R94). -/
def ZoneRow.powerOn : ZoneRow :=
  { valid := false, latMin := 0, latMax := 0, lonMin := 0, lonMax := 0, terms := Terms.powerOn }

/-- A partner entry at power-on (R42). -/
def Partner.powerOn : Partner :=
  { homeCode := 0, policy := Vector.replicate 16 .permitted, mult := 256 }

/-- The default configuration of a path (R107). -/
def PathConfig.powerOn : PathConfig :=
  { kind := .terrestrial, surcharge := 256, settle := 20, prescale := 4, postscale := 5,
    probeTimeout := 3, surveyPass := 6, surveyLimit := 1500, drain := 500 }

/-- A survey record at power-on and on entry to TEST (R116, R124). -/
def SurveyRecord.powerOn : SurveyRecord :=
  { echoed := 0, minRtt := 0, maxRtt := 0, pass := false }

/-- The loss window filled with RECEIVED outcomes (R122). -/
def lossWindowFull : List Bool := List.replicate Config.lossWindowSize false

/-- A path supervisor at power-on (R107, R109, R113, R116, R120, R122, R127). -/
def Psv.powerOn : Psv :=
  { config := PathConfig.powerOn, state := .disabled, lostLatch := false, settleTimer := none,
    openTimer := none, probeTimer := none, idleTimer := none, gap := none, openCount := 0,
    outstanding := [], survey := .idle, surveyRecord := SurveyRecord.powerOn, srtt := 0, lastRtt := 0,
    lossWindow := lossWindowFull, nextId := 0, probes := 0, echoes := 0, losses := 0,
    strayEchoes := 0, answered := 0, ignored := 0, surveys := 0, bringups := 0, openFails := 0,
    carrierLosses := 0 }

/-- Shore port counters at 0 (R4). -/
def ShoreCounters.zero : ShoreCounters :=
  { rxData := 0, rxSupervision := 0, rxRequest := 0, txData := 0, txSupervision := 0, txReply := 0,
    dropForeign := 0, dropHeader := 0, dropKind := 0, dropLength := 0, dropNotAccept := 0,
    dropNoBuffer := 0, dropUnknownTag := 0, dropStaleTag := 0, dropReqFull := 0, dropReqLost := 0,
    flushed := 0 }

/-- A shore port at power-on (R4, R5, R8, R184). That carrier is absent is a DESIGN CHOICE (log entry
3). -/
def ShorePort.powerOn : ShorePort :=
  { carrier := false, txQueue := [], due := [], requests := [], reply := none, transmitter := none,
    partner := none, counters := ShoreCounters.zero }

/-- Ship port counters at 0 (R4). -/
def ShipCounters.zero : ShipCounters :=
  { rxUser := 0, rxHeartbeat := 0, rxRequest := 0, txUser := 0, txGrant := 0, txReply := 0,
    txNotice := 0, dropForeign := 0, dropHeader := 0, dropKind := 0, dropLength := 0,
    dropCellOff := 0, dropNotServing := 0, dropUnknownTag := 0, dropNoBuffer := 0, dropPathFull := 0,
    dropEgressFull := 0, dropReqFull := 0 }

/-- The ship port at power-on (R4, R5, R9, R15, R184). That its link is up is a DESIGN CHOICE (log entry
3). -/
def Shi.powerOn : Shi :=
  { link := true, egress := [], requests := [], reply := none, transmitter := none, lastOwn := false,
    controller := none, counters := ShipCounters.zero }

/-- The Visitor Table at power-on: every entry FREE (R18, R35, R36). -/
def Vtb.powerOn : Vtb :=
  { entries := [], attaches := 0, blkNotAttached := 0, blkBarred := 0, blkExhausted := 0,
    blkPlanKind := 0, blkNoBackhaul := 0, blkNoCoverage := 0 }

/-- A tariff bank with every PRICE and FEE 0 (R38). -/
def tariffBankZero : TariffBank := Vector.replicate 16 (Vector.replicate 8 { price := 0, fee := 0 })

/-- The Rating Unit at power-on (R38, R41, R42). -/
def Rtu.powerOn : Rtu :=
  { bank0 := tariffBankZero, bank1 := tariffBankZero, activeBank := .b0,
    plans := Vector.replicate 8 { terrestrial := true, satellite := true },
    partners := Vector.replicate 128 Partner.powerOn }

/-- The Record Queue at power-on (R70, R71). -/
def Rcq.powerOn : Rcq :=
  { records := [], nextSeq := 0, cursorSeq := 0, limitSeq := 0, spills := 0 }

/-- The sweep engine at power-on (R92). -/
def Rse.powerOn : Rse :=
  { running := false, cursor := 0, closeReason := .interval, interval := 0, intervalTimer := none,
    reviews := 0, rateBreaks := 0, runs := 0 }

/-- The Zone Unit at power-on (R94, R95, R99, R101, R102, R105). -/
def Znu.powerOn : Znu :=
  { zones := Vector.replicate 32 ZoneRow.powerOn, defaultTerms := Terms.powerOn, fallback := .default,
    confirm := 3, timeout := 30, current := none, candidate := none, candidateCount := 0,
    positionState := .noFix, positionTimer := none, prevZone := none, changeCause := .none,
    lastLat := 0, lastLon := 0, reports := 0, zoneChanges := 0, fallbacks := 0 }

/-- The Path Selector's default settings (R130). -/
def SelectSettings.powerOn : SelectSettings :=
  { lossWeight := 40, rankStep := 50, hysteresis := 50, confirm := 3, holdDown := 30, period := 500 }

/-- The Path Selector at power-on, its period timer started (R128, R130, R144). -/
def Psl.powerOn : Psl :=
  { active := none, pin := none, candidate := none, costs := PerPath.const none, confirmCount := 0,
    confirmFor := none, holdDown := none, drain := PerPath.const none, period := some 500,
    lastFrom := none, lastCause := .none, settings := SelectSettings.powerOn, swaps := 0,
    forcedSwaps := 0, activations := 0, noBackhauls := 0 }

/-- The Downlink Resequencer at power-on (R145, R154). -/
def Drs.powerOn : Drs :=
  { locked := false, nextExpected := 0, slots := [], gapTimer := none, gapHold := 20, delivered := 0,
    duplicates := 0, late := 0, skipped := 0, jumps := 0, gapExpiries := 0, resyncs := 0 }

/-- A cell head record at power-on (R155, R168). -/
def CellHead.powerOn : CellHead :=
  { enable := false, base := 0, boost := 0, backup := none, join := 3, state := .absent,
    joinCount := 0, hbTimer := none, target := 0, pendingLevel := 0, activeLevel := 0,
    reportedLevel := 0, grantOwed := false, address := none, heartbeats := 0, joins := 0, losses := 0,
    decreases := 0, levelMismatches := 0 }

/-- The Coverage Unit at power-on, its grant timer started (R155, R157, R168). -/
def Cvu.powerOn : Cvu :=
  { cells := Vector.replicate 16 CellHead.powerOn, hbTimeout := 15, grantPeriod := 1000,
    grantTimer := some 1000, boundaries := 0, substitutions := 0 }

/-- The Control Frame Unit at power-on (R173, R174, R182). -/
def Cfu.powerOn : Cfu :=
  { faults := 0, faultRecord := { port := .ship, tag := 0, name := 0, reason := .unknownRequest },
    clock := 0, clockTicks := 0, restarts := 0, restart := none }

/-- A notice source clear and unarmed (R176). -/
def NoticeFlags.zero : NoticeFlags :=
  { pending := false, armed := false, raised := 0 }

/-- The Notice Unit at power-on (R176, R180). -/
def Ntu.powerOn : Ntu :=
  { pathLost := NoticeFlags.zero, noBackhaul := NoticeFlags.zero, coverage := NoticeFlags.zero,
    zoneChange := NoticeFlags.zero, positionStale := NoticeFlags.zero, pathSwap := NoticeFlags.zero,
    pathState := NoticeFlags.zero, recordHigh := NoticeFlags.zero, recordSpill := NoticeFlags.zero,
    credit := NoticeFlags.zero, surveyDone := NoticeFlags.zero, controlFault := NoticeFlags.zero,
    noticeSeq := 0, surveyPath := .sp0, creditList := [], creditOverflow := false, creditDrops := 0 }

/-- The time base at reset: DESIGN CHOICE, the manual gives the timestamp no value (log entry 2). -/
def Clocks.powerOn : Clocks :=
  { stamp := 0, tenth := 0 }

/-- The part right after power-on reset (R182), with no command waiting. -/
def State.reset : State :=
  { shi := Shi.powerOn, shore := PerPath.const ShorePort.powerOn, freeBuffers := Config.poolSize,
    uplinkSeq := 0, vtb := Vtb.powerOn, rtu := Rtu.powerOn, rcq := Rcq.powerOn, rse := Rse.powerOn,
    znu := Znu.powerOn, psv := PerPath.const Psv.powerOn, psl := Psl.powerOn, drs := Drs.powerOn,
    cvu := Cvu.powerOn, cfu := Cfu.powerOn, ntu := Ntu.powerOn, clocks := Clocks.powerOn, pending := [] }

end Sys2Proof.Machine
end

