-- ==== Sys2Proof/Machine/Table.lean ====
section
/-! DEFINITION. Tables by number in one canonical form: numbers strictly rising, and no listed value
equal to the one an unlisted number reads as. -/

namespace Sys2Proof.Machine

/-- The value of number k; an unlisted number reads as d. -/
def tableRead {α : Type} (d : α) : Table α → Nat → α
  | [], _ => d
  | (a, v) :: r, k => if k = a then v else tableRead d r k

/-- Gives number k the value v; writing d removes the listing. -/
def tableWrite {α : Type} [DecidableEq α] (d : α) : Table α → Nat → α → Table α
  | [], k, v => if v = d then [] else [(k, v)]
  | (a, w) :: r, k, v =>
    if k < a then (if v = d then (a, w) :: r else (k, v) :: (a, w) :: r)
    else if k = a then (if v = d then r else (k, v) :: r)
    else (a, w) :: tableWrite d r k v

/-- Applies f to every listed value. -/
def tableMap {α : Type} (f : α → α) (t : Table α) : Table α :=
  t.map (fun e => (e.1, f e.2))

/-- The canonical form of a table whose unlisted numbers read as d. -/
abbrev tableWf {α : Type} (d : α) (t : Table α) : Prop :=
  t.Pairwise (fun x y => x.1 < y.1) ∧ ∀ e ∈ t, e.2 ≠ d

end Sys2Proof.Machine
end

