-- ==== Sys2Proof/Machine/Ops.lean ====
section
/-! DEFINITION. The named operations over the state: one update for each block, the reads and writes of
one path, port, cell head or visitor, the counters and the buffer pool. -/

namespace Sys2Proof.Machine

/-! ## One update for each block -/

def State.setShi (s : State) (x : Shi) : State := { s with shi := x }
def State.setShore (s : State) (x : PerPath ShorePort) : State := { s with shore := x }
def State.setFreeBuffers (s : State) (x : Nat) : State := { s with freeBuffers := x }
def State.setUplinkSeq (s : State) (x : BitVec 16) : State := { s with uplinkSeq := x }
def State.setVtb (s : State) (x : Vtb) : State := { s with vtb := x }
def State.setRtu (s : State) (x : Rtu) : State := { s with rtu := x }
def State.setRcq (s : State) (x : Rcq) : State := { s with rcq := x }
def State.setRse (s : State) (x : Rse) : State := { s with rse := x }
def State.setZnu (s : State) (x : Znu) : State := { s with znu := x }
def State.setPsv (s : State) (x : PerPath Psv) : State := { s with psv := x }
def State.setPsl (s : State) (x : Psl) : State := { s with psl := x }
def State.setDrs (s : State) (x : Drs) : State := { s with drs := x }
def State.setCvu (s : State) (x : Cvu) : State := { s with cvu := x }
def State.setCfu (s : State) (x : Cfu) : State := { s with cfu := x }
def State.setNtu (s : State) (x : Ntu) : State := { s with ntu := x }
def State.setClocks (s : State) (x : Clocks) : State := { s with clocks := x }
def State.setPending (s : State) (x : List Instr) : State := { s with pending := x }

/-! ## One path, port, cell head or visitor -/

/-- The shore port of a path. -/
def State.port (s : State) (p : Path) : ShorePort := s.shore.get p

def State.setPort (s : State) (p : Path) (x : ShorePort) : State := s.setShore (s.shore.set p x)

/-- The supervisor of a path. -/
def State.path (s : State) (p : Path) : Psv := s.psv.get p

def State.setPath (s : State) (p : Path) (x : Psv) : State := s.setPsv (s.psv.set p x)

/-- A cell head record. -/
def State.cell (s : State) (c : Cell) : CellHead := s.cvu.cells[c]

def State.setCell (s : State) (c : Cell) (x : CellHead) : State :=
  s.setCvu { s.cvu with cells := s.cvu.cells.set c x }

/-- The visitor entry at an index; an index with no listed entry is FREE (R18, R20). -/
def State.visitor (s : State) (i : Nat) : Visitor := tableRead Visitor.freeEntry s.vtb.entries i

def State.setVisitor (s : State) (i : Nat) (v : Visitor) : State :=
  s.setVtb { s.vtb with entries := tableWrite Visitor.freeEntry s.vtb.entries i v }

/-- Changes the supervisor of one path. -/
def State.modPath (s : State) (p : Path) (f : Psv → Psv) : State := s.setPath p (f (s.path p))

/-- Changes one shore port. -/
def State.modPort (s : State) (p : Path) (f : ShorePort → ShorePort) : State :=
  s.setPort p (f (s.port p))

/-! ## Counters (R4) -/

/-- Changes the ship port's counters. -/
def State.countShip (s : State) (f : ShipCounters → ShipCounters) : State :=
  s.setShi { s.shi with counters := f s.shi.counters }

/-- Changes a shore port's counters. -/
def State.countShore (s : State) (p : Path) (f : ShoreCounters → ShoreCounters) : State :=
  s.setPort p { s.port p with counters := f (s.port p).counters }

/-! ## The buffer pool (R6) -/

/-- Returns n buffers to the free list. -/
def State.returnBuffers (s : State) (n : Nat) : State := s.setFreeBuffers (s.freeBuffers + n)

/-- Takes one buffer; the caller has found the free count above 0. -/
def State.takeBuffer (s : State) : State := s.setFreeBuffers (s.freeBuffers - 1)

/-! ## Timers -/

/-- Whether a timer is running. -/
def timerRunning (t : Timer) : Bool := t.isSome

/-- The milliseconds left on a timer, 0 when stopped (R144, R154, R168). -/
def timerLeft (t : Timer) : Nat := t.getD 0

/-- A running timer after one 1 ms tick. -/
def timerTick (t : Timer) : Timer := t.map (fun n => n - 1)

/-- Whether a running timer has come to its end. -/
def timerDue (t : Timer) : Bool := t == some 0

/-! ## Lists -/

/-- A 32-bit saturating count that rises by one (R35). -/
def saturateInc (top n : Nat) : Nat := min (n + 1) top

end Sys2Proof.Machine
end

