-- ==== Sys2Proof/Machine/Flags.lean ====
section
/-! DEFINITION. The flags of the part: PENDING, ARMED and RAISED of the notice sources (R176), the credit
notice list behind CREDIT (R180), the visitors' marks with the two pending counts, and the state of the
sweep engine that follows them (R82, R83, R89). -/

namespace Sys2Proof.Machine

/-! ## Notice sources -/

/-- The sources in order of priority (R176). -/
def sourcesAll : List Source :=
  [.pathLost, .noBackhaul, .coverage, .zoneChange, .positionStale, .pathSwap, .pathState, .recordHigh,
   .recordSpill, .credit, .surveyDone, .controlFault]

/-- The flags of a source. -/
def noticeGet (n : Ntu) : Source → NoticeFlags
  | .pathLost => n.pathLost
  | .noBackhaul => n.noBackhaul
  | .coverage => n.coverage
  | .zoneChange => n.zoneChange
  | .positionStale => n.positionStale
  | .pathSwap => n.pathSwap
  | .pathState => n.pathState
  | .recordHigh => n.recordHigh
  | .recordSpill => n.recordSpill
  | .credit => n.credit
  | .surveyDone => n.surveyDone
  | .controlFault => n.controlFault

/-- Replaces the flags of a source. -/
def noticeSet (n : Ntu) (x : Source) (f : NoticeFlags) : Ntu :=
  match x with
  | .pathLost => { n with pathLost := f }
  | .noBackhaul => { n with noBackhaul := f }
  | .coverage => { n with coverage := f }
  | .zoneChange => { n with zoneChange := f }
  | .positionStale => { n with positionStale := f }
  | .pathSwap => { n with pathSwap := f }
  | .pathState => { n with pathState := f }
  | .recordHigh => { n with recordHigh := f }
  | .recordSpill => { n with recordSpill := f }
  | .credit => { n with credit := f }
  | .surveyDone => { n with surveyDone := f }
  | .controlFault => { n with controlFault := f }

/-- Sets PENDING; RAISED counts the times it goes from clear to set (R176). -/
def raiseFlags (f : NoticeFlags) : NoticeFlags :=
  if f.pending then f else { f with pending := true, raised := f.raised + 1 }

/-- Sets a source pending (R176). -/
def raiseNotice (x : Source) (s : State) : State :=
  s.setNtu (noticeSet s.ntu x (raiseFlags (noticeGet s.ntu x)))

/-- Clears PENDING of a source (R111, R179, R180). -/
def clearPending (x : Source) (n : Ntu) : Ntu :=
  noticeSet n x { noticeGet n x with pending := false }

/-- A source is ready when it is both PENDING and ARMED (R176). -/
def noticeReady (n : Ntu) (x : Source) : Bool := (noticeGet n x).pending && (noticeGet n x).armed

/-! ## The credit notice list -/

/-- CREDIT is pending while the list is not empty or the overflow flag is set, and clear otherwise (R180). -/
def refreshCredit (s : State) : State :=
  if s.ntu.creditList ≠ [] ∨ s.ntu.creditOverflow = true then raiseNotice .credit s
  else s.setNtu (clearPending .credit s.ntu)

/-- Offers an index to the credit notice list (R180). -/
def offerCredit (i : Nat) (s : State) : State :=
  if i ∈ s.ntu.creditList then s
  else if s.ntu.creditList.length < Config.creditListSize then
    refreshCredit (s.setNtu { s.ntu with creditList := s.ntu.creditList ++ [i] })
  else
    refreshCredit (s.setNtu { s.ntu with
      creditOverflow := true, creditDrops := s.ntu.creditDrops + 1 })

/-- Removes the index of an entry that becomes FREE, where it stands in the list (R30, R180). -/
def dropCredit (i : Nat) (s : State) : State :=
  if i ∈ s.ntu.creditList then
    refreshCredit (s.setNtu { s.ntu with creditList := s.ntu.creditList.filter (· != i) })
  else s

/-! ## Marks and the sweep engine -/

/-- REVIEW_PENDING: the number of entries whose REVIEW_MARK is set (R82). -/
def reviewPending (s : State) : Nat := (s.vtb.entries.filter (fun e => e.2.reviewMark)).length

/-- CLOSE_PENDING: the number of entries whose CLOSE_MARK is set (R82). -/
def closePending (s : State) : Nat := (s.vtb.entries.filter (fun e => e.2.closeMark)).length

/-- Whether any mark is set. -/
def marksOwed (s : State) : Bool := s.vtb.entries.any (fun e => e.2.reviewMark || e.2.closeMark)

/-- The engine becomes RUNNING when a mark is set while it is IDLE, and IDLE, with RUNS rising by one, at
the moment no mark is left (R89). -/
def refreshEngine (s : State) : State :=
  match s.rse.running, marksOwed s with
  | false, true => s.setRse { s.rse with running := true }
  | true, false => s.setRse { s.rse with running := false, runs := s.rse.runs + 1 }
  | _, _ => s

/-- Whether an entry holds an open record by its lifecycle (R20). -/
def lifecycleOpen (l : Lifecycle) : Bool := l == .attached || l == .closing

def setReviewMark (v : Visitor) : Visitor :=
  if v.lifecycle = .free then v else { v with reviewMark := true }

def setPartnerReviewMark (n : Fin 128) (v : Visitor) : Visitor :=
  if v.lifecycle = .free ∨ v.partner ≠ n then v else { v with reviewMark := true }

def setCloseMark (v : Visitor) : Visitor :=
  if lifecycleOpen v.lifecycle then { v with closeMark := true } else v

/-- Bulk review marking of every entry that is not FREE (R83). -/
def bulkReview (s : State) : State :=
  refreshEngine (s.setVtb { s.vtb with entries := tableMap setReviewMark s.vtb.entries })

/-- Per-partner review marking (R83, R43). -/
def partnerReview (n : Fin 128) (s : State) : State :=
  refreshEngine (s.setVtb { s.vtb with entries := tableMap (setPartnerReviewMark n) s.vtb.entries })

/-- CLOSE_MARK on every ATTACHED and CLOSING entry (R84, R86). -/
def bulkClose (s : State) : State :=
  refreshEngine (s.setVtb { s.vtb with entries := tableMap setCloseMark s.vtb.entries })

end Sys2Proof.Machine
end

