-- ==== Sys2Proof/Machine/Rating.lean ====
section
/-! DEFINITION. Zone terms, roaming standing, price stages, the price snapshot and credit standing
(R21, R45, R46, R55, R99). -/

namespace Sys2Proof.Machine

/-- The terms of the current zone: its table entry, the DEFAULT record, or the fixed values of UNSET
(R99). -/
def zoneTerms (u : Znu) : Option Zone → Terms
  | none => Terms.powerOn
  | some .default => u.defaultTerms
  | some (.entry k) => u.zones[k].terms

def currentTerms (s : State) : Terms := zoneTerms s.znu s.znu.current

/-- ROAMING as it is evaluated now for a partner (R21). -/
def roamingNow (s : State) (partner : Fin 128) : Roaming :=
  s.rtu.partners[partner].policy[(currentTerms s).region]

/-- The rows of a bank. -/
def bankRows (u : Rtu) : Bank → TariffBank
  | .b0 => u.bank0
  | .b1 => u.bank1

/-- Row (region, plan) of the active bank (R38). -/
def activeRow (s : State) (r : Region) (plan : Fin 8) : TariffRow :=
  (bankRows s.rtu s.rtu.activeBank)[r][plan]

/-- The surcharge of stage 3: that of the active path, or 256 with no active path (R44, R45). -/
def activeSurcharge (s : State) : Nat :=
  match s.psl.active with
  | some p => (s.path p).config.surcharge
  | none => 256

/-- Stages 3 to 5 of the price of a record (R45). -/
def priceOf (price surcharge : Nat) (roaming : Roaming) (mult : Nat) : Nat :=
  let p1 := price * surcharge / 256
  let p2 := match roaming with
    | .surcharged => p1 * mult / 256
    | .permitted => p1
    | .barred => p1
  min p2 65535

/-- PRICE_EFF as the stages give it now for a visitor's plan, partner and ROAMING (R45). -/
def priceNow (s : State) (v : Visitor) : Nat :=
  priceOf (activeRow s (currentTerms s).region v.plan).price (activeSurcharge s) v.roaming
    s.rtu.partners[v.partner].mult

/-- A new open record for a visitor: the current snapshot, zero counters and the voyage clock
(R46, R63). -/
def openNow (s : State) (v : Visitor) : OpenRecord :=
  { zone := s.znu.current
    region := (currentTerms s).region
    path := s.psl.active
    priceEff := priceNow s v
    fee := (activeRow s (currentTerms s).region v.plan).fee
    bank := s.rtu.activeBank
    roaming := v.roaming
    bytesUp := 0
    bytesDown := 0
    freeBytes := 0
    pktsUp := 0
    pktsDown := 0
    feeCharged := 0
    charge := 0
    openTime := s.cfu.clock }

/-- CREDIT from LIMIT, LOW_MARK and CHARGED (R55). -/
def creditOf (limit : Option Nat) (lowMark charged : Nat) : Credit :=
  match limit with
  | none => .clear
  | some l => if l ≤ charged then .exhausted else if lowMark ≤ charged then .low else .clear

/-- The three moves of a credit standing that offer the visitor to the credit notice list (R56). -/
def creditWorsened : Credit → Credit → Bool
  | .clear, .low => true
  | .clear, .exhausted => true
  | .low, .exhausted => true
  | _, _ => false

/-- The bit of a zone in ZONES_CHARGED: k for zone k, 32 for DEFAULT. -/
def zoneBit : Zone → Nat
  | .default => 32
  | .entry k => k.val

def zoneCharged (set : BitVec 33) (z : Zone) : Bool := set.getLsbD (zoneBit z)

def zoneChargedAdd (set : BitVec 33) (z : Zone) : BitVec 33 := set ||| BitVec.twoPow 33 (zoneBit z)

end Sys2Proof.Machine
end

