-- ==== Sys2Proof/Machine/Records.lean ====
section
/-! DEFINITION. The open record's close, the record queue, reviews and the work a visitor's marks owe
(R62 to R73, R88). -/

namespace Sys2Proof.Machine

/-! ## Views of the record queue (R71) -/

/-- HELD. -/
def held (q : Rcq) : Nat := q.records.length

/-- HEAD_SEQ: the sequence of the head record, or NEXT_SEQ when the queue is empty. -/
def headSeq (q : Rcq) : BitVec 32 :=
  match q.records with
  | [] => q.nextSeq
  | r :: _ => r.seq

/-- The number of records in the queue that name an entry. -/
def queuedFor (q : Rcq) (i : Nat) : Nat := (q.records.filter (fun r => r.index == i)).length

/-- What a record has charged: CHARGE plus FEE_CHARGED (R53). -/
def recordCharge (r : OpenRecord) : Nat := r.charge + r.feeCharged

/-- A record holds traffic when it has counted a packet or charged a fee (R62). -/
def holdsTraffic (r : OpenRecord) : Bool :=
  decide (0 < r.pktsUp) || decide (0 < r.pktsDown) || decide (0 < r.feeCharged)

/-! ## The close of a record -/

/-- A closed record joins the tail; RECORD_HIGH is set pending at the 768th (R72). -/
def joinQueue (i : Nat) (tag : Tag) (reason : CloseReason) (r : OpenRecord) (s : State) : State :=
  let rec0 : Record :=
    { seq := s.rcq.nextSeq, index := i, tag := tag, reason := reason, closeTime := s.cfu.clock,
      contents := r }
  let s1 := s.setRcq { s.rcq with
    records := s.rcq.records ++ [rec0], nextSeq := s.rcq.nextSeq + 1 }
  if held s.rcq + 1 = Config.recordHighMark then raiseNotice .recordHigh s1 else s1

/-- A record spilled for want of queue space: its money moves into SPILLED (R73). -/
def spillRecord (i : Nat) (r : OpenRecord) (s : State) : State :=
  let v := s.visitor i
  let s1 := s.setVisitor i { v with
    spilled := v.spilled + recordCharge r, spillCount := saturateInc 65535 v.spillCount }
  raiseNotice .recordSpill (s1.setRcq { s1.rcq with spills := s1.rcq.spills + 1 })

/-- Opens a record for an entry in place of the one it holds (R63). -/
def reopen (i : Nat) (s : State) : State :=
  s.setVisitor i { s.visitor i with openRecord := some (openNow s (s.visitor i)) }

/-- The close of an entry's open record (R65). An entry without one is left as it is. -/
def closeRecord (i : Nat) (reason : CloseReason) (s : State) : State × CloseOutcome :=
  match (s.visitor i).openRecord with
  | none => (s, .empty)
  | some r =>
    if holdsTraffic r = false then (reopen i s, .empty)
    else if held s.rcq < Config.recordQueueSize then
      (reopen i (joinQueue i (s.visitor i).tag reason r s), .queued)
    else (reopen i (spillRecord i r s), .spilled)

/-- The close reason of a close owed by a mark (R67, R87). -/
def sweepCloseReason : SweepReason → CloseReason
  | .interval => .interval
  | .flush => .flush

/-! ## Reviews and owed work -/

/-- The first difference between an open record and the current conditions (R66). -/
def recordDifference (s : State) (v : Visitor) (r : OpenRecord) : Option CloseReason :=
  if r.zone ≠ s.znu.current then some .zone
  else if r.path ≠ s.psl.active then some .path
  else if r.priceEff ≠ priceNow s v then some .tariff
  else none

/-- A review: ROAMING is evaluated, then the open record, where there is one, is compared and closed at
the first difference (R66, R88). -/
def review (i : Nat) (s : State) : State :=
  let v := { s.visitor i with roaming := roamingNow s (s.visitor i).partner }
  let s1 := (s.setVisitor i v).setRse { s.rse with reviews := s.rse.reviews + 1 }
  match v.openRecord with
  | none => s1
  | some r =>
    match recordDifference s1 v r with
    | none => s1
    | some why =>
      (closeRecord i why (s1.setRse { s1.rse with rateBreaks := s1.rse.rateBreaks + 1 })).1

/-- Clears both marks of an entry (R28, R69). -/
def clearMarks (i : Nat) (s : State) : State :=
  s.setVisitor i { s.visitor i with reviewMark := false, closeMark := false }

/-- Step 1 of the owed work: the close owed by CLOSE_MARK (R88). -/
def owedClose (i : Nat) (s : State) : State :=
  if (s.visitor i).closeMark then
    let s1 := (closeRecord i (sweepCloseReason s.rse.closeReason) s).1
    s1.setVisitor i { s1.visitor i with closeMark := false }
  else s

/-- Step 2 of the owed work: the review owed by REVIEW_MARK (R88). -/
def owedReview (i : Nat) (s : State) : State :=
  if (s.visitor i).reviewMark then
    let s1 := review i s
    s1.setVisitor i { s1.visitor i with reviewMark := false }
  else s

/-- The work owed to an entry: the close, then the review, as one step (R88). An entry that carries
neither mark is left as it is (R90). -/
def owedWork (i : Nat) (s : State) : State :=
  if (s.visitor i).closeMark || (s.visitor i).reviewMark then
    refreshEngine (owedReview i (owedClose i s))
  else s

end Sys2Proof.Machine
end

