-- ==== Sys2Proof/Machine/Visitors.lean ====
section
/-! DEFINITION. The visitor table's shared operations: the tag map, the counts by lifecycle, attachment,
return to FREE, the admission check, refusals and the charge (R19, R24, R30, R33 to R36, R49 to R56). -/

namespace Sys2Proof.Machine

/-! ## Views of the table -/

/-- The tag map: the index of the entry that is not FREE and holds the tag; the tag 0 is not mapped
(R19). -/
def lookupTag (s : State) (t : Tag) : Option Nat :=
  if t = 0 then none
  else (s.vtb.entries.find? (fun e => e.2.lifecycle != .free && e.2.tag == t)).map (fun e => e.1)

/-- The number of entries in a lifecycle other than FREE (R36). -/
def lifecycleCount (s : State) (l : Lifecycle) : Nat :=
  (s.vtb.entries.filter (fun e => e.2.lifecycle == l)).length

/-! ## Lifecycle -/

/-- Attachment of a PROVISIONED entry (R24). -/
def attach (i : Nat) (s : State) : State :=
  let v := { s.visitor i with roaming := roamingNow s (s.visitor i).partner }
  let s1 := s.setVisitor i { v with
    lifecycle := .attached, reviewMark := false, openRecord := some (openNow s v) }
  refreshEngine (s1.setVtb { s1.vtb with attaches := s1.vtb.attaches + 1 })

/-- An entry becomes FREE: its tag is unmapped, its open record discarded, its index leaves the credit
notice list and every field takes its FREE value (R30). -/
def becomeFree (i : Nat) (s : State) : State :=
  refreshEngine (dropCredit i (s.setVisitor i Visitor.freeEntry))

/-! ## Admission -/

/-- Whether a plan allows a kind of path (R41). -/
def planAllows (p : Plan) : Kind → Bool
  | .terrestrial => p.terrestrial
  | .satellite => p.satellite

/-- Test 4: an active path exists and its KIND is not in the plan's ALLOWED_KINDS (R33). -/
def planForbids (s : State) (v : Visitor) : Bool :=
  match s.psl.active with
  | none => false
  | some p => !planAllows s.rtu.plans[v.plan] (s.path p).config.kind

/-- The admission check: the first test that fails, none when the packet is admitted; test 5 applies to
uplink checks only (R33). -/
def admission (uplink : Bool) (s : State) (v : Visitor) : Option Refused :=
  if v.lifecycle ≠ .attached then some .notAttached
  else if v.roaming = .barred then some .barred
  else if v.credit = .exhausted then some .exhausted
  else if planForbids s v then some .planKind
  else if uplink && s.psl.active.isNone then some .noBackhaul
  else none

/-- The refusal counter of a reason rises by one (R35). -/
def countRefusal (t : Vtb) : Refused → Vtb
  | .notAttached => { t with blkNotAttached := t.blkNotAttached + 1 }
  | .barred => { t with blkBarred := t.blkBarred + 1 }
  | .exhausted => { t with blkExhausted := t.blkExhausted + 1 }
  | .planKind => { t with blkPlanKind := t.blkPlanKind + 1 }
  | .noBackhaul => { t with blkNoBackhaul := t.blkNoBackhaul + 1 }
  | .noCoverage => { t with blkNoCoverage := t.blkNoCoverage + 1 }

/-- A packet of an entry is refused: BLOCKED, saturating, and the reason's counter (R35). -/
def blockPacket (i : Nat) (why : Refused) (s : State) : State :=
  let v := s.visitor i
  let s1 := s.setVisitor i { v with blocked := saturateInc Config.max32 v.blocked }
  s1.setVtb (countRefusal s1.vtb why)

/-! ## The charge -/

/-- The direction of a packet. -/
inductive Direction where
  | up
  | down
deriving DecidableEq, Repr

/-- BYTES_UP or BYTES_DOWN of a record. -/
def bytesOf (r : OpenRecord) : Direction → Nat
  | .up => r.bytesUp
  | .down => r.bytesDown

/-- Whether a packet of length n would carry a byte count past 2^32 - 1 (R68). -/
def volumeFull (r : OpenRecord) (n : Nat) (d : Direction) : Bool :=
  decide (Config.max32 < bytesOf r d + n) || decide (Config.max32 < r.freeBytes + n)

/-- Step 1 of a charge: the VOLUME close (R49, R68). -/
def volumeClose (i n : Nat) (d : Direction) (s : State) : State :=
  match (s.visitor i).openRecord with
  | none => s
  | some r => if volumeFull r n d then (closeRecord i .volume s).1 else s

/-- The entry fee of a charge: the record's FEE unless its zone is UNSET or already charged (R50). -/
def entryFee (v : Visitor) (r : OpenRecord) : Nat :=
  match r.zone with
  | none => 0
  | some z => if zoneCharged v.zonesCharged z then 0 else r.fee

/-- ZONES_CHARGED after a written charge (R50). -/
def zonesAfter (v : Visitor) (r : OpenRecord) : BitVec 33 :=
  match r.zone with
  | none => v.zonesCharged
  | some z => zoneChargedAdd v.zonesCharged z

/-- The free bytes of a charge of length n (R51). -/
def freeBytesOf (v : Visitor) (n : Nat) : Nat := min n v.allowance

/-- The total T of a charge, in units of 2^-20 CU (R52). -/
def volumeTotal (v : Visitor) (r : OpenRecord) (n : Nat) : Nat :=
  (n - freeBytesOf v n) * r.priceEff + v.carry

/-- The volume charge c (R52). -/
def volumeCharge (v : Visitor) (r : OpenRecord) (n : Nat) : Nat :=
  volumeTotal v r n / Config.carryUnit

/-- The record after a written charge (R53). -/
def recordCharged (v : Visitor) (r : OpenRecord) (n : Nat) (d : Direction) : OpenRecord :=
  let r1 := { r with
    feeCharged := r.feeCharged + entryFee v r
    charge := r.charge + volumeCharge v r n
    freeBytes := r.freeBytes + freeBytesOf v n }
  match d with
  | .up => { r1 with bytesUp := r1.bytesUp + n, pktsUp := r1.pktsUp + 1 }
  | .down => { r1 with bytesDown := r1.bytesDown + n, pktsDown := r1.pktsDown + 1 }

/-- CHARGED after a written charge (R53). -/
def chargedAfter (v : Visitor) (r : OpenRecord) (n : Nat) : Nat :=
  v.charged + (entryFee v r + volumeCharge v r n)

/-- The entry after a written charge, CREDIT evaluated against the new CHARGED (R50 to R53, R55). -/
def visitorCharged (v : Visitor) (r : OpenRecord) (n : Nat) (d : Direction) : Visitor :=
  { v with
    charged := chargedAfter v r n
    allowance := v.allowance - freeBytesOf v n
    carry := volumeTotal v r n % Config.carryUnit
    zonesCharged := zonesAfter v r
    openRecord := some (recordCharged v r n d)
    credit := creditOf v.limit v.lowMark (chargedAfter v r n) }

/-- A charge that passes the ceiling test is written, and a worsened standing offered (R49, R56). -/
def writeCharge (i n : Nat) (d : Direction) (v : Visitor) (r : OpenRecord) (s : State) : State :=
  let v1 := visitorCharged v r n d
  let s1 := s.setVisitor i v1
  if creditWorsened v.credit v1.credit then offerCredit i s1 else s1

/-- The charge of a packet of length n against an entry; the second part says whether it was written,
or refused by the ceiling test (R49, R54). -/
def charge (i n : Nat) (d : Direction) (s : State) : State × Bool :=
  let s1 := volumeClose i n d s
  let v := s1.visitor i
  match v.openRecord with
  | none => (s1, false)
  | some r =>
    if Config.chargedMax < chargedAfter v r n then (blockPacket i .exhausted s1, false)
    else (writeCharge i n d v r s1, true)

end Sys2Proof.Machine
end

