-- ==== Sys2Proof/Machine/Coverage.lean ====
section
/-! DEFINITION. The Coverage Unit: targets, levels, heartbeats, the events of its timers and the downlink
forwarding choice (R155 to R169). -/

namespace Sys2Proof.Machine

/-- The cell heads in ascending order of number. -/
def cellsAll : List Cell := List.finRange 16

/-- A cell head is boosted when another cell head whose BACKUP names it is LOST (R155). -/
def boosted (u : Cvu) (c : Cell) : Bool :=
  cellsAll.any (fun d => d != c && u.cells[d].state == .lost && u.cells[d].backup == some c)

/-- TARGET of a cell head under a cap (R161). -/
def targetOf (cap : Nat) (u : Cvu) (c : Cell) : Nat :=
  let h := u.cells[c]
  if h.state = .serving then
    min cap (if boosted u c then h.base + h.boost else h.base)
  else 0

/-- Applies a new target: a fall at once with a GRANT owed, a rise as pending (R162). -/
def applyTarget (t : Nat) (h : CellHead) : CellHead :=
  if t < h.activeLevel then
    { h with target := t, pendingLevel := t, activeLevel := t, grantOwed := true,
             decreases := h.decreases + 1 }
  else { h with target := t, pendingLevel := t }

/-- The targets of all sixteen cell heads are worked out again and applied (R162). -/
def retargetUnder (cap : Nat) (u : Cvu) : Cvu :=
  { u with cells := Vector.ofFn (fun c => applyTarget (targetOf cap u c) u.cells[c]) }

def retarget (s : State) : State := s.setCvu (retargetUnder (currentTerms s).cap s.cvu)

/-- A GRANT becomes owed to a cell head; the owed set holds it once (R164). -/
def oweGrant (h : CellHead) : CellHead := { h with grantOwed := true }

/-- The levels of a cell head that leaves SERVING (R160). -/
def leaveServing (h : CellHead) : CellHead :=
  let h1 := { h with target := 0, pendingLevel := 0, activeLevel := 0 }
  if 0 < h.activeLevel then { h1 with grantOwed := true, decreases := h.decreases + 1 } else h1

/-- The heartbeat timer as it is started (R157, R158). -/
def heartbeatStart (u : Cvu) : Timer := some (u.hbTimeout * 100)

/-- What a heartbeat does to the state, count and timer of its cell head (R158). -/
def heartbeatAdvance (u : Cvu) (h : CellHead) : CellHead :=
  match h.state with
  | .absent => { h with state := .joining, joinCount := 1, hbTimer := heartbeatStart u }
  | .lost => { h with state := .joining, joinCount := 1, hbTimer := heartbeatStart u }
  | .joining => { h with joinCount := h.joinCount + 1, hbTimer := heartbeatStart u }
  | .serving => { h with hbTimer := heartbeatStart u }

/-- A JOINING cell head whose count has reached JOIN becomes SERVING (R158). -/
def heartbeatJoin (h : CellHead) : CellHead :=
  if h.state = .joining ∧ h.join ≤ h.joinCount then
    { h with state := .serving, joins := h.joins + 1 }
  else h

/-- The level check that ends a heartbeat's step (R164). -/
def levelCheck (level : Nat) (h : CellHead) : CellHead :=
  if h.activeLevel < level then
    { h with levelMismatches := h.levelMismatches + 1, grantOwed := true }
  else h

/-- A HEARTBEAT handed to the Coverage Unit (R158, R164). -/
def heartbeat (c : Cell) (level : Nat) (s : State) : State :=
  let h0 := s.cell c
  let h1 := { h0 with reportedLevel := level, heartbeats := h0.heartbeats + 1 }
  let h2 := heartbeatJoin (heartbeatAdvance s.cvu h1)
  let s1 := s.setCell c h2
  let s2 := if h2.state ≠ h0.state then retarget s1 else s1
  s2.setCell c (levelCheck level (s2.cell c))

/-- The expiry of a cell head's heartbeat timer (R159). -/
def heartbeatLoss (c : Cell) (s : State) : State :=
  let h := s.cell c
  let h1 := { h with state := .lost, joinCount := 0, hbTimer := none, losses := h.losses + 1 }
  let h2 := if h.state = .serving then leaveServing h1 else h1
  retarget (raiseNotice .coverage (s.setCell c h2))

/-- A grant boundary for one cell head (R163). -/
def boundaryCell (h : CellHead) : CellHead :=
  if h.state = .serving then oweGrant { h with activeLevel := h.pendingLevel } else h

/-- The grant boundary (R163). -/
def grantBoundaryUnit (u : Cvu) : Cvu :=
  { u with
    cells := Vector.ofFn (fun c => boundaryCell u.cells[c])
    boundaries := u.boundaries + 1
    grantTimer := some u.grantPeriod }

/-- Whether a cell head can carry downlink: SERVING with ACTIVE_LEVEL above 0 (R166). -/
def carries (h : CellHead) : Bool := h.state == .serving && decide (0 < h.activeLevel)

/-- The downlink forwarding choice: the cell head, and whether it is the backup; none for NO_COVERAGE
(R166). -/
def forwardingChoice (s : State) (v : Visitor) : Option (Cell × Bool) :=
  match v.servingCell with
  | none => none
  | some c =>
    if carries (s.cell c) then some (c, false)
    else match (s.cell c).backup with
      | none => none
      | some b => if carries (s.cell b) then some (b, true) else none

/-- A cell head at PART_RESTART (R169). -/
def cellRestart (h : CellHead) : CellHead :=
  { h with state := .absent, hbTimer := none, joinCount := 0, target := 0, pendingLevel := 0,
           activeLevel := 0, reportedLevel := 0, grantOwed := false }

/-- The Coverage Unit at PART_RESTART; the owed grant set is emptied by R17 (R169). -/
def coverageRestart (u : Cvu) : Cvu :=
  { u with
    cells := Vector.ofFn (fun c => cellRestart u.cells[c])
    grantTimer := some u.grantPeriod }

/-! ## Meanings -/

/-- HEARTBEAT_TIMER_EXPIRY (R159). The timer runs in JOINING and SERVING; without a running timer, or with
no such cell head, the event does not occur. -/
def execHeartbeatTimerExpiry (c : Nat) (s : State) : Host.Outcome State Fault Refusal :=
  if h : c < 16 then
    if timerRunning (s.cell ⟨c, h⟩).hbTimer then .next (heartbeatLoss ⟨c, h⟩ s) else .next s
  else .next s

/-- GRANT_BOUNDARY (R163). -/
def execGrantBoundary (s : State) : Host.Outcome State Fault Refusal :=
  .next (s.setCvu (grantBoundaryUnit s.cvu))

end Sys2Proof.Machine
end

