-- ==== Sys2Proof/Machine/Selector.lean ====
section
/-! DEFINITION. The Path Selector: cost, candidate, swap, NO_BACKHAUL, forced swaps, activation from none,
evaluation and the events of its timers (R128 to R144, R16). -/

namespace Sys2Proof.Machine

/-! ## Due supervision frames -/

def isPathSwap : Due → Bool
  | .pathSwap _ => true
  | _ => false

def isFill : Due → Bool
  | .fill => true
  | _ => false

def isPathOpen : Due → Bool
  | .pathOpen => true
  | _ => false

def isEcho : Due → Bool
  | .echo _ _ => true
  | _ => false

/-- A supervision frame becomes due on a port (R12). -/
def makeDue (p : Path) (d : Due) (s : State) : State :=
  s.setPort p { s.port p with due := (s.port p).due ++ [d] }

/-- The due frames of a port that satisfy a test are withdrawn. -/
def withdrawDue (p : Path) (f : Due → Bool) (s : State) : State :=
  s.setPort p { s.port p with due := (s.port p).due.filter (fun d => !f d) }

/-- Every due PATH_SWAP frame is withdrawn (R135). -/
def withdrawPathSwap (s : State) : State :=
  Path.all.foldl (fun s p => withdrawDue p isPathSwap s) s

/-! ## Cost and candidate -/

/-- A path's place in an order, 0..3 (R94, R131). -/
def rankOf (r : Rank) (p : Path) : Nat :=
  if r.first = p then 0 else if r.second = p then 1 else if r.third = p then 2 else 3

def isUp (s : State) (p : Path) : Bool := (s.path p).state == .up

/-- Whether the current zone permits a path (R99). -/
def permitted (s : State) (p : Path) : Bool := (currentTerms s).pathMask.get p

/-- A path is eligible when it is UP and permitted by the current zone (R132). -/
def eligible (s : State) (p : Path) : Bool := isUp s p && permitted s p

/-- LOSS_COUNT: the LOST outcomes in the loss window (R122). -/
def lossCount (v : Psv) : Nat := (v.lossWindow.filter (fun b => b)).length

/-- The cost of a path (R131). -/
def costOf (s : State) (p : Path) : Nat :=
  min 65535 ((s.path p).srtt / 10 + lossCount (s.path p) * s.psl.settings.lossWeight
    + rankOf (currentTerms s).rank p * s.psl.settings.rankStep)

/-- The COST items: a cost for every UP path (R132, R144). -/
def costsNow (s : State) : PerPath (Option Nat) :=
  PerPath.tabulate (fun p => if isUp s p then some (costOf s p) else none)

/-- The cheaper of two eligible paths, the earlier one where they cost the same (R132). -/
def cheaper (s : State) (best : Option Path) (p : Path) : Option Path :=
  if eligible s p then
    match best with
    | none => some p
    | some b => if costOf s p < costOf s b then some p else some b
  else best

/-- The eligible path of lowest cost, the lowest-numbered of equals (R132). -/
def cheapest (s : State) : Option Path := Path.all.foldl (cheaper s) none

/-- The candidate: the pinned path where it is eligible, otherwise the cheapest (R132). -/
def candidateNow (s : State) : Option Path :=
  match s.psl.pin with
  | some p => if eligible s p then some p else cheapest s
  | none => cheapest s

/-- A computation writes CANDIDATE and the costs (R132). -/
def computeCandidate (s : State) : State :=
  s.setPsl { s.psl with candidate := candidateNow s, costs := costsNow s }

/-! ## The swap -/

/-- A path's drain window opens for its DRAIN (R136). -/
def openDrain (p : Path) (s : State) : State :=
  s.setPsl { s.psl with drain := s.psl.drain.set p (some (s.path p).config.drain) }

def closeDrain (p : Path) (s : State) : State :=
  s.setPsl { s.psl with drain := s.psl.drain.set p none }

/-- A path just left opens its drain window when it is still UP (R134, R136, R137). -/
def drainIfUp (p : Path) (s : State) : State := if isUp s p then openDrain p s else s

/-- Step 1 of a swap: the queue of the path left becomes the new path's queue, whole and in order, and
the path left has a FILL that is due withdrawn (R16, R123). -/
def splice (a b : Path) (s : State) : State :=
  let moved := (s.port a).txQueue
  let s1 := s.setPort a { s.port a with txQueue := [] }
  let s2 := s1.setPort b { s1.port b with txQueue := moved }
  withdrawDue a isFill s2

/-- The count for the cause of a swap (R144). -/
def countSwap (p : Psl) : SwapCause → Psl
  | .forced => { p with forcedSwaps := p.forcedSwaps + 1 }
  | .restored => { p with activations := p.activations + 1 }
  | .evaluated => { p with swaps := p.swaps + 1 }
  | .pinned => { p with swaps := p.swaps + 1 }
  | .none => p

/-- Step 5 of a swap: the drain window of the path left opens if it is UP, and the new path's closes
(R134). -/
def swapDrain (a : Option Path) (b : Path) (s : State) : State :=
  closeDrain b (match a with
    | none => s
    | some p => drainIfUp p s)

/-- A swap to b, in the order of its seven steps (R134). -/
def swapTo (b : Path) (cause : SwapCause) (s : State) : State :=
  let a := s.psl.active
  let s1 := match a with
    | none => s
    | some p => splice p b s
  let s2 := s1.setPsl { s1.psl with active := some b, lastFrom := a, lastCause := cause }
  let s3 := makeDue b (.pathSwap a) (withdrawPathSwap s2)
  let s4 := bulkReview s3
  let s5 := swapDrain a b s4
  let s6 := s5.setPsl { s5.psl with
    holdDown := some (s5.psl.settings.holdDown * 1000), confirmCount := 0, confirmFor := none }
  raiseNotice .pathSwap (s6.setPsl (countSwap s6.psl cause))

/-- The queue of the old active path is emptied, its buffers returned uncharged and counted in FLUSHED
(R16). -/
def flushQueue (p : Path) (s : State) : State :=
  let n := (s.port p).txQueue.length
  let s1 := s.setPort p { s.port p with txQueue := [] }
  (s1.countShore p (fun c => { c with flushed := c.flushed + BitVec.ofNat 32 n })).returnBuffers n

/-- Entry into NO_BACKHAUL from an active path (R137). -/
def enterNoBackhaul (a : Path) (s : State) : State :=
  let s1 := withdrawDue a isFill (flushQueue a s)
  let s2 := withdrawPathSwap (s1.setPsl { s1.psl with active := none })
  let s3 := drainIfUp a (bulkReview s2)
  raiseNotice .noBackhaul (s3.setPsl { s3.psl with
    confirmCount := 0, confirmFor := none, noBackhauls := s3.psl.noBackhauls + 1 })

/-- The active path is left at once: a forced swap to the candidate, or NO_BACKHAUL (R137, R138). -/
def leaveActive (a : Path) (s : State) : State :=
  let s1 := computeCandidate s
  match s1.psl.candidate with
  | some b => swapTo b .forced s1
  | none => enterNoBackhaul a s1

/-- With ACTIVE none, a path that has become eligible is made active (R139). -/
def activate (s : State) : State :=
  if Path.all.any (eligible s) then
    let s1 := computeCandidate s
    match s1.psl.candidate with
    | some b => swapTo b .restored s1
    | none => s1
  else s

/-! ## What the supervisors and the Zone Unit hand over -/

/-- A path has entered UP: PATH_STATE, and activation when no path is active and this one is permitted
(R125, R139). -/
def pathEntersUp (p : Path) (s : State) : State :=
  let s1 := raiseNotice .pathState s
  if s1.psl.active = none ∧ permitted s1 p = true then activate s1 else s1

/-- A path has left UP: PATH_STATE, its PATH_SWAP frame withdrawn, its drain window closed, and a forced
swap when it was active (R125, R135, R136, R138). -/
def pathLeavesUp (p : Path) (s : State) : State :=
  let s1 := closeDrain p (withdrawDue p isPathSwap (raiseNotice .pathState s))
  if s1.psl.active = some p then leaveActive p s1 else s1

/-- The selector's part of a zone change (R104, R138, R139). -/
def selectorZoneChange (s : State) : State :=
  match s.psl.active with
  | some a => if permitted s a then s else leaveActive a s
  | none => activate s

/-! ## Evaluation (R140) -/

/-- CONFIRM_COUNT and CONFIRM_FOR are cleared. -/
def clearConfirm (s : State) : State :=
  s.setPsl { s.psl with confirmCount := 0, confirmFor := none }

/-- The count after one more favouring evaluation (R140). -/
def confirmNext (p : Psl) (b : Path) : Nat :=
  if p.confirmFor = some b then min (p.confirmCount + 1) p.settings.confirm else 1

/-- The count advances, and the swap is made when it has reached CONFIRM with hold-down stopped (R140). -/
def advanceConfirm (b : Path) (s : State) : State :=
  let s1 := s.setPsl { s.psl with confirmCount := confirmNext s.psl b, confirmFor := some b }
  if s1.psl.confirmCount = s1.psl.settings.confirm ∧ s1.psl.holdDown = none then swapTo b .evaluated s1
  else s1

/-- Whether the candidate is cheaper than the active path by more than the margin (R140). -/
def favoured (p : Psl) (a b : Path) : Bool :=
  match p.costs.get b, p.costs.get a with
  | some cb, some ca => decide (cb + p.settings.hysteresis < ca)
  | _, _ => false

/-- The first case of R140 that applies, after the candidate has been computed. -/
def evaluateCases (s : State) : State :=
  match s.psl.active, s.psl.candidate with
  | some a, some b =>
    if b = a then clearConfirm s
    else if s.psl.pin = some b then
      if s.psl.holdDown = none then swapTo b .pinned s else clearConfirm s
    else if favoured s.psl a b then advanceConfirm b s
    else clearConfirm s
  | _, _ => clearConfirm s

/-- An evaluation, with the period timer started again (R140). -/
def evaluate (s : State) : State :=
  let s1 := evaluateCases (computeCandidate s)
  s1.setPsl { s1.psl with period := some s1.psl.settings.period }

/-- The selector at PART_RESTART (R143). -/
def selectorRestart (s : State) : State :=
  let s1 := s.setPsl { s.psl with
    active := none, pin := none, candidate := none, confirmFor := none, confirmCount := 0,
    costs := PerPath.const none, holdDown := none, drain := PerPath.const none,
    period := some s.psl.settings.period }
  bulkReview (withdrawPathSwap s1)

/-! ## Meanings -/

/-- DRAIN_WINDOW_EXPIRY (R136); without a running timer the event does not occur. -/
def execDrainWindowExpiry (p : Path) (s : State) : Host.Outcome State Fault Refusal :=
  if timerRunning (s.psl.drain.get p) then .next (closeDrain p s) else .next s

/-- HOLD_DOWN_EXPIRY (R141): the timer stops, with no evaluation and no swap. -/
def execHoldDownExpiry (s : State) : Host.Outcome State Fault Refusal :=
  .next (s.setPsl { s.psl with holdDown := none })

/-- PERIOD_TIMER_EXPIRY (R140). -/
def execPeriodTimerExpiry (s : State) : Host.Outcome State Fault Refusal :=
  .next (evaluate s)

end Sys2Proof.Machine
end

