-- ==== Sys2Proof/Machine/Zones.lean ====
section
/-! DEFINITION. The Zone Unit's shared operations: position matching, debounce, the zone change and the
position timer's expiry (R99 to R104). -/

namespace Sys2Proof.Machine

/-- Whether a zone's box contains a position (R101). -/
def boxContains (z : ZoneRow) (lat lon : Int) : Bool :=
  decide (z.latMin ≤ lat ∧ lat ≤ z.latMax) &&
    (if z.lonMin ≤ z.lonMax then decide (z.lonMin ≤ lon ∧ lon ≤ z.lonMax)
     else decide (z.lonMin ≤ lon ∨ lon ≤ z.lonMax))

/-- The match of a position: the VALID entry of lowest index whose box contains it, or DEFAULT (R101). -/
def matchZone (u : Znu) (lat lon : Int) : Zone :=
  match (List.finRange 32).find? (fun k => u.zones[k].valid && boxContains u.zones[k] lat lon) with
  | some k => .entry k
  | none => .default

/-- The candidate and its count are cleared (R97, R98, R102, R103). -/
def clearCandidate (u : Znu) : Znu := { u with candidate := none, candidateCount := 0 }

/-- The debounce of a match, before the count is compared with CONFIRM (R101). -/
def debounce (u : Znu) (m : Zone) : Znu :=
  if u.current = some m then clearCandidate u
  else if u.candidate = some m then { u with candidateCount := u.candidateCount + 1 }
  else { u with candidate := some m, candidateCount := 1 }

/-- The record of a zone change: PREV_ZONE, CHANGE_CAUSE, ZONE_CHANGES, and the zone that is current
after it (R104). -/
def zoneRecord (u : Znu) (z : Zone) (cause : ChangeCause) : Znu :=
  { u with prevZone := u.current, changeCause := cause, zoneChanges := u.zoneChanges + 1,
           current := some z }

/-- A zone change, with its effects in the other blocks (R104). -/
def zoneChange (z : Zone) (cause : ChangeCause) (s : State) : State :=
  let s1 := s.setZnu (zoneRecord s.znu z cause)
  raiseNotice .zoneChange (selectorZoneChange (retarget (bulkReview s1)))

/-- The zone that becomes current when the position goes stale (R102). -/
def fallbackZone (u : Znu) : Zone :=
  match u.fallback with
  | .default => .default
  | .entry k => if u.zones[k].valid then .entry k else .default

/-- The expiry of the position timer (R102). -/
def positionExpiry (s : State) : State :=
  let s1 := s.setZnu { s.znu with positionState := .stale, positionTimer := none }
  let z := fallbackZone s1.znu
  let s2 := if s1.znu.current = some z then s1 else zoneChange z .fallback s1
  let s3 := s2.setZnu { clearCandidate s2.znu with fallbacks := s2.znu.fallbacks + 1 }
  raiseNotice .positionStale s3

/-- A valid report: it is counted and held, the timer starts and the state becomes FRESH, and its match is
debounced (R100, R101, R102). -/
def reportTaken (u : Znu) (lat lon : Int) : Znu :=
  let u1 := { u with
    positionState := .fresh, positionTimer := some (u.timeout * 1000), lastLat := lat, lastLon := lon,
    reports := u.reports + 1 }
  debounce u1 (matchZone u lat lon)

/-- Whether the debounce has just confirmed its candidate (R101). -/
def confirmedZone (u : Znu) : Option Zone :=
  match u.candidate with
  | none => none
  | some z => if u.confirm ≤ u.candidateCount then some z else none

/-- A valid report with any zone change it makes; the second part says whether it made one (R100, R101). -/
def positionReport (lat lon : Int) (s : State) : State × Bool :=
  let u := reportTaken s.znu lat lon
  match confirmedZone u with
  | none => (s.setZnu u, false)
  | some z => (zoneChange z .report (s.setZnu (clearCandidate u)), true)

/-- The Zone Unit at PART_RESTART (R101, R102). -/
def zoneRestart (u : Znu) : Znu :=
  let u1 := clearCandidate u
  if u.positionState = .fresh then { u1 with positionTimer := some (u.timeout * 1000) }
  else { u1 with positionTimer := none }

/-! ## Meanings -/

/-- POSITION_TIMER_EXPIRY (R102); the timer runs while the state is FRESH, and without a running timer the
event does not occur. -/
def execPositionTimerExpiry (s : State) : Host.Outcome State Fault Refusal :=
  if timerRunning s.znu.positionTimer then .next (positionExpiry s) else .next s

end Sys2Proof.Machine
end

