-- ==== Sys2Proof/Machine/Supervisor.lean ====
section
/-! DEFINITION. The Path Supervisors: bring-up, the survey, probing, measurement, fill frames, loopback
test, carrier, and the events of their timers (R107 to R127). -/

namespace Sys2Proof.Machine

/-- The probe interval in milliseconds (R107). -/
def probeInterval (c : PathConfig) : Nat := 10 * c.prescale * c.postscale

/-- The recovery gap as it starts: 2 probe intervals (R117). -/
def gapStart (c : PathConfig) : Timer := some (2 * probeInterval c)

/-- The path becomes SETTLING with the settle timer started (R110, R112, R114, R116). -/
def startSettle (v : Psv) : Psv :=
  { v with state := .settling, settleTimer := some (v.config.settle * 100) }

/-! ## The survey (R116) -/

/-- Eight probes not yet sent. -/
def surveySetEmpty : List SurveyEntry := List.replicate Config.surveyProbes .unsent

/-- A survey starts with its first probe due (R116). -/
def startSurvey (p : Path) (s : State) : State :=
  makeDue p (.surveyProbe 0) (s.modPath p (fun v =>
    { v with survey := .inFlight { entries := surveySetEmpty, dueCount := 1, spacing := some 10 } }))

/-- A survey starts at once, or is deferred to the end of a running recovery gap (R115, R117, R118). -/
def startOrDefer (p : Path) (s : State) : State :=
  if timerRunning (s.path p).gap then s.modPath p (fun v => { v with survey := .deferred })
  else startSurvey p s

/-- Whether a survey entry is resolved. -/
def entryResolved : SurveyEntry → Bool
  | .unsent => false
  | .inFlight _ _ _ => false
  | .echoed _ _ => true
  | .lost _ => true

/-- The samples of the entries resolved ECHOED. -/
def surveySamples (es : List SurveyEntry) : List Nat :=
  es.filterMap (fun e => match e with
    | .echoed _ x => some x
    | .unsent => none
    | .inFlight _ _ _ => none
    | .lost _ => none)

/-- The smallest of a list of samples, 0 for none. -/
def samplesMin : List Nat → Nat
  | [] => 0
  | x :: xs => xs.foldl min x

/-- The greatest of a list of samples, 0 for none. -/
def samplesMax (xs : List Nat) : Nat := xs.foldl max 0

/-- The survey record written at completion (R116). -/
def surveyResult (c : PathConfig) (es : List SurveyEntry) : SurveyRecord :=
  let xs := surveySamples es
  { echoed := xs.length
    minRtt := samplesMin xs
    maxRtt := samplesMax xs
    pass := decide (c.surveyPass ≤ xs.length ∧ samplesMax xs ≤ c.surveyLimit * 10) }

/-- A bring-up survey that passes takes the path to UP (R116, R120, R123). -/
def passToUp (v : Psv) : Psv :=
  { v with
    state := .up
    srtt := v.surveyRecord.maxRtt
    lossWindow := lossWindowFull
    outstanding := []
    probeTimer := some (probeInterval v.config)
    idleTimer := some 50
    bringups := v.bringups + 1 }

/-- The completion of a survey: the record is written, the set emptied, SURVEYS rises and the recovery
gap starts; then the path's state decides (R116, R118). -/
def completeSurvey (p : Path) (es : List SurveyEntry) (s : State) : State :=
  let s1 := s.modPath p (fun v =>
    { v with surveyRecord := surveyResult v.config es, survey := .idle, surveys := v.surveys + 1,
             gap := gapStart v.config })
  match (s1.path p).state with
  | .surveying =>
    if (s1.path p).surveyRecord.pass then pathEntersUp p (s1.modPath p passToUp)
    else s1.modPath p startSettle
  | .up =>
    let s2 := raiseNotice .surveyDone s1
    s2.setNtu { s2.ntu with surveyPath := p }
  | .disabled => s1
  | .down => s1
  | .settling => s1
  | .opening => s1
  | .test => s1

/-- The survey set takes new entries; the survey completes when all eight are resolved (R116). -/
def updateSurvey (p : Path) (run : SurveyRun) (es : List SurveyEntry) (s : State) : State :=
  if es.all entryResolved then completeSurvey p es s
  else s.modPath p (fun v => { v with survey := .inFlight { run with entries := es } })

/-- The in-flight entry of an id becomes ECHOED with a sample. -/
def echoEntry (id : BitVec 8) (sample : Nat) : SurveyEntry → SurveyEntry
  | .inFlight j t l => if j = id then .echoed j sample else .inFlight j t l
  | .unsent => .unsent
  | .echoed j x => .echoed j x
  | .lost j => .lost j

/-- The in-flight entry of an id becomes LOST. -/
def loseEntry (id : BitVec 8) : SurveyEntry → SurveyEntry
  | .inFlight j t l => if j = id then .lost j else .inFlight j t l
  | .unsent => .unsent
  | .echoed j x => .echoed j x
  | .lost j => .lost j

/-- The send timestamp of the in-flight entry of an id. -/
def inFlightStamp (id : BitVec 8) (es : List SurveyEntry) : Option (BitVec 32) :=
  es.findSome? (fun e => match e with
    | .inFlight j t _ => if j = id then some t else none
    | .unsent => none
    | .echoed _ _ => none
    | .lost _ => none)

/-- The survey set of a path, empty with no survey in flight. -/
def surveySet (v : Psv) : List SurveyEntry :=
  match v.survey with
  | .inFlight run => run.entries
  | .idle => []
  | .deferred => []

/-! ## Clean-up (R109, R117) -/

/-- The survey part of the clean-up: an abort starts the recovery gap when asked to, and a deferred start
is cancelled. -/
def abortSurvey (withGap : Bool) (v : Psv) : Psv :=
  match v.survey with
  | .inFlight _ => { v with survey := .idle, gap := if withGap then gapStart v.config else v.gap }
  | .deferred => { v with survey := .idle }
  | .idle => v

/-- The clean-up of a path (R109). -/
def cleanUp (withGap : Bool) (p : Path) (s : State) : State :=
  let s1 := s.modPath p (fun v =>
    { abortSurvey withGap v with
      settleTimer := none, openTimer := none, probeTimer := none, idleTimer := none,
      outstanding := [] })
  withdrawDue p (fun d => !isPathSwap d) s1

/-! ## Measurement (R122) -/

/-- The sample of a probe sent at a timestamp (R122). -/
def sampleOf (s : State) (sent : BitVec 32) : Nat := min (s.clocks.stamp - sent).toNat Config.sampleMax

/-- An outcome joins the loss window and the oldest leaves it (R122). -/
def windowPush (lost : Bool) (w : List Bool) : List Bool := (lost :: w).take Config.lossWindowSize

/-- A steady probe resolved as LOST (R121, R122). -/
def resolveLost (v : Psv) : Psv :=
  let v1 := { v with losses := v.losses + 1 }
  if v.state = .up then { v1 with lossWindow := windowPush true v.lossWindow } else v1

/-- A steady probe resolved as RECEIVED with a sample (R121, R122). -/
def resolveReceived (sample : Nat) (v : Psv) : Psv :=
  let v1 := { v with echoes := v.echoes + 1, lastRtt := sample }
  if v.state = .up then
    { v1 with srtt := (7 * v.srtt + sample) / 8, lossWindow := windowPush false v.lossWindow }
  else v1

/-- The entry of the outstanding probe list with an id. -/
def outstandingFind (id : BitVec 8) (v : Psv) : Option Probe := v.outstanding.find? (fun x => x.id == id)

/-- The outstanding probe list without an id. -/
def outstandingDrop (id : BitVec 8) (v : Psv) : Psv :=
  { v with outstanding := v.outstanding.filter (fun x => x.id != id) }

/-! ## Supervision frames that arrive -/

def countIgnored (p : Path) (s : State) : State :=
  s.modPath p (fun v => { v with ignored := v.ignored + 1 })

def countStray (p : Path) (s : State) : State :=
  s.modPath p (fun v => { v with strayEchoes := v.strayEchoes + 1 })

/-- A PATH_ACCEPT (R115). -/
def acceptArrives (p : Path) (s : State) : State :=
  if (s.path p).state = .opening then
    startOrDefer p (s.modPath p (fun v => { v with state := .surveying, openTimer := none }))
  else countIgnored p s

/-- The survey record of a TEST path after a returned probe (R124). -/
def testRecord (sample : Nat) (r : SurveyRecord) : SurveyRecord :=
  { r with
    echoed := min (r.echoed + 1) 8
    minRtt := if r.echoed = 0 then sample else min r.minRtt sample
    maxRtt := max r.maxRtt sample }

/-- A probe that has returned in TEST (R124). -/
def testReturn (id : BitVec 8) (sample : Nat) (v : Psv) : Psv :=
  let v1 := outstandingDrop id v
  { v1 with
    lastRtt := sample, echoes := v1.echoes + 1, surveyRecord := testRecord sample v1.surveyRecord }

/-- A PROBE from the shore is answered, unless 16 answers are due on the port (R119). -/
def answerProbe (p : Path) (id : BitVec 8) (value : BitVec 32) (s : State) : State :=
  if ((s.port p).due.filter isEcho).length < Config.answersDueMax then
    makeDue p (.echo id value) (s.modPath p (fun v => { v with answered := v.answered + 1 }))
  else countIgnored p s

/-- A PROBE (R119, R124). -/
def probeArrives (p : Path) (id : BitVec 8) (value : BitVec 32) (s : State) : State :=
  match (s.path p).state with
  | .opening => answerProbe p id value s
  | .surveying => answerProbe p id value s
  | .up => answerProbe p id value s
  | .test =>
    match outstandingFind id (s.path p) with
    | some x => s.modPath p (testReturn id (sampleOf s x.stamp))
    | none => countIgnored p s
  | .disabled => countIgnored p s
  | .down => countIgnored p s
  | .settling => countIgnored p s

/-- A PROBE_ECHO outside TEST: taken by the outstanding list, else by the survey set, else stray (R116,
R119, R121). -/
def echoTaken (p : Path) (id : BitVec 8) (s : State) : State :=
  match outstandingFind id (s.path p) with
  | some x => s.modPath p (fun v => resolveReceived (sampleOf s x.stamp) (outstandingDrop id v))
  | none =>
    match (s.path p).survey with
    | .inFlight run =>
      match inFlightStamp id run.entries with
      | some t =>
        updateSurvey p run (run.entries.map (echoEntry id (sampleOf s t)))
          (s.modPath p (fun v => { v with lastRtt := sampleOf s t }))
      | none => countStray p s
    | .idle => countStray p s
    | .deferred => countStray p s

/-- A PROBE_ECHO; in TEST it is stray (R119, R121, R124). -/
def echoArrives (p : Path) (id : BitVec 8) (s : State) : State :=
  if (s.path p).state = .test then countStray p s else echoTaken p id s

/-! ## Probes taken to send (R120, R121) -/

/-- The ids that stand in the outstanding probe list or the survey set. -/
def idsInUse (v : Psv) : List (BitVec 8) :=
  v.outstanding.map (fun x => x.id) ++ (surveySet v).filterMap (fun e => match e with
    | .unsent => none
    | .inFlight j _ _ => some j
    | .echoed j _ => some j
    | .lost j => some j)

/-- The first id from a starting one on that is not in use, within a number of tries. -/
def skipUsed (used : List (BitVec 8)) : Nat → BitVec 8 → BitVec 8
  | 0, id => id
  | n + 1, id => if id ∈ used then skipUsed used n (id + 1) else id

/-- NEXT_ID advances by one modulo 256, passing over any id in use (R120). -/
def advanceId (v : Psv) : Psv := { v with nextId := skipUsed (idsInUse v) 256 (v.nextId + 1) }

/-- The age at which a probe sent now is lost, in milliseconds (R120). -/
def probeDeadline (c : PathConfig) : Nat := c.probeTimeout * probeInterval c

/-- The oldest entry of a full outstanding list is resolved as LOST (R121). -/
def makeRoom (v : Psv) : Psv :=
  if v.outstanding.length < Config.outstandingMax then v
  else resolveLost { v with outstanding := v.outstanding.drop 1 }

/-- A steady probe is taken: it joins the outstanding list with its id, timestamp and deadline (R120,
R121). -/
def takeSteadyProbe (stamp : BitVec 32) (v : Psv) : Psv :=
  let v1 := makeRoom v
  let entry : Probe := { id := v1.nextId, stamp := stamp, left := probeDeadline v1.config }
  advanceId { v1 with outstanding := v1.outstanding ++ [entry], probes := v1.probes + 1 }

/-- A survey probe is taken: its entry is IN_FLIGHT (R116, R120). -/
def takeSurveyProbe (k : Fin 8) (stamp : BitVec 32) (v : Psv) : Psv :=
  match v.survey with
  | .inFlight run =>
    let entry : SurveyEntry := .inFlight v.nextId stamp (probeDeadline v.config)
    advanceId { v with
      survey := .inFlight { run with entries := run.entries.set k.val entry }
      probes := v.probes + 1 }
  | .idle => advanceId { v with probes := v.probes + 1 }
  | .deferred => advanceId { v with probes := v.probes + 1 }

/-! ## The events of the timers -/

/-- A PATH_OPEN becomes due, unless one is still due (R114). -/
def pathOpenDue (p : Path) (s : State) : State :=
  if (s.port p).due.any isPathOpen then s else makeDue p .pathOpen s

/-- The settle timer expires (R114). -/
def settleExpiry (p : Path) (s : State) : State :=
  pathOpenDue p (s.modPath p (fun v =>
    { v with state := .opening, settleTimer := none, openCount := 1, openTimer := some 100 }))

/-- The open timer expires (R114). -/
def openExpiry (p : Path) (s : State) : State :=
  if (s.path p).openCount < Config.openAttempts then
    pathOpenDue p (s.modPath p (fun v =>
      { v with openCount := v.openCount + 1, openTimer := some 100 }))
  else
    s.modPath p (fun v => startSettle { v with openTimer := none, openFails := v.openFails + 1 })

/-- The next survey probe becomes due, and the spacing to the one after it starts (R116). -/
def surveyNext (p : Path) (run : SurveyRun) (s : State) : State :=
  if h : run.dueCount < 8 then
    makeDue p (.surveyProbe ⟨run.dueCount, h⟩) (s.modPath p (fun v =>
      { v with survey := .inFlight { run with
          dueCount := run.dueCount + 1
          spacing := if run.dueCount + 1 < 8 then some 10 else none } }))
  else s

/-- The probe timer expires (R120): in TEST a probe is made due only with carrier. -/
def probeExpiry (p : Path) (s : State) : State :=
  let s1 := s.modPath p (fun v => { v with probeTimer := some (probeInterval v.config) })
  if (s.path p).state = .test ∧ (s.port p).carrier = false then s1 else makeDue p .probe s1

/-- The idle timer expires: a FILL on the active path where none is due (R123). -/
def idleExpiry (p : Path) (s : State) : State :=
  let s1 := s.modPath p (fun v => { v with idleTimer := some 50 })
  if s.psl.active = some p ∧ (s.port p).due.any isFill = false then makeDue p .fill s1 else s1

/-- The recovery gap ends, and a deferred survey starts if the path is still SURVEYING or UP (R117). -/
def gapEnd (p : Path) (s : State) : State :=
  let s1 := s.modPath p (fun v => { v with gap := none })
  if (s1.path p).survey = .deferred then
    if (s1.path p).state = .surveying ∨ (s1.path p).state = .up then startSurvey p s1
    else s1.modPath p (fun v => { v with survey := .idle })
  else s1

/-- The deadline of a probe passes (R116, R121, R124). -/
def deadlineExpiry (p : Path) (id : BitVec 8) (s : State) : State :=
  match outstandingFind id (s.path p) with
  | some _ => s.modPath p (fun v => resolveLost (outstandingDrop id v))
  | none =>
    match (s.path p).survey with
    | .inFlight run =>
      match inFlightStamp id run.entries with
      | some _ => updateSurvey p run (run.entries.map (loseEntry id)) s
      | none => s
    | .idle => s
    | .deferred => s

/-! ## Carrier (R5, R12, R112) -/

/-- Whether a path is in one of the four states that a carrier loss takes to DOWN (R112). -/
def carrierState : PathState → Bool
  | .settling => true
  | .opening => true
  | .surveying => true
  | .up => true
  | .disabled => false
  | .down => false
  | .test => false

/-- Carrier arrives (R112). -/
def carrierArrives (p : Path) (s : State) : State :=
  let s1 := s.modPort p (fun x => { x with carrier := true })
  if (s.path p).state = .down then s1.modPath p startSettle else s1

/-- What carrier loss does to the port: the request queue and reply slot are emptied and counted in
DROP_REQ_LOST, and a frame in transmission ends (R5, R12). -/
def portLosesCarrier (x : ShorePort) : ShorePort :=
  let n := x.requests.length + (if x.reply.isSome then 1 else 0)
  { x with
    carrier := false
    requests := []
    reply := none
    transmitter := none
    counters := { x.counters with dropReqLost := x.counters.dropReqLost + BitVec.ofNat 32 n } }

/-- The path's part of a carrier loss: LOST_LATCH, CARRIER_LOSSES, DOWN (R112). -/
def pathLosesCarrier (v : Psv) : Psv :=
  { v with lostLatch := true, carrierLosses := v.carrierLosses + 1, state := .down }

/-- Carrier is lost (R112, R125). -/
def carrierLost (p : Path) (s : State) : State :=
  let s1 := s.modPort p portLosesCarrier
  if carrierState (s.path p).state then
    let s2 := raiseNotice .pathLost ((cleanUp true p s1).modPath p pathLosesCarrier)
    if (s.path p).state = .up then pathLeavesUp p s2 else s2
  else s1

/-! ## Requests on a path -/

/-- PATH_DISABLE acts: the clean-up, DISABLED, PATH_LOST not pending, and the effects of leaving UP (R111;
log entry 9). -/
def disablePath (p : Path) (s : State) : State :=
  if (s.path p).state = .disabled then s
  else
    let s1 := (cleanUp true p s).modPath p (fun v => { v with state := .disabled })
    let s2 := s1.setNtu (clearPending .pathLost s1.ntu)
    if (s.path p).state = .up then pathLeavesUp p s2 else s2

/-- A path put into service: SETTLING with carrier, otherwise DOWN (R110, R126). -/
def enterService (carrier : Bool) (v : Psv) : Psv :=
  if carrier then startSettle v else { v with state := .down }

/-- PATH_ENABLE acts (R110). -/
def enablePath (p : Path) (s : State) : State :=
  match (s.path p).state with
  | .disabled => s.modPath p (enterService (s.port p).carrier)
  | .test => s.modPath p (fun v =>
      enterService (s.port p).carrier { v with outstanding := [], probeTimer := none })
  | .down => s
  | .settling => s
  | .opening => s
  | .surveying => s
  | .up => s

/-- A path enters TEST (R124). -/
def enterTest (v : Psv) : Psv :=
  { v with
    state := .test, outstanding := [], surveyRecord := SurveyRecord.powerOn,
    probeTimer := some (probeInterval v.config) }

/-- One path at PART_RESTART (R126). -/
def pathRestart (p : Path) (s : State) : State :=
  match (s.path p).state with
  | .disabled => s.modPath p (fun v => { v with gap := none })
  | .test => (cleanUp false p s).modPath p (fun v => { v with gap := none, state := .disabled })
  | .down => (cleanUp false p s).modPath p (fun v =>
      enterService (s.port p).carrier { v with gap := none, lostLatch := true })
  | .settling => (cleanUp false p s).modPath p (fun v =>
      enterService (s.port p).carrier { v with gap := none, lostLatch := true })
  | .opening => (cleanUp false p s).modPath p (fun v =>
      enterService (s.port p).carrier { v with gap := none, lostLatch := true })
  | .surveying => (cleanUp false p s).modPath p (fun v =>
      enterService (s.port p).carrier { v with gap := none, lostLatch := true })
  | .up => (cleanUp false p s).modPath p (fun v =>
      enterService (s.port p).carrier { v with gap := none, lostLatch := true })

/-! ## Meanings -/

/-- CARRIER_ARRIVAL (R112); with carrier already present the event does not occur. -/
def execCarrierArrival (p : Path) (s : State) : Host.Outcome State Fault Refusal :=
  if (s.port p).carrier then .next s else .next (carrierArrives p s)

/-- CARRIER_LOSS (R112, R5, R12); without carrier the event does not occur. -/
def execCarrierLoss (p : Path) (s : State) : Host.Outcome State Fault Refusal :=
  if (s.port p).carrier then .next (carrierLost p s) else .next s

/-- SETTLE_TIMER_EXPIRY (R114); without a running timer the event does not occur. -/
def execSettleTimerExpiry (p : Path) (s : State) : Host.Outcome State Fault Refusal :=
  if timerRunning (s.path p).settleTimer then .next (settleExpiry p s) else .next s

/-- OPEN_TIMER_EXPIRY (R114); without a running timer the event does not occur. -/
def execOpenTimerExpiry (p : Path) (s : State) : Host.Outcome State Fault Refusal :=
  if timerRunning (s.path p).openTimer then .next (openExpiry p s) else .next s

/-- SURVEY_PROBE_DUE (R116); with no survey in flight that awaits a probe the event does not occur. -/
def execSurveyProbeDue (p : Path) (s : State) : Host.Outcome State Fault Refusal :=
  match (s.path p).survey with
  | .inFlight run => if timerRunning run.spacing then .next (surveyNext p run s) else .next s
  | .idle => .next s
  | .deferred => .next s

/-- PROBE_TIMER_EXPIRY (R120); without a running timer the event does not occur. -/
def execProbeTimerExpiry (p : Path) (s : State) : Host.Outcome State Fault Refusal :=
  if timerRunning (s.path p).probeTimer then .next (probeExpiry p s) else .next s

/-- PROBE_DEADLINE_EXPIRY (R121, R116); a deadline whose probe is already resolved finds nothing. -/
def execProbeDeadlineExpiry (p : Path) (id : BitVec 8) (s : State) :
    Host.Outcome State Fault Refusal :=
  .next (deadlineExpiry p id s)

/-- IDLE_TIMER_EXPIRY (R123); without a running timer the event does not occur. -/
def execIdleTimerExpiry (p : Path) (s : State) : Host.Outcome State Fault Refusal :=
  if timerRunning (s.path p).idleTimer then .next (idleExpiry p s) else .next s

/-- RECOVERY_GAP_END (R117); without a running gap the event does not occur. -/
def execRecoveryGapEnd (p : Path) (s : State) : Host.Outcome State Fault Refusal :=
  if timerRunning (s.path p).gap then .next (gapEnd p s) else .next s

end Sys2Proof.Machine
end

