-- ==== Sys2Proof/Machine/Formats.lean ====
section
/-! DEFINITION. Byte order, the codes of enumerated values, and the layout of every frame and record the
part sends (12_frame_and_record_formats.md). -/

namespace Sys2Proof.Machine

/-! ## Byte order -/

/-- The n low bytes of a number, most significant first. -/
def beBytes : Nat → Nat → List Byte
  | 0, _ => []
  | n + 1, v => beBytes n (v / 256) ++ [BitVec.ofNat 8 v]

/-- The number written by bytes, most significant first. -/
def beNat (bs : List Byte) : Nat := bs.foldl (fun a b => a * 256 + b.toNat) 0

/-- The n bytes of a frame from an offset on. -/
def slice (bs : List Byte) (off n : Nat) : List Byte := (bs.drop off).take n

/-- The field of n bytes at an offset, as a number. -/
def field (bs : List Byte) (off n : Nat) : Nat := beNat (slice bs off n)

/-- The byte at an offset, 0 past the end of the frame. -/
def byteAt (bs : List Byte) (off : Nat) : Nat := field bs off 1

/-! ## Names -/

/-- The characters of a name as ASCII codes. -/
def nameCodes (cs : List Char) : List Nat := cs.map Char.toNat

/-- A name of up to 16 ASCII characters, left-aligned and padded with zero bytes. -/
def nameOfChars (cs : List Char) : Name :=
  BitVec.ofNat 128 (((nameCodes cs) ++ List.replicate (16 - cs.length) 0).foldl
    (fun a c => a * 256 + c) 0)

/-- A name written as a string. -/
def nm (x : String) : Name := nameOfChars x.toList

/-- The decimal digits of a number below 100. -/
def digits (n : Nat) : List Char :=
  if n < 10 then [Char.ofNat (48 + n)] else [Char.ofNat (48 + n / 10), Char.ofNat (48 + n % 10)]

/-- A name with a number behind it, such as STATE_0. -/
def nmK (x : String) (k : Nat) : Name := nameOfChars (x.toList ++ digits k)

/-- The name of a request or of a notice source as it stands in a frame. -/
def sourceName : Source → Name
  | .pathLost => nm "PATH_LOST"
  | .noBackhaul => nm "NO_BACKHAUL"
  | .coverage => nm "COVERAGE"
  | .zoneChange => nm "ZONE_CHANGE"
  | .positionStale => nm "POSITION_STALE"
  | .pathSwap => nm "PATH_SWAP"
  | .pathState => nm "PATH_STATE"
  | .recordHigh => nm "RECORD_HIGH"
  | .recordSpill => nm "RECORD_SPILL"
  | .credit => nm "CREDIT"
  | .surveyDone => nm "SURVEY_DONE"
  | .controlFault => nm "CONTROL_FAULT"

/-! ## Codes of enumerated values -/

/-- The priority of a notice source, 1..12 (R176). -/
def sourcePriority : Source → Nat
  | .pathLost => 1
  | .noBackhaul => 2
  | .coverage => 3
  | .zoneChange => 4
  | .positionStale => 5
  | .pathSwap => 6
  | .pathState => 7
  | .recordHigh => 8
  | .recordSpill => 9
  | .credit => 10
  | .surveyDone => 11
  | .controlFault => 12

def statusCode : Status → Nat
  | .done => 0
  | .busy => 1
  | .refusedIndex => 2
  | .refusedState => 3
  | .duplicate => 4
  | .notPermitted => 5
  | .malformed => 6

def lifecycleCode : Lifecycle → Nat
  | .free => 0
  | .provisioned => 1
  | .attached => 2
  | .closing => 3

def roamingCode : Roaming → Nat
  | .permitted => 0
  | .surcharged => 1
  | .barred => 2

def creditCode : Credit → Nat
  | .clear => 0
  | .low => 1
  | .exhausted => 2

def kindCode : Kind → Nat
  | .terrestrial => 0
  | .satellite => 1

def zoneNum : Zone → Nat
  | .default => 32
  | .entry k => k.val

/-- A zone, with -1 for UNSET or for a candidate of none. -/
def zoneCode : Option Zone → Int
  | none => -1
  | some z => zoneNum z

/-- A path, with -1 for none. -/
def pathCode : Option Path → Int
  | none => -1
  | some p => p.num

/-- A cell head, with -1 for none. -/
def cellCode : Option Cell → Int
  | none => -1
  | some c => c.val

/-- LIMIT, with -1 for UNLIMITED. -/
def limitCode : Option Nat → Int
  | none => -1
  | some l => l

def bankCode : Bank → Nat
  | .b0 => 0
  | .b1 => 1

def closeReasonCode : CloseReason → Nat
  | .zone => 0
  | .path => 1
  | .tariff => 2
  | .interval => 3
  | .flush => 4
  | .removed => 5
  | .volume => 6
  | .restart => 7

def closeOutcomeCode : CloseOutcome → Nat
  | .queued => 0
  | .spilled => 1
  | .empty => 2

def pathStateCode : PathState → Nat
  | .disabled => 0
  | .down => 1
  | .settling => 2
  | .opening => 3
  | .surveying => 4
  | .up => 5
  | .test => 6

def surveyCode : Survey → Nat
  | .idle => 0
  | .inFlight _ => 1
  | .deferred => 2

def cellStateCode : CellState → Nat
  | .absent => 0
  | .joining => 1
  | .serving => 2
  | .lost => 3

def positionStateCode : PositionState → Nat
  | .noFix => 0
  | .fresh => 1
  | .stale => 2

def changeCauseCode : ChangeCause → Nat
  | .none => 0
  | .report => 1
  | .fallback => 2
  | .force => 3
  | .load => 4

def swapCauseCode : SwapCause → Nat
  | .none => 0
  | .evaluated => 1
  | .pinned => 2
  | .forced => 3
  | .restored => 4

def portCode : Port → Nat
  | .shore p => p.num
  | .ship => 4

def reasonCode : Reason → Nat
  | .unknownRequest => 0
  | .repeatedItem => 1
  | .missingItem => 2
  | .badValue => 3

def boolCode (b : Bool) : Nat := if b then 1 else 0

/-- A set of notice sources: the sum of 2^(p - 1) over the sources of priority p in it. -/
def sourceSet (f : Source → Bool) : Nat :=
  sourcesAll.foldl (fun a x => if f x then a + 2 ^ (sourcePriority x - 1) else a) 0

/-! ## Items -/

/-- A result item. -/
def item (x : String) (v : Int) : Item := { name := nm x, value := v }

/-- A result item whose name ends in a number. -/
def itemK (x : String) (k : Nat) (v : Int) : Item := { name := nmK x k, value := v }

/-- A result item with a counter's value. -/
def itemC (x : String) {w : Nat} (v : BitVec w) : Item := item x v.toNat

/-- The 24 bytes of an item: its name, then its signed value. -/
def itemBytes (i : Item) : List Byte :=
  beBytes 16 i.name.toNat ++ beBytes 8 (BitVec.ofInt 64 i.value).toNat

/-! ## The usage record (64 bytes) -/

/-- ZONE in the layout of a record: 0..31, DEFAULT 32, UNSET 0xFF. -/
def zoneByte : Option Zone → Nat
  | none => 255
  | some z => zoneNum z

/-- PATH in the layout of a record, and FROM of PATH_SWAP: 0..3, none 0xFF. -/
def pathByte : Option Path → Nat
  | none => 255
  | some p => p.num

/-- The layout of a closed usage record. -/
def recordBytes (r : Record) : List Byte :=
  let o := r.contents
  beBytes 4 r.seq.toNat ++ beBytes 4 r.tag.toNat ++ beBytes 2 r.index ++
  beBytes 1 (closeReasonCode r.reason) ++ beBytes 1 (zoneByte o.zone) ++ beBytes 1 o.region.val ++
  beBytes 1 (pathByte o.path) ++ beBytes 1 (roamingCode o.roaming) ++ beBytes 1 (bankCode o.bank) ++
  beBytes 2 o.priceEff ++ beBytes 2 o.fee ++ beBytes 4 o.openTime.toNat ++
  beBytes 4 r.closeTime.toNat ++ beBytes 4 o.bytesUp ++ beBytes 4 o.bytesDown ++
  beBytes 4 o.freeBytes ++ beBytes 4 o.pktsUp ++ beBytes 4 o.pktsDown ++ beBytes 6 o.feeCharged ++
  beBytes 6 o.charge ++ beBytes 4 0

/-! ## Cell frames -/

/-- A USER frame to a cell head. -/
def userBytes (e : EgressEntry) : List Byte :=
  beBytes 1 0x01 ++ beBytes 1 e.cell.val ++ beBytes 1 0 ++ beBytes 1 0 ++ beBytes 4 e.tag.toNat ++
  beBytes 2 e.length ++ e.packet

/-- A GRANT frame to a cell head. -/
def grantBytes (c : Cell) (level : Nat) : List Byte :=
  beBytes 1 0x03 ++ beBytes 1 c.val ++ beBytes 1 level ++ beBytes 1 0 ++ beBytes 4 0 ++ beBytes 2 0

/-! ## Shore tunnel frames -/

/-- The 16-byte header of a shore tunnel frame. -/
def tunnelHeader (kind path seq tag id leaving value length : Nat) : List Byte :=
  beBytes 1 kind ++ beBytes 1 path ++ beBytes 2 seq ++ beBytes 4 tag ++ beBytes 1 id ++
  beBytes 1 leaving ++ beBytes 4 value ++ beBytes 2 length

/-- A DATA frame with the uplink sequence. -/
def dataBytes (p : Path) (seq : BitVec 16) (e : UplinkEntry) : List Byte :=
  tunnelHeader 0x10 p.num seq.toNat e.tag.toNat 0 0 0 e.length ++ e.packet

def probeBytes (p : Path) (id : BitVec 8) (stamp : BitVec 32) : List Byte :=
  tunnelHeader 0x11 p.num 0 0 id.toNat 0 stamp.toNat 0

def probeEchoBytes (p : Path) (id : BitVec 8) (value : BitVec 32) : List Byte :=
  tunnelHeader 0x12 p.num 0 0 id.toNat 0 value.toNat 0

/-- A FILL frame with the uplink sequence as it stands (R123). -/
def fillBytes (p : Path) (seq : BitVec 16) : List Byte := tunnelHeader 0x13 p.num seq.toNat 0 0 0 0 0

def pathOpenBytes (p : Path) : List Byte := tunnelHeader 0x14 p.num 0 0 0 0 0 0

/-- A PATH_SWAP frame: the new path, the path left, the uplink sequence and where the resequencer stands
(R135). -/
def pathSwapBytes (p : Path) (leaving : Option Path) (seq : BitVec 16) (d : Drs) : List Byte :=
  tunnelHeader 0x16 p.num seq.toNat 0 (boolCode d.locked) (pathByte leaving)
    (if d.locked then d.nextExpected.toNat else 0) 0

/-! ## Control frames -/

/-- The 24-byte header of a control frame and its items. -/
def controlBytes (kind status tag flags : Nat) (name : Name) (items : List Item) : List Byte :=
  beBytes 1 kind ++ beBytes 1 status ++ beBytes 2 tag ++ beBytes 1 flags ++ beBytes 1 0 ++
  beBytes 2 items.length ++ beBytes 16 name.toNat ++ items.flatMap itemBytes

/-- FLAGS of a reply: 0x01 ADJUSTED, 0x02 IGNORED_ITEM. -/
def replyFlags (r : Reply) : Nat := boolCode r.adjusted + 2 * boolCode r.ignoredItem

/-- A REPLY frame, or the RECORDS frame that answers every request named RECORD_DRAIN (R75, R185). -/
def replyBytes (r : Reply) : List Byte :=
  controlBytes (if r.name = nm "RECORD_DRAIN" then 0x23 else 0x21) (statusCode r.status) r.tag.toNat
    (replyFlags r) r.name r.items ++ r.records.flatMap recordBytes

/-- A NOTICE frame; its items begin with CLOCK (R177, R185). -/
def noticeBytes (seq : BitVec 16) (x : Source) (items : List Item) : List Byte :=
  controlBytes 0x22 0 seq.toNat 0 (sourceName x) items

/-! ## Addresses (R184) -/

/-- The broadcast address. -/
def broadcast : Mac := 0xFFFFFFFFFFFF

/-- The address a frame goes to: the learned one, or broadcast where none is learned. -/
def destination (a : Option Mac) : Mac := a.getD broadcast

/-- The Ethernet frame a transmitter of a port sends: destination, the port's own address, the type
0x88B6 and the bytes of the frame (R184). -/
def wireBytes (port : Port) (f : TxFrame) : List Byte :=
  beBytes 6 f.dst.toNat ++ beBytes 6 (Config.portAddress port).toNat ++ beBytes 2 0x88B6 ++ f.body

end Sys2Proof.Machine
end

