-- ==== Sys2Proof/Machine/Resequencer.lean ====
section
/-! DEFINITION. The downlink delivery handling and the Downlink Resequencer (R13, R14, R145 to R154). -/

namespace Sys2Proof.Machine

/-! ## The delivery handling (R14) -/

/-- A packet refused for an entry has its buffer returned (R35). -/
def refuseHeld (i : Nat) (why : Refused) (s : State) : State := (blockPacket i why s).returnBuffers 1

/-- Steps 5 to 7: egress space, the charge and the ship egress queue, for the cell head chosen. -/
def deliverCharged (i : Nat) (h : Held) (c : Cell) (s : State) : State :=
  if Config.egressQueueSize ≤ s.shi.egress.length then
    (s.countShip (fun n => { n with dropEgressFull := n.dropEgressFull + 1 })).returnBuffers 1
  else
    let r := charge i h.length .down s
    if r.2 then
      r.1.setShi { r.1.shi with egress := r.1.shi.egress ++
        [{ packet := h.packet, tag := h.tag, length := h.length, cell := c }] }
    else r.1.returnBuffers 1

/-- SUBSTITUTIONS rises when the backup is chosen (R166). -/
def countSubstitution (backup : Bool) (s : State) : State :=
  if backup then s.setCvu { s.cvu with substitutions := s.cvu.substitutions + 1 } else s

/-- Steps 3 and 4: the admission check and the forwarding choice. -/
def deliverTo (i : Nat) (h : Held) (s : State) : State :=
  match admission false s (s.visitor i) with
  | some why => refuseHeld i why s
  | none =>
    match forwardingChoice s (s.visitor i) with
    | none => refuseHeld i .noCoverage s
    | some (c, backup) => deliverCharged i h c (countSubstitution backup s)

/-- The handling of a downlink packet, from the lookup of its tag on (R14). -/
def downlinkDelivery (h : Held) (s : State) : State :=
  match lookupTag s h.tag with
  | none =>
    (s.countShore h.port (fun n => { n with dropUnknownTag := n.dropUnknownTag + 1 })).returnBuffers 1
  | some i => deliverTo i h (owedWork i s)

/-! ## The resequencer -/

/-- The distance of a sequence from NEXT_EXPECTED (R145). -/
def seqDistance (d : Drs) (q : BitVec 16) : Nat := (q - d.nextExpected).toNat

/-- HELD_COUNT (R146). -/
def heldCount (d : Drs) : Nat := d.slots.length

/-- DELIVERED rises and the packet is handed on (R151). -/
def deliver (h : Held) (s : State) : State :=
  downlinkDelivery h (s.setDrs { s.drs with delivered := s.drs.delivered + 1 })

/-- NEXT_EXPECTED advances past a packet, which is delivered; the slots listed are those left (R148). -/
def deliverNext (h : Held) (left : List Held) (s : State) : State :=
  deliver h (s.setDrs { s.drs with slots := left, nextExpected := s.drs.nextExpected + 1 })

/-- The consecutive run at NEXT_EXPECTED is delivered from the slots (R148). -/
def deliverRun : List Held → State → State
  | [], s => s
  | h :: left, s =>
    if h.seq = s.drs.nextExpected then deliverRun left (deliverNext h left s) else s

/-- The packets listed are delivered in order (R149, R152). -/
def deliverAll : List Held → State → State
  | [], s => s
  | h :: left, s => deliverAll left (deliver h s)

/-- A packet joins the occupied slots in order of distance. -/
def slotInsert (d : Drs) (h : Held) : List Held → List Held
  | [] => [h]
  | x :: xs => if seqDistance d h.seq < seqDistance d x.seq then h :: x :: xs
    else x :: slotInsert d h xs

/-- At the end of a step that changes the slots or NEXT_EXPECTED the gap timer is stopped, started or
kept (R150). -/
def checkGapTimer (s : State) : State :=
  match s.drs.slots, s.drs.gapTimer with
  | [], _ => s.setDrs { s.drs with gapTimer := none }
  | _ :: _, none => s.setDrs { s.drs with gapTimer := some s.drs.gapHold }
  | _ :: _, some _ => s

/-- A packet at a distance of 0 is delivered with the run behind it; one at 1..255 is held, or discarded
as a duplicate (R148). -/
def placeNear (h : Held) (s : State) : State :=
  if seqDistance s.drs h.seq = 0 then
    let s1 := deliverNext h s.drs.slots s
    deliverRun s1.drs.slots s1
  else if s.drs.slots.any (fun x => x.seq == h.seq) then
    (s.setDrs { s.drs with duplicates := s.drs.duplicates + 1 }).returnBuffers 1
  else s.setDrs { s.drs with slots := slotInsert s.drs h s.drs.slots }

/-- The jump to make room for a sequence far ahead: every held packet passed is delivered, every empty
sequence passed is counted in SKIPPED, and the run at the new NEXT_EXPECTED is delivered (R149). -/
def jumpTo (next : BitVec 16) (s : State) : State :=
  let passed := seqDistance s.drs next
  let out := s.drs.slots.filter (fun x => decide (seqDistance s.drs x.seq < passed))
  let stay := s.drs.slots.filter (fun x => !decide (seqDistance s.drs x.seq < passed))
  let s1 := s.setDrs { s.drs with
    slots := stay
    nextExpected := next
    skipped := s.drs.skipped + BitVec.ofNat 32 (passed - out.length) }
  let s2 := deliverAll out s1
  deliverRun s2.drs.slots s2

/-- A packet far ahead: the jump, then its own placement; JUMPS rises (R149). -/
def jump (h : Held) (s : State) : State :=
  let s1 := placeNear h (jumpTo (h.seq - 255) s)
  s1.setDrs { s1.drs with jumps := s1.drs.jumps + 1 }

/-- A packet that arrives while LOCKED is placed by its distance (R148). -/
def placeLocked (h : Held) (s : State) : State :=
  let d := seqDistance s.drs h.seq
  if d < 256 then placeNear h s
  else if d < 32768 then jump h s
  else (s.setDrs { s.drs with late := s.drs.late + 1 }).returnBuffers 1

/-- A packet handed to the resequencer, with its buffer taken (R147, R148, R150). -/
def resequence (h : Held) (s : State) : State :=
  if s.drs.locked then checkGapTimer (placeLocked h s)
  else checkGapTimer (placeNear h (s.setDrs { s.drs with locked := true, nextExpected := h.seq }))

/-- The gap timer expires: the hole is given up, and the run behind it is delivered (R150). -/
def gapExpiry (s : State) : State :=
  let s1 := s.setDrs { s.drs with gapTimer := none, gapExpiries := s.drs.gapExpiries + 1 }
  match s1.drs.slots with
  | [] => checkGapTimer s1
  | h :: _ =>
    let s2 := s1.setDrs { s1.drs with
      nextExpected := h.seq
      skipped := s1.drs.skipped + BitVec.ofNat 32 (seqDistance s1.drs h.seq) }
    checkGapTimer (deliverRun s2.drs.slots s2)

/-- The sequences passed when every held packet is delivered: those up to the furthest held one that
hold nothing (R152). -/
def skippedByResync (d : Drs) : Nat :=
  match d.slots.getLast? with
  | none => 0
  | some h => seqDistance d h.seq + 1 - d.slots.length

/-- RESYNC in LOCKED: every held packet is delivered in order of distance and the resequencer returns to
HUNT (R152). -/
def resync (s : State) : State :=
  if s.drs.locked then
    let out := s.drs.slots
    deliverAll out (s.setDrs { s.drs with
      locked := false
      nextExpected := 0
      slots := []
      gapTimer := none
      skipped := s.drs.skipped + BitVec.ofNat 32 (skippedByResync s.drs)
      resyncs := s.drs.resyncs + 1 })
  else s

/-- The resequencer at PART_RESTART (R145). -/
def resequencerRestart (d : Drs) : Drs :=
  { d with locked := false, nextExpected := 0, slots := [], gapTimer := none }

/-- A DATA frame's packet takes a buffer and goes to the resequencer, or is dropped with the pool empty
(R13). -/
def downlinkArrival (h : Held) (s : State) : State :=
  if s.freeBuffers = 0 then
    s.countShore h.port (fun n => { n with dropNoBuffer := n.dropNoBuffer + 1 })
  else resequence h s.takeBuffer

/-! ## Meanings -/

/-- GAP_TIMER_EXPIRY (R150); without a running timer the event does not occur. -/
def execGapTimerExpiry (s : State) : Host.Outcome State Fault Refusal :=
  if timerRunning s.drs.gapTimer then .next (gapExpiry s) else .next s

end Sys2Proof.Machine
end

