-- ==== Sys2Proof/Machine/Reports.lean ====
section
/-! DEFINITION. The items of STATUS_READ by group (R175 and the rules its table names) and of each notice
(R176, R185), as they stand at the moment they are taken. -/

namespace Sys2Proof.Machine

/-- Items for the four paths under one name with the suffixes _0 to _3. -/
def itemsPerPath (x : String) (f : Path → Int) : List Item := Path.all.map (fun p => itemK x p.num (f p))

/-! ## Groups of STATUS_READ -/

/-- The PENDING set of the notice sources. -/
def pendingSet (n : Ntu) : Nat := sourceSet (fun x => (noticeGet n x).pending)

/-- The ARMED set of the notice sources. -/
def armedSet (n : Ntu) : Nat := sourceSet (fun x => (noticeGet n x).armed)

/-- The summary (R175). -/
def summaryItems (s : State) : List Item :=
  [itemC "CLOCK" s.cfu.clock, itemC "RESTARTS" s.cfu.restarts, item "FREE_BUFFERS" s.freeBuffers,
   item "ACTIVE" (pathCode s.psl.active)] ++
  itemsPerPath "STATE_" (fun p => pathStateCode (s.path p).state) ++
  itemsPerPath "LOST_LATCH_" (fun p => boolCode (s.path p).lostLatch) ++
  [item "CURRENT_ZONE" (zoneCode s.znu.current),
   item "POSITION_STATE" (positionStateCode s.znu.positionState),
   item "ACTIVE_BANK" (bankCode s.rtu.activeBank), item "HELD" (held s.rcq),
   itemC "NEXT_SEQ" s.rcq.nextSeq, item "SWEEP_STATE" (boolCode s.rse.running),
   item "DRS_STATE" (boolCode s.drs.locked), item "PENDING" (pendingSet s.ntu),
   item "ARMED" (armedSet s.ntu), item "CREDIT_LIST_LEN" s.ntu.creditList.length,
   item "CREDIT_OVERFLOW" (boolCode s.ntu.creditOverflow)]

/-- Group 1: the ship port's counters and request queue length (R4). -/
def shipItems (x : Shi) : List Item :=
  let c := x.counters
  [itemC "RX_USER" c.rxUser, itemC "RX_HEARTBEAT" c.rxHeartbeat, itemC "RX_REQUEST" c.rxRequest,
   itemC "TX_USER" c.txUser, itemC "TX_GRANT" c.txGrant, itemC "TX_REPLY" c.txReply,
   itemC "TX_NOTICE" c.txNotice, itemC "DROP_FOREIGN" c.dropForeign,
   itemC "DROP_HEADER" c.dropHeader, itemC "DROP_KIND" c.dropKind, itemC "DROP_LENGTH" c.dropLength,
   itemC "DROP_CELL_OFF" c.dropCellOff, itemC "DROP_NOT_SERVING" c.dropNotServing,
   itemC "DROP_UNKNOWN_TAG" c.dropUnknownTag, itemC "DROP_NO_BUFFER" c.dropNoBuffer,
   itemC "DROP_PATH_FULL" c.dropPathFull, itemC "DROP_EGRESS_FULL" c.dropEgressFull,
   itemC "DROP_REQ_FULL" c.dropReqFull, item "REQUEST_QUEUE" x.requests.length]

/-- Groups 2 to 5: a shore port's counters and request queue length (R4). -/
def shoreItems (x : ShorePort) : List Item :=
  let c := x.counters
  [itemC "RX_DATA" c.rxData, itemC "RX_SUPERVISION" c.rxSupervision, itemC "RX_REQUEST" c.rxRequest,
   itemC "TX_DATA" c.txData, itemC "TX_SUPERVISION" c.txSupervision, itemC "TX_REPLY" c.txReply,
   itemC "DROP_FOREIGN" c.dropForeign, itemC "DROP_HEADER" c.dropHeader,
   itemC "DROP_KIND" c.dropKind, itemC "DROP_LENGTH" c.dropLength,
   itemC "DROP_NOT_ACCEPT" c.dropNotAccept, itemC "DROP_NO_BUFFER" c.dropNoBuffer,
   itemC "DROP_UNKNOWN_TAG" c.dropUnknownTag, itemC "DROP_STALE_TAG" c.dropStaleTag,
   itemC "DROP_REQ_FULL" c.dropReqFull, itemC "DROP_REQ_LOST" c.dropReqLost,
   itemC "FLUSHED" c.flushed, item "REQUEST_QUEUE" x.requests.length]

/-- The items of a survey record (R116, R127). -/
def surveyRecordItems (r : SurveyRecord) : List Item :=
  [item "ECHOED" r.echoed, item "MIN_RTT" r.minRtt, item "MAX_RTT" r.maxRtt,
   item "RESULT" (boolCode r.pass)]

/-- Groups 6 to 9: the items of a path (R127). -/
def pathItems (s : State) (p : Path) : List Item :=
  let v := s.path p
  [item "STATE" (pathStateCode v.state), item "CARRIER" (boolCode (s.port p).carrier),
   item "LOST_LATCH" (boolCode v.lostLatch), item "SRTT" v.srtt, item "LAST_RTT" v.lastRtt,
   item "LOSS_COUNT" (lossCount v), item "OUTSTANDING" v.outstanding.length,
   item "SURVEY" (surveyCode v.survey), item "GAP" (boolCode (timerRunning v.gap)),
   item "OPEN_COUNT" v.openCount] ++ surveyRecordItems v.surveyRecord ++
  [itemC "PROBES" v.probes, itemC "ECHOES" v.echoes, itemC "LOSSES" v.losses,
   itemC "STRAY_ECHOES" v.strayEchoes, itemC "ANSWERED" v.answered, itemC "IGNORED" v.ignored,
   itemC "SURVEYS" v.surveys, itemC "BRINGUPS" v.bringups, itemC "OPEN_FAILS" v.openFails,
   itemC "CARRIER_LOSSES" v.carrierLosses]

/-- Group 10: the Path Selector items (R144). That a COST_n with no computation standing, after power-on reset or
PART_RESTART, is 65535 is a DESIGN CHOICE (log entry 25). -/
def selectorItems (u : Psl) : List Item :=
  [item "ACTIVE" (pathCode u.active), item "PIN" (pathCode u.pin),
   item "CANDIDATE" (pathCode u.candidate), item "CONFIRM_FOR" (pathCode u.confirmFor),
   item "CONFIRM_COUNT" u.confirmCount] ++
  itemsPerPath "COST_" (fun p => ((u.costs.get p).getD 65535 : Nat)) ++
  [item "HOLD_DOWN_LEFT" (timerLeft u.holdDown)] ++
  itemsPerPath "DRAIN_" (fun p => boolCode (timerRunning (u.drain.get p))) ++
  [item "LAST_FROM" (pathCode u.lastFrom), item "LAST_CAUSE" (swapCauseCode u.lastCause),
   itemC "SWAPS" u.swaps, itemC "FORCED_SWAPS" u.forcedSwaps, itemC "ACTIVATIONS" u.activations,
   itemC "NO_BACKHAULS" u.noBackhauls]

/-- Group 11: the resequencer items (R154). -/
def resequencerItems (d : Drs) : List Item :=
  [item "DRS_STATE" (boolCode d.locked), itemC "NEXT_EXPECTED" d.nextExpected,
   item "HELD_COUNT" (heldCount d), item "GAP_LEFT" (timerLeft d.gapTimer),
   item "GAP_HOLD" d.gapHold, itemC "DELIVERED" d.delivered, itemC "DUPLICATES" d.duplicates,
   itemC "LATE" d.late, itemC "SKIPPED" d.skipped, itemC "JUMPS" d.jumps,
   itemC "GAP_EXPIRIES" d.gapExpiries, itemC "RESYNCS" d.resyncs]

/-- Group 12: the visitor table counts and the refusal counters (R35, R36). -/
def visitorTableItems (s : State) : List Item :=
  [item "PROVISION_COUNT" (lifecycleCount s .provisioned),
   item "ATTACHED_COUNT" (lifecycleCount s .attached),
   item "CLOSING_COUNT" (lifecycleCount s .closing), itemC "ATTACHES" s.vtb.attaches,
   itemC "BLK_NOT_ATTACHED" s.vtb.blkNotAttached, itemC "BLK_BARRED" s.vtb.blkBarred,
   itemC "BLK_EXHAUSTED" s.vtb.blkExhausted, itemC "BLK_PLAN_KIND" s.vtb.blkPlanKind,
   itemC "BLK_NO_BACKHAUL" s.vtb.blkNoBackhaul, itemC "BLK_NO_COVERAGE" s.vtb.blkNoCoverage]

/-- Group 13: the record queue items (R71). -/
def recordQueueItems (q : Rcq) : List Item :=
  [item "HELD" (held q), itemC "HEAD_SEQ" (headSeq q), itemC "CURSOR_SEQ" q.cursorSeq,
   itemC "LIMIT_SEQ" q.limitSeq, itemC "NEXT_SEQ" q.nextSeq, itemC "SPILLS" q.spills]

/-- Group 14: the sweep engine items (R82 to R89). -/
def sweepItems (s : State) : List Item :=
  [item "REVIEW_PENDING" (reviewPending s), item "CLOSE_PENDING" (closePending s),
   itemC "REVIEWS" s.rse.reviews, itemC "RATE_BREAKS" s.rse.rateBreaks, item "CURSOR" s.rse.cursor,
   itemC "RUNS" s.rse.runs,
   item "CLOSE_REASON" (closeReasonCode (sweepCloseReason s.rse.closeReason)),
   item "RECORD_INTERVAL" s.rse.interval]

/-- Group 15: the Zone Unit items (R105). -/
def zoneUnitItems (u : Znu) : List Item :=
  [item "CURRENT_ZONE" (zoneCode u.current), item "PREV_ZONE" (zoneCode u.prevZone),
   item "CHANGE_CAUSE" (changeCauseCode u.changeCause), item "CANDIDATE" (zoneCode u.candidate),
   item "CANDIDATE_COUNT" u.candidateCount,
   item "POSITION_STATE" (positionStateCode u.positionState), item "LAST_LAT" u.lastLat,
   item "LAST_LON" u.lastLon, itemC "REPORTS" u.reports, itemC "ZONE_CHANGES" u.zoneChanges,
   itemC "FALLBACKS" u.fallbacks, item "FALLBACK" (zoneNum u.fallback),
   item "ZONE_CONFIRM" u.confirm, item "POSITION_TIMEOUT" u.timeout]

/-- Group 16: the Coverage Unit's settings and whole-unit items (R168). -/
def coverageItems (u : Cvu) : List Item :=
  [item "HB_TIMEOUT" u.hbTimeout, item "GRANT_PERIOD" u.grantPeriod,
   item "GRANT_LEFT" (timerLeft u.grantTimer), itemC "BOUNDARIES" u.boundaries,
   itemC "SUBSTITUTIONS" u.substitutions]

/-- Groups 17 to 32: the items of a cell head (R168). -/
def cellItems (u : Cvu) (c : Cell) : List Item :=
  let h := u.cells[c]
  [item "STATE" (cellStateCode h.state), item "JOIN_COUNT" h.joinCount, item "TARGET" h.target,
   item "PENDING_LEVEL" h.pendingLevel, item "ACTIVE_LEVEL" h.activeLevel,
   item "REPORTED_LEVEL" h.reportedLevel, item "BOOSTED" (boolCode (boosted u c)),
   item "HB_LEFT" (timerLeft h.hbTimer), itemC "HEARTBEATS" h.heartbeats, itemC "JOINS" h.joins,
   itemC "LOSSES" h.losses, itemC "DECREASES" h.decreases,
   itemC "LEVEL_MISMATCHES" h.levelMismatches]

/-- The fault record's items; its NAME is carried as NAME_A and NAME_B (R173). -/
def faultItems (f : FaultRecord) : List Item :=
  [item "PORT" (portCode f.port), itemC "TAG" f.tag,
   item "NAME_A" (f.name.extractLsb' 64 64).toInt, item "NAME_B" (f.name.extractLsb' 0 64).toInt,
   item "REASON" (reasonCode f.reason)]

/-- Group 33: the notice sources, NOTICE_SEQ, CREDIT_DROPS, FAULTS and the fault record (R175). That the
items of a source are named by its priority is a DESIGN CHOICE (log entry 8). -/
def noticeUnitItems (s : State) : List Item :=
  sourcesAll.flatMap (fun x =>
    [itemK "PENDING_" (sourcePriority x) (boolCode (noticeGet s.ntu x).pending),
     itemK "ARMED_" (sourcePriority x) (boolCode (noticeGet s.ntu x).armed),
     itemK "RAISED_" (sourcePriority x) (noticeGet s.ntu x).raised.toNat]) ++
  [itemC "NOTICE_SEQ" s.ntu.noticeSeq, itemC "CREDIT_DROPS" s.ntu.creditDrops,
   itemC "FAULTS" s.cfu.faults] ++ faultItems s.cfu.faultRecord

/-- What a GROUP adds to the summary (R175). -/
def groupItems (s : State) (g : Nat) : List Item :=
  if g = 0 then []
  else if g = 1 then shipItems s.shi
  else if g = 2 then shoreItems (s.port .sp0)
  else if g = 3 then shoreItems (s.port .sp1)
  else if g = 4 then shoreItems (s.port .sp2)
  else if g = 5 then shoreItems (s.port .sp3)
  else if g = 6 then pathItems s .sp0
  else if g = 7 then pathItems s .sp1
  else if g = 8 then pathItems s .sp2
  else if g = 9 then pathItems s .sp3
  else if g = 10 then selectorItems s.psl
  else if g = 11 then resequencerItems s.drs
  else if g = 12 then visitorTableItems s
  else if g = 13 then recordQueueItems s.rcq
  else if g = 14 then sweepItems s
  else if g = 15 then zoneUnitItems s.znu
  else if g = 16 then coverageItems s.cvu
  else if g = 33 then noticeUnitItems s
  else if h : g - 17 < 16 then cellItems s.cvu ⟨g - 17, h⟩
  else []

/-! ## Notices (R176) -/

/-- The first entries of the credit notice list, each with its index and current CREDIT. -/
def creditEntryItems (s : State) (l : List Nat) : List Item :=
  (l.zipIdx).flatMap (fun e =>
    [itemK "INDEX_" e.2 e.1, itemK "CREDIT_" e.2 (creditCode (s.visitor e.1).credit)])

/-- The items a source's notice reports, taken when it is taken to send (R176). That a COVERAGE notice goes by cell
head, and that a SURVEY_DONE notice carries its path's survey record under the names of STATUS_READ without a path
suffix, are DESIGN CHOICES (log entry 8). -/
def noticeReport (s : State) : Source → List Item
  | .pathLost => itemsPerPath "LOST_LATCH_" (fun p => boolCode (s.path p).lostLatch)
  | .noBackhaul => [item "ACTIVE" (pathCode s.psl.active)]
  | .coverage => cellsAll.flatMap (fun c =>
      [itemK "STATE_" c.val (cellStateCode (s.cell c).state),
       itemK "ACTIVE_LEVEL_" c.val (s.cell c).activeLevel,
       itemK "LOSSES_" c.val (s.cell c).losses.toNat])
  | .zoneChange =>
    [item "CURRENT_ZONE" (zoneCode s.znu.current), item "PREV_ZONE" (zoneCode s.znu.prevZone),
     item "CHANGE_CAUSE" (changeCauseCode s.znu.changeCause)]
  | .positionStale =>
    [item "CURRENT_ZONE" (zoneCode s.znu.current), item "LAST_LAT" s.znu.lastLat,
     item "LAST_LON" s.znu.lastLon]
  | .pathSwap =>
    [item "ACTIVE" (pathCode s.psl.active), item "LAST_FROM" (pathCode s.psl.lastFrom),
     item "LAST_CAUSE" (swapCauseCode s.psl.lastCause)]
  | .pathState => itemsPerPath "STATE_" (fun p => pathStateCode (s.path p).state)
  | .recordHigh =>
    [item "HELD" (held s.rcq), itemC "HEAD_SEQ" (headSeq s.rcq),
     itemC "CURSOR_SEQ" s.rcq.cursorSeq, itemC "NEXT_SEQ" s.rcq.nextSeq]
  | .recordSpill => [itemC "SPILLS" s.rcq.spills, item "HELD" (held s.rcq)]
  | .credit =>
    [item "CREDIT_LIST_LEN" s.ntu.creditList.length,
     item "CREDIT_OVERFLOW" (boolCode s.ntu.creditOverflow)] ++
    creditEntryItems s (s.ntu.creditList.take 16)
  | .surveyDone =>
    item "SURVEY_PATH" s.ntu.surveyPath.num :: surveyRecordItems (s.path s.ntu.surveyPath).surveyRecord
  | .controlFault => faultItems s.cfu.faultRecord ++ [itemC "FAULTS" s.cfu.faults]

/-- The items of a notice frame: CLOCK, then the source's own (R185). -/
def noticeItems (s : State) (x : Source) : List Item := itemC "CLOCK" s.cfu.clock :: noticeReport s x

end Sys2Proof.Machine
end

