-- ==== Sys2Proof/Machine/PacketPath.lean ====
section
/-! DEFINITION. Arrival at the ports, the uplink journey, the port transmitters and the ship link
(R1 to R5, R8 to R12, R15, R177, R183 to R185). -/

namespace Sys2Proof.Machine

/-! ## Frames as they arrive (R183 to R185) -/

/-- The kinds that arrive on the ship port (R1). -/
inductive ShipKind where
  | user
  | heartbeat
  | request
deriving DecidableEq, Repr

/-- The kinds that arrive on a shore port (R2). -/
inductive ShoreKind where
  | data
  | probe
  | probeEcho
  | pathAccept
  | request
deriving DecidableEq, Repr

def shipKind (b : Byte) : Option ShipKind :=
  if b = 0x01 then some .user
  else if b = 0x02 then some .heartbeat
  else if b = 0x20 then some .request
  else none

def shoreKind (b : Byte) : Option ShoreKind :=
  if b = 0x10 then some .data
  else if b = 0x11 then some .probe
  else if b = 0x12 then some .probeEcho
  else if b = 0x15 then some .pathAccept
  else if b = 0x20 then some .request
  else none

/-- The bytes a REQUEST needs: 24 and 24 more for each item it states (R183). -/
def requestHeaderOk (b : List Byte) : Bool :=
  decide (24 ≤ b.length) && decide (24 + 24 * field b 6 2 ≤ b.length)

/-- The header test for a kind that arrives on the ship port (R183). -/
def shipHeaderOk (b : List Byte) : ShipKind → Bool
  | .user => decide (10 ≤ b.length) && decide (byteAt b 1 < 16)
  | .heartbeat => decide (10 ≤ b.length) && decide (byteAt b 1 < 16) && decide (byteAt b 2 < 64)
  | .request => requestHeaderOk b

/-- The header test for a kind that arrives on a shore port (R183). -/
def shoreHeaderOk (p : Path) (b : List Byte) : ShoreKind → Bool
  | .request => requestHeaderOk b
  | .data => decide (16 ≤ b.length) && decide (byteAt b 1 = p.num)
  | .probe => decide (16 ≤ b.length) && decide (byteAt b 1 = p.num)
  | .probeEcho => decide (16 ≤ b.length) && decide (byteAt b 1 = p.num)
  | .pathAccept => decide (16 ≤ b.length) && decide (byteAt b 1 = p.num)

/-- The metered length test for a stated length, with the bytes that follow the header (R3). -/
def lengthOk (stated following : Nat) : Bool :=
  decide (20 ≤ stated) && decide (stated ≤ 2048) && decide (stated ≤ following)

/-- The cell head a frame names, below 16 once the header test has passed. -/
def cellField (b : List Byte) : Cell := Fin.ofNat 16 (byteAt b 1)

/-- The uplink packet of a USER frame (R184). -/
def userPacket (b : List Byte) : UplinkEntry :=
  { packet := slice b 10 (field b 8 2), tag := BitVec.ofNat 32 (field b 4 4), length := field b 8 2,
    cell := cellField b }

/-- The downlink packet of a DATA frame (R184). -/
def dataPacket (p : Path) (b : List Byte) : Held :=
  { seq := BitVec.ofNat 16 (field b 2 2), packet := slice b 16 (field b 14 2),
    tag := BitVec.ofNat 32 (field b 4 4), length := field b 14 2, port := p }

/-- The items of a REQUEST in frame order (R185). -/
def parseItems : Nat → List Byte → List Item
  | 0, _ => []
  | n + 1, b =>
    { name := BitVec.ofNat 128 (field b 0 16), value := (BitVec.ofNat 64 (field b 16 8)).toInt } ::
      parseItems n (b.drop 24)

/-- A REQUEST frame (R185). -/
def parseRequest (b : List Byte) : Request :=
  { name := BitVec.ofNat 128 (field b 8 16), tag := BitVec.ofNat 16 (field b 2 2),
    items := parseItems (field b 6 2) (b.drop 24) }

/-! ## Request queues (R5) -/

/-- A request offered to the ship port's queue. -/
def offerShip (r : Request) (s : State) : State :=
  if s.shi.requests.length < Config.shipRequestQueueSize then
    s.setShi { s.shi with requests := s.shi.requests ++ [r] }
  else s.countShip (fun c => { c with dropReqFull := c.dropReqFull + 1 })

/-- A request offered to a shore port's queue. -/
def offerShore (p : Path) (r : Request) (s : State) : State :=
  if (s.port p).requests.length < Config.shoreRequestQueueSize then
    s.modPort p (fun x => { x with requests := x.requests ++ [r] })
  else s.countShore p (fun c => { c with dropReqFull := c.dropReqFull + 1 })

/-! ## The uplink journey (R10) -/

/-- Step 2: a PROVISIONED entry is attached before the check (R24). -/
def attachLearning (i : Nat) (s : State) : State :=
  if (s.visitor i).lifecycle = .provisioned then attach i s else s

/-- Steps 3 and 4: a buffer, then the active path's transmit queue (R6, R8, R10). -/
def uplinkQueue (e : UplinkEntry) (s : State) : State :=
  if s.freeBuffers = 0 then s.countShip (fun c => { c with dropNoBuffer := c.dropNoBuffer + 1 })
  else match s.psl.active with
    | none => s
    | some p =>
      if (s.port p).txQueue.length < Config.transmitQueueSize then
        (s.modPort p (fun x => { x with txQueue := x.txQueue ++ [e] })).takeBuffer
      else s.countShip (fun c => { c with dropPathFull := c.dropPathFull + 1 })

/-- The admission check at arrival and serving cell learning (R25, R34). -/
def uplinkAdmit (i : Nat) (e : UplinkEntry) (s : State) : State :=
  match admission true s (s.visitor i) with
  | some why => blockPacket i why s
  | none => uplinkQueue e (s.setVisitor i { s.visitor i with servingCell := some e.cell })

/-- A USER packet that has passed the port's tests (R10). -/
def uplinkArrival (e : UplinkEntry) (s : State) : State :=
  match lookupTag s e.tag with
  | none => s.countShip (fun c => { c with dropUnknownTag := c.dropUnknownTag + 1 })
  | some i => uplinkAdmit i e (attachLearning i s)

/-! ## Sorting at the ship port (R1) -/

/-- The enable and serving tests and the hand-off of a USER frame. -/
def userArrives (b : List Byte) (s : State) : State :=
  if lengthOk (field b 8 2) (b.length - 10) = false then
    s.countShip (fun c => { c with dropLength := c.dropLength + 1 })
  else if (s.cell (cellField b)).enable = false then
    s.countShip (fun c => { c with dropCellOff := c.dropCellOff + 1 })
  else if (s.cell (cellField b)).state ≠ .serving then
    s.countShip (fun c => { c with dropNotServing := c.dropNotServing + 1 })
  else uplinkArrival (userPacket b) (s.countShip (fun c => { c with rxUser := c.rxUser + 1 }))

/-- The enable test and the hand-off of a HEARTBEAT frame; its cell head's address is learned (R184). -/
def heartbeatArrives (src : Mac) (b : List Byte) (s : State) : State :=
  let c := cellField b
  if (s.cell c).enable = false then s.countShip (fun n => { n with dropCellOff := n.dropCellOff + 1 })
  else
    let s1 := s.countShip (fun n => { n with rxHeartbeat := n.rxHeartbeat + 1 })
    heartbeat c (byteAt b 2) (s1.setCell c { s1.cell c with address := some src })

/-- The hand-off of a REQUEST frame; the onboard controller's address is learned (R184). -/
def shipRequestArrives (src : Mac) (b : List Byte) (s : State) : State :=
  let s1 := s.countShip (fun n => { n with rxRequest := n.rxRequest + 1 })
  offerShip (parseRequest b) (s1.setShi { s1.shi with controller := some src })

/-- The tests that follow the type test, for a frame whose first byte is its kind. -/
def shipSort (f : EthFrame) (kind : Byte) (s : State) : State :=
  match shipKind kind with
  | none => s.countShip (fun c => { c with dropKind := c.dropKind + 1 })
  | some k =>
    if shipHeaderOk f.body k = false then
      s.countShip (fun c => { c with dropHeader := c.dropHeader + 1 })
    else match k with
      | .user => userArrives f.body s
      | .heartbeat => heartbeatArrives f.src f.body s
      | .request => shipRequestArrives f.src f.body s

/-- A frame at the ship port: the first failing test discards and counts it (R1, R183). -/
def shipArrival (f : EthFrame) (s : State) : State :=
  if f.checkOk = false then s.countShip (fun c => { c with dropHeader := c.dropHeader + 1 })
  else if f.etherType ≠ 0x88B6 then s.countShip (fun c => { c with dropForeign := c.dropForeign + 1 })
  else match f.body with
    | [] => s.countShip (fun c => { c with dropHeader := c.dropHeader + 1 })
    | kind :: _ => shipSort f kind s

/-! ## Sorting at a shore port (R2) -/

/-- Whether a path accepts DATA: it is active or its drain window is open (R2, R136). -/
def acceptsData (s : State) (p : Path) : Bool :=
  s.psl.active == some p || timerRunning (s.psl.drain.get p)

/-- The learned address of a shore port comes from any frame that passes (R184). -/
def learnShore (p : Path) (src : Mac) (s : State) : State :=
  s.modPort p (fun x => { x with partner := some src })

def dataArrives (p : Path) (src : Mac) (b : List Byte) (s : State) : State :=
  if lengthOk (field b 14 2) (b.length - 16) = false then
    s.countShore p (fun c => { c with dropLength := c.dropLength + 1 })
  else if acceptsData s p = false then
    s.countShore p (fun c => { c with dropNotAccept := c.dropNotAccept + 1 })
  else
    downlinkArrival (dataPacket p b)
      ((learnShore p src s).countShore p (fun c => { c with rxData := c.rxData + 1 }))

def shoreRequestArrives (p : Path) (src : Mac) (b : List Byte) (s : State) : State :=
  if (s.path p).state ≠ .up then
    s.countShore p (fun c => { c with dropNotAccept := c.dropNotAccept + 1 })
  else
    offerShore p (parseRequest b)
      ((learnShore p src s).countShore p (fun c => { c with rxRequest := c.rxRequest + 1 }))

/-- A supervision frame that passes is counted in RX_SUPERVISION. -/
def supervisionCounted (p : Path) (src : Mac) (s : State) : State :=
  (learnShore p src s).countShore p (fun c => { c with rxSupervision := c.rxSupervision + 1 })

def shoreSort (p : Path) (f : EthFrame) (kind : Byte) (s : State) : State :=
  match shoreKind kind with
  | none => s.countShore p (fun c => { c with dropKind := c.dropKind + 1 })
  | some k =>
    if shoreHeaderOk p f.body k = false then
      s.countShore p (fun c => { c with dropHeader := c.dropHeader + 1 })
    else match k with
      | .data => dataArrives p f.src f.body s
      | .probe => probeArrives p (BitVec.ofNat 8 (byteAt f.body 8))
          (BitVec.ofNat 32 (field f.body 10 4)) (supervisionCounted p f.src s)
      | .probeEcho => echoArrives p (BitVec.ofNat 8 (byteAt f.body 8)) (supervisionCounted p f.src s)
      | .pathAccept => acceptArrives p (supervisionCounted p f.src s)
      | .request => shoreRequestArrives p f.src f.body s

/-- A frame at a shore port: the first failing test discards and counts it (R2, R183). -/
def shoreArrival (p : Path) (f : EthFrame) (s : State) : State :=
  if f.checkOk = false then s.countShore p (fun c => { c with dropHeader := c.dropHeader + 1 })
  else if f.etherType ≠ 0x88B6 then
    s.countShore p (fun c => { c with dropForeign := c.dropForeign + 1 })
  else match f.body with
    | [] => s.countShore p (fun c => { c with dropHeader := c.dropHeader + 1 })
    | kind :: _ => shoreSort p f kind s

/-! ## Shore port transmitters (R11, R12) -/

/-- A frame enters a shore port's transmitter; on an UP path the idle timer starts again (R12, R123). -/
def shoreSend (p : Path) (body : List Byte) (s : State) : State :=
  let s1 := s.modPort p (fun x =>
    { x with transmitter := some { dst := destination x.partner, body := body } })
  if (s1.path p).state = .up then s1.modPath p (fun v => { v with idleTimer := some 50 }) else s1

/-- The bytes of a due supervision frame at its taking (R12, R120, R135, R184). -/
def dueBytes (p : Path) (s : State) : Due → List Byte
  | .pathOpen => pathOpenBytes p
  | .probe => probeBytes p (s.path p).nextId s.clocks.stamp
  | .surveyProbe _ => probeBytes p (s.path p).nextId s.clocks.stamp
  | .echo id value => probeEchoBytes p id value
  | .fill => fillBytes p s.uplinkSeq
  | .pathSwap a => pathSwapBytes p a s.uplinkSeq s.drs

/-- What the taking of a due supervision frame does to its supervisor: a probe is given its id,
timestamp and deadline (R120). -/
def dueTaken (stamp : BitVec 32) : Due → Psv → Psv
  | .probe, v => takeSteadyProbe stamp v
  | .surveyProbe k, v => takeSurveyProbe k stamp v
  | .pathOpen, v => v
  | .echo _ _, v => v
  | .fill, v => v
  | .pathSwap _, v => v

/-- A due supervision frame is taken (R12). -/
def takeSupervision (p : Path) (d : Due) (left : List Due) (s : State) : State :=
  let s1 := s.modPort p (fun x => { x with due := left })
  let s2 := (s1.modPath p (dueTaken s.clocks.stamp d)).countShore p
    (fun c => { c with txSupervision := c.txSupervision + 1 })
  shoreSend p (dueBytes p s d) s2

/-- The reply in a shore port's slot is taken (R5, R12). -/
def takeShoreReply (p : Path) (r : Reply) (s : State) : State :=
  let s1 := s.modPort p (fun x => { x with reply := none })
  shoreSend p (replyBytes r) (s1.countShore p (fun c => { c with txReply := c.txReply + 1 }))

/-- Step 5 of a taking: the uplink sequence, TX_DATA and the DATA frame (R11). -/
def sendData (p : Path) (e : UplinkEntry) (s : State) : State :=
  let s1 := s.setUplinkSeq (s.uplinkSeq + 1)
  shoreSend p (dataBytes p s.uplinkSeq e)
    (s1.countShore p (fun c => { c with txData := c.txData + 1 }))

/-- Steps 3 to 5 of a taking, after the owed work: the admission check, the charge and the sending
(R11). -/
def takeAdmitted (p : Path) (i : Nat) (e : UplinkEntry) (s : State) : State :=
  match admission true s (s.visitor i) with
  | some why => blockPacket i why s
  | none =>
    let r := charge i e.length .up s
    if r.2 then sendData p e r.1 else r.1

/-- The head entry of a path transmit queue is taken, its buffer returned in the same step (R11). -/
def takeUplink (p : Path) (e : UplinkEntry) (left : List UplinkEntry) (s : State) : State :=
  let s1 := (s.modPort p (fun x => { x with txQueue := left })).returnBuffers 1
  match lookupTag s1 e.tag with
  | none => s1.countShore p (fun c => { c with dropStaleTag := c.dropStaleTag + 1 })
  | some i => takeAdmitted p i e (owedWork i s1)

/-- What a free shore transmitter with carrier takes: the first due supervision frame, the reply, or the
head of the transmit queue (R12). -/
def shoreTake (p : Path) (s : State) : State :=
  match (s.port p).due with
  | d :: left => takeSupervision p d left s
  | [] =>
    match (s.port p).reply with
    | some r => takeShoreReply p r s
    | none =>
      match (s.port p).txQueue with
      | e :: left => takeUplink p e left s
      | [] => s

/-! ## The ship port transmitter (R15, R177) -/

/-- A frame enters the ship transmitter. -/
def shipSend (dst : Option Mac) (own : Bool) (body : List Byte) (s : State) : State :=
  s.setShi { s.shi with
    transmitter := some { dst := destination dst, body := body }, lastOwn := own }

/-- The head of the egress queue is taken: its buffer is returned and a USER frame sent. -/
def takeEgress (e : EgressEntry) (left : List EgressEntry) (s : State) : State :=
  let s1 := (s.setShi { s.shi with egress := left }).returnBuffers 1
  shipSend (s.cell e.cell).address false (userBytes e)
    (s1.countShip (fun c => { c with txUser := c.txUser + 1 }))

/-- The lowest-numbered cell head in the owed grant set. -/
def lowestOwed (s : State) : Option Cell := cellsAll.find? (fun c => (s.cell c).grantOwed)

/-- An owed GRANT is taken, with the cell head's active level at the taking. -/
def takeGrant (c : Cell) (s : State) : State :=
  let s1 := s.setCell c { s.cell c with grantOwed := false }
  shipSend (s.cell c).address true (grantBytes c (s.cell c).activeLevel)
    (s1.countShip (fun n => { n with txGrant := n.txGrant + 1 }))

/-- The reply in the ship reply slot is taken, which empties the slot (R5). -/
def takeShipReply (r : Reply) (s : State) : State :=
  let s1 := s.setShi { s.shi with reply := none }
  shipSend s.shi.controller true (replyBytes r)
    (s1.countShip (fun c => { c with txReply := c.txReply + 1 }))

/-- The ready source of highest priority (R177). -/
def arbiter (n : Ntu) : Option Source := sourcesAll.find? (noticeReady n)

/-- A notice is taken: the frame is built, ARMED cleared and NOTICE_SEQ advanced (R177). -/
def takeNotice (x : Source) (s : State) : State :=
  let n := noticeSet s.ntu x { noticeGet s.ntu x with armed := false }
  let s1 := s.setNtu { n with noticeSeq := s.ntu.noticeSeq + 1 }
  shipSend s.shi.controller true (noticeBytes s.ntu.noticeSeq x (noticeItems s x))
    (s1.countShip (fun c => { c with txNotice := c.txNotice + 1 }))

/-- The head of the egress queue, where there is one. -/
def takeUser (s : State) : State :=
  match s.shi.egress with
  | e :: left => takeEgress e left s
  | [] => s

/-- The sources of the ship transmitter in their order (R15). -/
def takeOwn (s : State) : State :=
  match lowestOwed s with
  | some c => takeGrant c s
  | none =>
    match s.shi.reply with
    | some r => takeShipReply r s
    | none =>
      match arbiter s.ntu with
      | some x => takeNotice x s
      | none => takeUser s

/-- What a free ship transmitter takes: after a frame of the part's own, a user frame first (R15). -/
def shipTake (s : State) : State :=
  if s.shi.lastOwn && !s.shi.egress.isEmpty then takeUser s else takeOwn s

/-! ## Meanings -/

/-- SHIP_FRAME_ARRIVAL (R1). -/
def execShipFrameArrival (f : EthFrame) (s : State) : Host.Outcome State Fault Refusal :=
  .next (shipArrival f s)

/-- SHORE_FRAME_ARRIVAL (R2). -/
def execShoreFrameArrival (p : Path) (f : EthFrame) (s : State) : Host.Outcome State Fault Refusal :=
  .next (shoreArrival p f s)

/-- SHORE_TRANSMIT_TAKE (R12): a transmitter that is not free, or has no carrier, takes nothing. -/
def execShoreTransmitTake (p : Path) (s : State) : Host.Outcome State Fault Refusal :=
  if (s.port p).carrier && (s.port p).transmitter.isNone then .next (shoreTake p s) else .next s

/-- SHORE_TRANSMISSION_END (R12). -/
def execShoreTransmissionEnd (p : Path) (s : State) : Host.Outcome State Fault Refusal :=
  .next (s.modPort p (fun x => { x with transmitter := none }))

/-- SHIP_TRANSMIT_TAKE (R15): a transmitter that is not free, or whose link is down, takes nothing. -/
def execShipTransmitTake (s : State) : Host.Outcome State Fault Refusal :=
  if s.shi.link && s.shi.transmitter.isNone then .next (shipTake s) else .next s

/-- SHIP_TRANSMISSION_END (R15). -/
def execShipTransmissionEnd (s : State) : Host.Outcome State Fault Refusal :=
  .next (s.setShi { s.shi with transmitter := none })

/-- SHIP_LINK_LOSS (R15): a frame in transmission ends, its counts and effects standing. -/
def execShipLinkLoss (s : State) : Host.Outcome State Fault Refusal :=
  .next (s.setShi { s.shi with link := false, transmitter := none })

/-- SHIP_LINK_RETURN (R15). -/
def execShipLinkReturn (s : State) : Host.Outcome State Fault Refusal :=
  .next (s.setShi { s.shi with link := true })

end Sys2Proof.Machine
end

