-- ==== Sys2Proof/Machine/Operands.lean ====
section
/-! DEFINITION. The items of a request: reading them by name, required and optional items, bringing values
into range, and reading numbers as paths, indices and zones (R170, R171, R185). -/

namespace Sys2Proof.Machine

/-- What a request's own checks and effects come to: a status that refuses it, a MALFORMED with its reason,
or DONE with ADJUSTED, the result items, the records of a drain and the state it leaves (R171). -/
inductive Answer where
  | refused (status : Status)
  | malformed (why : Reason)
  | done (adjusted : Bool) (items : List Item) (records : List Record) (s : State)
deriving DecidableEq, Repr

/-! ## Items by name -/

/-- The value of the item with a name. -/
def itemNamed (x : Name) (r : Request) : Option Int :=
  (r.items.find? (fun i => i.name == x)).map (fun i => i.value)

/-- The value of the item of a name written as a string. -/
def arg (x : String) (r : Request) : Option Int := itemNamed (nm x) r

/-- The value of the item of a name that ends in a number. -/
def argK (x : String) (k : Nat) (r : Request) : Option Int := itemNamed (nmK x k) r

/-- A required item: its absence gives MALFORMED with reason MISSING_ITEM (R170, R173). -/
def need (v : Option Int) (k : Int → Answer) : Answer :=
  match v with
  | none => .malformed .missingItem
  | some x => k x

/-! ## Clamps -/

/-- A value brought to the nearest end of a range. -/
def clamp (lo hi v : Int) : Int := max lo (min hi v)

/-- Whether an item is present and outside a range, so that a clamp sets ADJUSTED (R171). -/
def outside (lo hi : Int) : Option Int → Bool
  | none => false
  | some v => decide (v < lo ∨ hi < v)

/-- A signed field after an optional item: clamped and written, or left as it stands. -/
def clampedInt (lo hi : Int) (old : Int) : Option Int → Int
  | none => old
  | some v => clamp lo hi v

/-- A field after an optional item: clamped and written, or left as it stands. -/
def clampedNat (lo hi : Nat) (old : Nat) : Option Int → Nat
  | none => old
  | some v => (clamp lo hi v).toNat

/-- A flag after an optional item clamped to 0..1, or left as it stands. -/
def clampedBool (old : Bool) : Option Int → Bool
  | none => old
  | some v => decide (0 < v)

/-- Whether a flag item is clamped. -/
def outsideBool (v : Option Int) : Bool := outside 0 1 v

/-! ## Numbers that name something -/

/-- The index below n that a number names. -/
def indexBelow (n : Nat) (v : Int) : Option (Fin n) :=
  if h : 0 ≤ v ∧ v.toNat < n then some ⟨v.toNat, h.2⟩ else none

/-- The path that a number names. -/
def pathNamed (v : Int) : Option Path :=
  if v = 0 then some .sp0 else if v = 1 then some .sp1 else if v = 2 then some .sp2
  else if v = 3 then some .sp3 else none

/-- The zone that a number names: 0..31, or 32 for DEFAULT. -/
def zoneNamed (v : Int) : Option Zone :=
  if v = 32 then some .default else (indexBelow 32 v).map Zone.entry

/-- The policy that a number names (R43). -/
def roamingNamed (v : Int) : Option Roaming :=
  if v = 0 then some .permitted else if v = 1 then some .surcharged
  else if v = 2 then some .barred else none

/-- The kind that a number names (R108). -/
def kindNamed (v : Int) : Option Kind :=
  if v = 0 then some .terrestrial else if v = 1 then some .satellite else none

/-- The bank that a number names. -/
def bankNamed (v : Int) : Option Bank :=
  if v = 0 then some .b0 else if v = 1 then some .b1 else none

/-- A number read through a naming function, refused with REFUSED_INDEX where it names nothing. -/
def named {α : Type} (x : Option α) (k : α → Answer) : Answer :=
  match x with
  | none => .refused .refusedIndex
  | some a => k a

/-- The required item PATH, with MALFORMED and REFUSED_INDEX as PATH_ENABLE gives them (R110). -/
def needPath (r : Request) (k : Path → Answer) : Answer :=
  need (arg "PATH" r) (fun v => named (pathNamed v) k)

/-- The required item INDEX naming a visitor entry, 0..4095. -/
def needEntry (r : Request) (k : Nat → Answer) : Answer :=
  need (arg "INDEX" r) (fun v => named (indexBelow Config.visitorCount v) (fun i => k i.val))

/-! ## RANK items (R96, R98) -/

/-- The four rank items as a request carries them. -/
inductive RankItems where
  | absent
  | bad
  | given (k : Rank)
deriving DecidableEq, Repr

/-- An order of four paths, bad when a path stands in it twice. -/
def rankOfPaths (a b c d : Path) : RankItems :=
  if a = b ∨ a = c ∨ a = d ∨ b = c ∨ b = d ∨ c = d then .bad
  else .given { first := a, second := b, third := c, fourth := d }

/-- The rank items of a request: absent, all four naming each path once, or bad (R96). -/
def rankItems (r : Request) : RankItems :=
  match argK "RANK_" 0 r, argK "RANK_" 1 r, argK "RANK_" 2 r, argK "RANK_" 3 r with
  | none, none, none, none => .absent
  | some a, some b, some c, some d =>
    match pathNamed a, pathNamed b, pathNamed c, pathNamed d with
    | some a, some b, some c, some d => rankOfPaths a b c d
    | _, _, _, _ => .bad
  | _, _, _, _ => .bad

/-- RANK after a request that passes. -/
def rankWritten (old : Rank) : RankItems → Rank
  | .absent => old
  | .bad => old
  | .given k => k

/-! ## Names of the items a request takes -/

/-- Names that end in the numbers below n. -/
def namesK (x : String) (n : Nat) : List Name := (List.range n).map (nmK x)

end Sys2Proof.Machine
end

