-- ==== Sys2Proof/Machine/Control.lean ====
section
/-! DEFINITION. The Control Frame Unit: taking the head request of a port's queue, the general checks, faults
and the reply (R5, R170 to R173). -/

namespace Sys2Proof.Machine

/-- The names of the manual's requests. -/
def requestNames : List Name :=
  [nm "VISITOR_ADD", nm "VISITOR_REMOVE", nm "VISITOR_READ", nm "VISITOR_CREDIT", nm "VISITOR_ALLOW",
   nm "VISITOR_SETTLE", nm "TARIFF_LOAD", nm "TARIFF_SWITCH", nm "PLAN_LOAD", nm "PARTNER_LOAD",
   nm "RECORD_DRAIN", nm "RECORD_RELEASE", nm "VOYAGE_START", nm "RECORD_INTERVAL", nm "RECORD_FLUSH",
   nm "ZONE_LOAD", nm "ZONE_DEFAULTS", nm "POSITION", nm "ZONE_FORCE", nm "PATH_CONFIG",
   nm "PATH_ENABLE", nm "PATH_DISABLE", nm "PATH_SURVEY", nm "PATH_TEST", nm "SELECT_CONFIG",
   nm "PATH_PIN", nm "RESEQ_CONFIG", nm "CELL_CONFIG", nm "GRANT_CONFIG", nm "CLOCK_SET",
   nm "STATUS_READ", nm "NOTICE_ARM", nm "NOTICE_CLEAR", nm "CREDIT_LIST_READ", nm "PART_RESTART"]

/-- The two requests that a shore port may send (R170, R172). -/
def shoreNames : List Name := [nm "STATUS_READ", nm "VISITOR_READ"]

/-! ## Queues and reply slots -/

/-- The request at the head of a port's queue. -/
def headRequest (s : State) : Port → Option Request
  | .ship => s.shi.requests.head?
  | .shore p => (s.port p).requests.head?

/-- The queue without its head. -/
def dropRequest (port : Port) (s : State) : State :=
  match port with
  | .ship => s.setShi { s.shi with requests := s.shi.requests.tail }
  | .shore p => s.setPort p { s.port p with requests := (s.port p).requests.tail }

/-- The reply slot of a port. -/
def replySlot (s : State) : Port → Option Reply
  | .ship => s.shi.reply
  | .shore p => (s.port p).reply

/-- A reply is placed in a port's slot (R5). -/
def placeReply (port : Port) (x : Reply) (s : State) : State :=
  match port with
  | .ship => s.setShi { s.shi with reply := some x }
  | .shore p => s.setPort p { s.port p with reply := some x }

/-- Whether the Control Frame Unit can take a request of a port: the reply slot is empty, and no restart
from the ship port is still in flight (R5, R182). -/
def portFree (s : State) (port : Port) : Bool :=
  (replySlot s port).isNone &&
    (match port with
     | .ship => s.cfu.restart.isNone
     | .shore _ => true)

/-! ## General checks (R170) -/

/-- Whether a name stands twice in a list. -/
def hasRepeat : List Name → Bool
  | [] => false
  | x :: xs => xs.contains x || hasRepeat xs

/-- Whether a request carries an item it does not take, which is set aside (R170). -/
def setsAside (taken : List Name) (r : Request) : Bool := r.items.any (fun i => !taken.contains i.name)

/-- The first general check that fails: Origin, Name, Repetition (R170). -/
def generalCheck (port : Port) (r : Request) : Option Answer :=
  if port ≠ .ship ∧ shoreNames.contains r.name = false then some (.refused .notPermitted)
  else if requestNames.contains r.name = false then some (.malformed .unknownRequest)
  else if hasRepeat (r.items.map (fun i => i.name)) then some (.malformed .repeatedItem)
  else none

/-- The answer of a request: the first general check that fails, or its own body (R170). -/
def answer (port : Port) (body : Request → State → Answer) (r : Request) (s : State) : Answer :=
  match generalCheck port r with
  | some a => a
  | none => body r s

/-- The item list is not examined for a NOT_PERMITTED or an unknown name (R171). -/
def examined (a : Answer) : Bool :=
  match a with
  | .refused x => x != .notPermitted
  | .malformed why => why != .unknownRequest
  | .done _ _ _ _ => true

/-! ## Faults and replies -/

/-- A MALFORMED writes the fault record, raises FAULTS and sets CONTROL_FAULT pending (R173). -/
def recordFault (port : Port) (r : Request) (why : Reason) (s : State) : State :=
  raiseNotice .controlFault (s.setCfu { s.cfu with
    faults := s.cfu.faults + 1
    faultRecord := { port := port, tag := r.tag, name := r.name, reason := why } })

/-- A reply without result items (R171). -/
def plainReply (r : Request) (status : Status) (ignored : Bool) : Reply :=
  { name := r.name, tag := r.tag, status := status, adjusted := false, ignoredItem := ignored,
    items := [], records := [] }

/-- The effects of an answer and its reply in the port's slot (R170, R171, R173). -/
def settle (port : Port) (taken : List Name) (r : Request) (a : Answer) (s : State) : State :=
  let ignored := examined a && setsAside taken r
  match a with
  | .refused status => placeReply port (plainReply r status ignored) s
  | .malformed why => placeReply port (plainReply r .malformed ignored) (recordFault port r why s)
  | .done adjusted items records s1 =>
    placeReply port { name := r.name, tag := r.tag, status := .done, adjusted := adjusted,
                      ignoredItem := ignored, items := items, records := records } s1

/-- The execution of a request as one step (R170). -/
def execute (port : Port) (taken : List Name) (body : Request → State → Answer) (r : Request)
    (s : State) : State :=
  settle port taken r (answer port body r s) s

/-- A request whose name satisfies a test is taken from the head of a port's queue and executed; where the
head is another request, or the port's requests must wait, the step does not occur (R5). -/
def takeNamed (port : Port) (fits : Name → Bool) (run : Request → State → State) (s : State) : State :=
  match headRequest s port with
  | none => s
  | some r => if fits r.name && portFree s port then run r (dropRequest port s) else s

/-- The step of the request of a name. -/
def request (port : Port) (name : String) (taken : List Name) (body : Request → State → Answer)
    (s : State) : Host.Outcome State Fault Refusal :=
  .next (takeNamed port (fun x => x == nm name) (execute port taken body) s)

/-! ## Meanings -/

/-- The body of a request with an unknown name is not reached: the Name check answers it. -/
def unknownBody (_ : Request) (_ : State) : Answer := .malformed .unknownRequest

/-- UNKNOWN_REQUEST (R170): a request whose name is not one of the manual's. From a shore port the Origin
check answers it first. -/
def execUnknownRequest (port : Port) (s : State) : Host.Outcome State Fault Refusal :=
  .next (takeNamed port (fun x => !requestNames.contains x) (execute port [] unknownBody) s)

end Sys2Proof.Machine
end

