-- ==== Sys2Proof/Machine/VisitorRequests.lean ====
section
/-! DEFINITION. The requests on visitor entries: VISITOR_ADD, VISITOR_REMOVE, VISITOR_READ, VISITOR_CREDIT,
VISITOR_ALLOW and VISITOR_SETTLE (R22, R23, R26 to R28, R31, R32, R58, R59, R79). -/

namespace Sys2Proof.Machine

/-! ## Credit figures (R23, R58) -/

/-- LIMIT from its item: absent or -1 gives UNLIMITED. -/
def limitFrom : Option Int → Option Nat
  | none => none
  | some v => if v = -1 then none else some (clamp 0 Config.max32 v).toNat

def limitAdjusted : Option Int → Bool
  | none => false
  | some v => v != -1 && outside 0 Config.max32 (some v)

/-- The top of LOW_MARK's range: LIMIT, or 2^32 - 1 when LIMIT is UNLIMITED. -/
def lowMarkTop (limit : Option Nat) : Nat := limit.getD Config.max32

/-- LOW_MARK from its item: absent gives LIMIT, or 0 when LIMIT is UNLIMITED. -/
def lowMarkFrom (limit : Option Nat) : Option Int → Nat
  | none => limit.getD 0
  | some v => (clamp 0 (lowMarkTop limit) v).toNat

def lowMarkAdjusted (limit : Option Nat) (v : Option Int) : Bool := outside 0 (lowMarkTop limit) v

/-! ## VISITOR_ADD -/

/-- The entry that a VISITOR_ADD fills (R23). -/
def visitorNew (s : State) (tag : Tag) (partner : Fin 128) (plan : Fin 8) (limit : Option Nat)
    (lowMark allowance : Nat) : Visitor :=
  { Visitor.freeEntry with
    lifecycle := .provisioned, tag := tag, partner := partner, plan := plan,
    roaming := roamingNow s partner, credit := creditOf limit lowMark 0, limit := limit,
    lowMark := lowMark, allowance := allowance }

/-- A VISITOR_ADD that has passed every check of R22 (R23). -/
def visitorFill (r : Request) (i : Nat) (tag : Tag) (partner : Fin 128) (plan : Fin 8) (s : State) :
    Answer :=
  let limit := limitFrom (arg "LIMIT" r)
  let v := visitorNew s tag partner plan limit (lowMarkFrom limit (arg "LOW_MARK" r))
    (clampedNat 0 Config.max32 0 (arg "ALLOWANCE" r))
  .done (limitAdjusted (arg "LIMIT" r) || lowMarkAdjusted limit (arg "LOW_MARK" r) ||
      outside 0 Config.max32 (arg "ALLOWANCE" r))
    [item "ROAMING" (roamingCode v.roaming), item "CREDIT" (creditCode v.credit)] []
    (s.setVisitor i v)

/-- The checks of R22 after the items are present, in its order. -/
def visitorAddChecked (r : Request) (index tag partner plan : Int) (s : State) : Answer :=
  if tag < 1 ∨ (Config.max32 : Int) < tag then .malformed .badValue
  else
    named (indexBelow Config.visitorCount index) fun i =>
    named (indexBelow 128 partner) fun a =>
    named (indexBelow 8 plan) fun b =>
    if (s.visitor i.val).lifecycle ≠ .free then .refused .refusedState
    else if (lookupTag s (BitVec.ofInt 32 tag)).isSome then .refused .duplicate
    else visitorFill r i.val (BitVec.ofInt 32 tag) a b s

def visitorAddBody (r : Request) (s : State) : Answer :=
  need (arg "INDEX" r) fun index =>
  need (arg "TAG" r) fun tag =>
  need (arg "PARTNER" r) fun partner =>
  need (arg "PLAN" r) fun plan => visitorAddChecked r index tag partner plan s

def visitorAddItems : List Name :=
  [nm "INDEX", nm "TAG", nm "PARTNER", nm "PLAN", nm "LIMIT", nm "LOW_MARK", nm "ALLOWANCE"]

/-! ## VISITOR_REMOVE -/

/-- The items of a removal from ATTACHED: LIFECYCLE, CLOSE_OUTCOME and, for QUEUED, RECORD_SEQ (R26). -/
def removeItems (lifecycle : Lifecycle) (seq : BitVec 32) (out : CloseOutcome) : List Item :=
  [item "LIFECYCLE" (lifecycleCode lifecycle), item "CLOSE_OUTCOME" (closeOutcomeCode out)] ++
    (if out = .queued then [itemC "RECORD_SEQ" seq] else [])

/-- A removal from ATTACHED up to step 3: marks cleared, the record closed, CLOSING (R28). -/
def removeClosing (i : Nat) (s : State) : State × CloseOutcome :=
  let x := closeRecord i .removed (clearMarks i s)
  (x.1.setVisitor i { x.1.visitor i with lifecycle := .closing }, x.2)

/-- Step 4: the entry becomes FREE if the queue holds no record naming it (R28, R30). -/
def removeSettled (i : Nat) (s : State) : State :=
  if queuedFor s.rcq i = 0 then becomeFree i s else refreshEngine s

/-- VISITOR_REMOVE on an ATTACHED entry (R28). -/
def removeAttached (i : Nat) (s : State) : Answer :=
  let x := removeClosing i s
  let s1 := removeSettled i x.1
  .done false (removeItems (s1.visitor i).lifecycle s.rcq.nextSeq x.2) [] s1

/-- VISITOR_REMOVE on a PROVISIONED entry (R27). -/
def removeProvisioned (i : Nat) (s : State) : Answer :=
  .done false [item "LIFECYCLE" (lifecycleCode .free)] [] (becomeFree i s)

def visitorRemoveBody (r : Request) (s : State) : Answer :=
  needEntry r fun i =>
    match (s.visitor i).lifecycle with
    | .free => .refused .refusedState
    | .closing => .refused .refusedState
    | .provisioned => removeProvisioned i s
    | .attached => removeAttached i s

def visitorRemoveItems : List Name := [nm "INDEX"]

/-! ## VISITOR_READ -/

/-- The items beginning REC_ of an open record (R32). -/
def recordItems : Option OpenRecord → List Item
  | none => []
  | some o =>
    [item "REC_ZONE" (zoneCode o.zone), item "REC_REGION" o.region.val,
     item "REC_PATH" (pathCode o.path), item "REC_PRICE_EFF" o.priceEff, item "REC_FEE" o.fee,
     item "REC_BANK" (bankCode o.bank), item "REC_ROAMING" (roamingCode o.roaming),
     item "REC_BYTES_UP" o.bytesUp, item "REC_BYTES_DOWN" o.bytesDown,
     item "REC_FREE_BYTES" o.freeBytes, item "REC_PKTS_UP" o.pktsUp,
     item "REC_PKTS_DOWN" o.pktsDown, item "REC_FEE_CHARGED" o.feeCharged,
     item "REC_CHARGE" o.charge, itemC "REC_OPEN_TIME" o.openTime]

/-- The items of a visitor entry in the order of R32. -/
def visitorItems (s : State) (i : Nat) : List Item :=
  let v := s.visitor i
  [item "INDEX" i, item "LIFECYCLE" (lifecycleCode v.lifecycle), itemC "TAG" v.tag,
   item "PARTNER" v.partner.val, item "PLAN" v.plan.val,
   item "SERVING_CELL" (cellCode v.servingCell), item "ROAMING" (roamingCode v.roaming),
   item "CREDIT" (creditCode v.credit), item "LIMIT" (limitCode v.limit),
   item "LOW_MARK" v.lowMark, item "ALLOWANCE" v.allowance, item "CHARGED" v.charged,
   item "SETTLED" v.settled, item "SPILLED" v.spilled, item "CARRY" v.carry,
   itemC "ZONES_CHARGED" v.zonesCharged, item "REVIEW_MARK" (boolCode v.reviewMark),
   item "CLOSE_MARK" (boolCode v.closeMark), item "BLOCKED" v.blocked,
   item "SPILL_COUNT" v.spillCount, item "QUEUED" (queuedFor s.rcq i)] ++ recordItems v.openRecord

/-- A read of an entry, which changes nothing (R31). -/
def readEntry (i : Nat) (s : State) : Answer := .done false (visitorItems s i) [] s

/-- A read that names its entry by TAG (R31). -/
def readByTag (tag : Int) (s : State) : Answer :=
  if tag < 1 ∨ (Config.max32 : Int) < tag then .refused .refusedIndex
  else named (lookupTag s (BitVec.ofInt 32 tag)) fun i => readEntry i s

def visitorReadBody (r : Request) (s : State) : Answer :=
  match arg "INDEX" r, arg "TAG" r with
  | none, none => .malformed .missingItem
  | some _, some _ => .malformed .badValue
  | some v, none => named (indexBelow Config.visitorCount v) fun i => readEntry i.val s
  | none, some t => readByTag t s

def visitorReadItems : List Name := [nm "INDEX", nm "TAG"]

/-! ## VISITOR_CREDIT, VISITOR_ALLOW, VISITOR_SETTLE -/

/-- The request acts on the entry it names unless that entry is FREE. -/
def onVisitor (i : Nat) (s : State) (k : Visitor → Answer) : Answer :=
  if (s.visitor i).lifecycle = .free then .refused .refusedState else k (s.visitor i)

/-- An entry with new credit figures, CREDIT evaluated at once (R58). -/
def visitorCredited (v : Visitor) (limit : Option Nat) (lowMark : Nat) : Visitor :=
  { v with limit := limit, lowMark := lowMark, credit := creditOf limit lowMark v.charged }

def visitorCreditBody (r : Request) (s : State) : Answer :=
  need (arg "INDEX" r) fun index =>
  need (arg "LIMIT" r) fun limitItem =>
  named (indexBelow Config.visitorCount index) fun i =>
  onVisitor i.val s fun v =>
    let limit := limitFrom (some limitItem)
    let w := visitorCredited v limit (lowMarkFrom limit (arg "LOW_MARK" r))
    .done (limitAdjusted (some limitItem) || lowMarkAdjusted limit (arg "LOW_MARK" r))
      [item "CREDIT" (creditCode w.credit), item "CHARGED" w.charged,
       item "LIMIT" (limitCode w.limit), item "LOW_MARK" w.lowMark] [] (s.setVisitor i.val w)

def visitorCreditItems : List Name := [nm "INDEX", nm "LIMIT", nm "LOW_MARK"]

def visitorAllowBody (r : Request) (s : State) : Answer :=
  need (arg "INDEX" r) fun index =>
  need (arg "ALLOWANCE" r) fun a =>
  named (indexBelow Config.visitorCount index) fun i =>
  onVisitor i.val s fun v =>
    let n := (clamp 0 Config.max32 a).toNat
    .done (outside 0 Config.max32 (some a))
      [item "ALLOWANCE_BEFORE" v.allowance, item "ALLOWANCE" n] []
      (s.setVisitor i.val { v with allowance := n })

def visitorAllowItems : List Name := [nm "INDEX", nm "ALLOWANCE"]

/-- An entry with its confirmed charges cleared (R79). -/
def visitorSettled (v : Visitor) : Visitor :=
  { v with charged := v.charged - (v.settled + v.spilled), settled := 0, spilled := 0 }

def visitorSettleBody (r : Request) (s : State) : Answer :=
  needEntry r fun i =>
  onVisitor i s fun v =>
    .done false
      [item "SETTLED" v.settled, item "SPILLED" v.spilled,
       item "CHARGED" (visitorSettled v).charged] [] (s.setVisitor i (visitorSettled v))

def visitorSettleItems : List Name := [nm "INDEX"]

/-! ## Meanings -/

/-- VISITOR_ADD (R22, R23). -/
def execVisitorAdd (port : Port) (s : State) : Host.Outcome State Fault Refusal :=
  request port "VISITOR_ADD" visitorAddItems visitorAddBody s

/-- VISITOR_REMOVE (R26 to R28). -/
def execVisitorRemove (port : Port) (s : State) : Host.Outcome State Fault Refusal :=
  request port "VISITOR_REMOVE" visitorRemoveItems visitorRemoveBody s

/-- VISITOR_READ (R31, R32), from the ship port or a shore port. -/
def execVisitorRead (port : Port) (s : State) : Host.Outcome State Fault Refusal :=
  request port "VISITOR_READ" visitorReadItems visitorReadBody s

/-- VISITOR_CREDIT (R58). -/
def execVisitorCredit (port : Port) (s : State) : Host.Outcome State Fault Refusal :=
  request port "VISITOR_CREDIT" visitorCreditItems visitorCreditBody s

/-- VISITOR_ALLOW (R59). -/
def execVisitorAllow (port : Port) (s : State) : Host.Outcome State Fault Refusal :=
  request port "VISITOR_ALLOW" visitorAllowItems visitorAllowBody s

/-- VISITOR_SETTLE (R79). -/
def execVisitorSettle (port : Port) (s : State) : Host.Outcome State Fault Refusal :=
  request port "VISITOR_SETTLE" visitorSettleItems visitorSettleBody s

end Sys2Proof.Machine
end

