-- ==== Sys2Proof/Machine/RatingRequests.lean ====
section
/-! DEFINITION. The requests on the Rating Unit's tables: TARIFF_LOAD, TARIFF_SWITCH, PLAN_LOAD and
PARTNER_LOAD (R39 to R43). -/

namespace Sys2Proof.Machine

/-! ## TARIFF_LOAD and TARIFF_SWITCH -/

/-- A bank with one row written. -/
def rowWritten (b : TariffBank) (r : Region) (plan : Fin 8) (x : TariffRow) : TariffBank :=
  b.set r (b[r].set plan x)

/-- The unit with one row of a bank written. -/
def bankWritten (u : Rtu) (k : Bank) (r : Region) (plan : Fin 8) (x : TariffRow) : Rtu :=
  match k with
  | .b0 => { u with bank0 := rowWritten u.bank0 r plan x }
  | .b1 => { u with bank1 := rowWritten u.bank1 r plan x }

/-- The checks of an optional item BANK: the bank's number, then the role it must not have (R39, R40). -/
def bankChecked (v : Option Int) (active : Bank) (k : Answer) : Answer :=
  match v with
  | none => k
  | some b => named (bankNamed b) fun x => if x = active then .refused .refusedState else k

/-- A TARIFF_LOAD that has passed its checks writes a row of the standby bank (R39). -/
def tariffWrite (region : Region) (plan : Fin 8) (price fee : Int) (s : State) : Answer :=
  let x : TariffRow := { price := (clamp 0 65535 price).toNat, fee := (clamp 0 4095 fee).toNat }
  .done (outside 0 65535 (some price) || outside 0 4095 (some fee))
    [item "BANK" (bankCode s.rtu.activeBank.other), item "PRICE" x.price, item "FEE" x.fee] []
    (s.setRtu (bankWritten s.rtu s.rtu.activeBank.other region plan x))

def tariffLoadBody (r : Request) (s : State) : Answer :=
  need (arg "REGION" r) fun region =>
  need (arg "PLAN" r) fun plan =>
  need (arg "PRICE" r) fun price =>
  need (arg "FEE" r) fun fee =>
  named (indexBelow 16 region) fun a =>
  named (indexBelow 8 plan) fun b =>
  bankChecked (arg "BANK" r) s.rtu.activeBank (tariffWrite a b price fee s)

def tariffLoadItems : List Name := [nm "REGION", nm "PLAN", nm "PRICE", nm "FEE", nm "BANK"]

def tariffSwitchBody (r : Request) (s : State) : Answer :=
  bankChecked (arg "BANK" r) s.rtu.activeBank
    (.done false [item "BANK" (bankCode s.rtu.activeBank.other)] []
      (bulkReview (s.setRtu { s.rtu with activeBank := s.rtu.activeBank.other })))

def tariffSwitchItems : List Name := [nm "BANK"]

/-! ## PLAN_LOAD -/

def planLoadBody (r : Request) (s : State) : Answer :=
  need (arg "PLAN" r) fun v =>
  named (indexBelow 8 v) fun n =>
    let old := s.rtu.plans[n]
    let new : Plan :=
      { terrestrial := clampedBool old.terrestrial (arg "TERRESTRIAL" r)
        satellite := clampedBool old.satellite (arg "SATELLITE" r) }
    .done (outsideBool (arg "TERRESTRIAL" r) || outsideBool (arg "SATELLITE" r))
      [item "PLAN" n.val, item "TERRESTRIAL" (boolCode new.terrestrial),
       item "SATELLITE" (boolCode new.satellite)] []
      (bulkReview (s.setRtu { s.rtu with plans := s.rtu.plans.set n new }))

def planLoadItems : List Name := [nm "PLAN", nm "TERRESTRIAL", nm "SATELLITE"]

/-! ## PARTNER_LOAD -/

/-- Whether a POLICY_k is present and names no policy (R43). -/
def policyBad (r : Request) (k : Region) : Bool :=
  match argK "POLICY_" k.val r with
  | none => false
  | some v => (roamingNamed v).isNone

/-- POLICY_k after a load: the policy named, or left as it stands. -/
def policyWritten (r : Request) (old : Partner) (k : Region) : Roaming :=
  match argK "POLICY_" k.val r with
  | none => old.policy[k]
  | some v => (roamingNamed v).getD old.policy[k]

/-- A partner entry after a load (R43). -/
def partnerWritten (r : Request) (old : Partner) : Partner :=
  { homeCode := clampedNat 0 16777215 old.homeCode (arg "HOME_CODE" r)
    policy := Vector.ofFn (policyWritten r old)
    mult := clampedNat 256 1023 old.mult (arg "MULT" r) }

/-- The fields of a partner entry. -/
def partnerItems (x : Partner) : List Item :=
  [item "HOME_CODE" x.homeCode, item "MULT" x.mult] ++
    (List.finRange 16).map (fun k => itemK "POLICY_" k.val (roamingCode x.policy[k]))

def partnerLoadBody (r : Request) (s : State) : Answer :=
  need (arg "PARTNER" r) fun v =>
  if (List.finRange 16).any (policyBad r) then .malformed .badValue
  else
    named (indexBelow 128 v) fun n =>
      let x := partnerWritten r s.rtu.partners[n]
      .done (outside 0 16777215 (arg "HOME_CODE" r) || outside 256 1023 (arg "MULT" r))
        (partnerItems x) []
        (partnerReview n (s.setRtu { s.rtu with partners := s.rtu.partners.set n x }))

def partnerLoadItems : List Name :=
  [nm "PARTNER", nm "HOME_CODE", nm "MULT"] ++ namesK "POLICY_" 16

/-! ## Meanings -/

/-- TARIFF_LOAD (R39). -/
def execTariffLoad (port : Port) (s : State) : Host.Outcome State Fault Refusal :=
  request port "TARIFF_LOAD" tariffLoadItems tariffLoadBody s

/-- TARIFF_SWITCH (R40). -/
def execTariffSwitch (port : Port) (s : State) : Host.Outcome State Fault Refusal :=
  request port "TARIFF_SWITCH" tariffSwitchItems tariffSwitchBody s

/-- PLAN_LOAD (R41). -/
def execPlanLoad (port : Port) (s : State) : Host.Outcome State Fault Refusal :=
  request port "PLAN_LOAD" planLoadItems planLoadBody s

/-- PARTNER_LOAD (R43). -/
def execPartnerLoad (port : Port) (s : State) : Host.Outcome State Fault Refusal :=
  request port "PARTNER_LOAD" partnerLoadItems partnerLoadBody s

end Sys2Proof.Machine
end

