-- ==== Sys2Proof/Machine/RecordRequests.lean ====
section
/-! DEFINITION. The requests on the Record Queue and the sweep engine: RECORD_DRAIN, RECORD_RELEASE,
VOYAGE_START, RECORD_INTERVAL and RECORD_FLUSH (R74 to R77, R80, R85, R86). -/

namespace Sys2Proof.Machine

/-! ## RECORD_DRAIN -/

/-- How far a position lies from the head. -/
def fromHead (q : Rcq) (x : BitVec 32) : Nat := (x - headSeq q).toNat

/-- Step 1: the cursor after a rewind (R74). -/
def rewound (rewind : Bool) (q : Rcq) : Rcq := if rewind then { q with cursorSeq := headSeq q } else q

/-- The records a drain of a count sends (R74 step 2). -/
def drained (count : Nat) (q : Rcq) : List Record := (q.records.drop (fromHead q q.cursorSeq)).take count

/-- The queue after n records are sent from the cursor (R74 steps 3 and 4). -/
def issued (n : Nat) (q : Rcq) : Rcq :=
  let c := q.cursorSeq + BitVec.ofNat 32 n
  { q with
    cursorSeq := c
    limitSeq := if fromHead q q.limitSeq < fromHead q c then c else q.limitSeq }

def recordDrainBody (r : Request) (s : State) : Answer :=
  need (arg "COUNT" r) fun count =>
    let q := rewound (clampedBool false (arg "REWIND" r)) s.rcq
    let out := drained (clamp 1 16 count).toNat q
    let q1 := issued out.length q
    .done (outside 1 16 (some count) || outsideBool (arg "REWIND" r))
      [item "RECORD_COUNT" out.length, item "HELD" (held q1), itemC "HEAD_SEQ" (headSeq q1),
       itemC "NEXT_SEQ" q1.nextSeq] out (s.setRcq q1)

def recordDrainItems : List Name := [nm "COUNT", nm "REWIND"]

/-! ## RECORD_RELEASE -/

/-- The entry of a released record gains its charge and becomes FREE when it was CLOSING and the queue
names it no more (R77 steps 2 and 3). -/
def releaseEntry (i : Nat) (r : OpenRecord) (s : State) : State :=
  let v := s.visitor i
  let s1 := s.setVisitor i { v with settled := v.settled + recordCharge r }
  if v.lifecycle = .closing ∧ queuedFor s1.rcq i = 0 then becomeFree i s1 else s1

/-- The release of the head record (R77). -/
def releaseHead (r : Record) (left : List Record) (s : State) : State :=
  releaseEntry r.index r.contents (s.setRcq { s.rcq with records := left })

/-- The release of n records from the head, one at a time (R77). -/
def releaseRecords : Nat → State → State
  | 0, s => s
  | n + 1, s =>
    match s.rcq.records with
    | [] => s
    | r :: left => releaseRecords n (releaseHead r left s)

/-- A cursor that lay behind the new head moves to it (R77). -/
def cursorForward (old : Rcq) (n : Nat) (s : State) : State :=
  if fromHead old old.cursorSeq < n then s.setRcq { s.rcq with cursorSeq := headSeq s.rcq } else s

/-- The number of records a release may remove: those from the head to the limit (R76). -/
def releasable (q : Rcq) : Nat := fromHead q q.limitSeq

/-- The number of records a release of a sequence removes (R76). -/
def releaseCount (q : Rcq) (seq : BitVec 32) : Nat :=
  if 2 ^ 31 ≤ fromHead q seq then 0 else min (fromHead q seq + 1) (releasable q)

/-- Whether a release is clamped to the issued records (R76). -/
def releaseClamped (q : Rcq) (seq : BitVec 32) : Bool :=
  decide (fromHead q seq < 2 ^ 31) && decide (releasable q < fromHead q seq + 1)

/-- A release of every record up to a sequence (R76, R77). -/
def releaseUpTo (seq : BitVec 32) (s : State) : Answer :=
  let n := releaseCount s.rcq seq
  let s1 := cursorForward s.rcq n (releaseRecords n s)
  .done (releaseClamped s.rcq seq)
    [item "RELEASED" n, itemC "HEAD_SEQ" (headSeq s1.rcq), item "HELD" (held s1.rcq)] [] s1

def recordReleaseBody (r : Request) (s : State) : Answer :=
  need (arg "SEQ" r) fun v =>
    if v < 0 ∨ (Config.max32 : Int) < v then .malformed .badValue
    else releaseUpTo (BitVec.ofInt 32 v) s

def recordReleaseItems : List Name := [nm "SEQ"]

/-! ## VOYAGE_START, RECORD_INTERVAL, RECORD_FLUSH -/

/-- ZONES_CHARGED of an entry that is not FREE is emptied (R80). -/
def voyageVisitor (v : Visitor) : Visitor :=
  if v.lifecycle = .free then v else { v with zonesCharged := 0 }

def voyageStartBody (_ : Request) (s : State) : Answer :=
  .done false [] [] (s.setVtb { s.vtb with entries := tableMap voyageVisitor s.vtb.entries })

/-- The interval timer as it is started for a number of minutes (R84). -/
def intervalStart (minutes : Nat) : Timer := if minutes = 0 then none else some (minutes * 60000)

def recordIntervalBody (r : Request) (s : State) : Answer :=
  need (arg "MINUTES" r) fun v =>
    let n := (clamp 0 240 v).toNat
    .done (outside 0 240 (some v)) [item "MINUTES" n] []
      (s.setRse { s.rse with interval := n, intervalTimer := intervalStart n })

def recordIntervalItems : List Name := [nm "MINUTES"]

def recordFlushBody (_ : Request) (s : State) : Answer :=
  .done false [item "MARKED" (lifecycleCount s .attached + lifecycleCount s .closing : Nat)] []
    (bulkClose (s.setRse { s.rse with closeReason := .flush }))

/-! ## Meanings -/

/-- RECORD_DRAIN (R74, R75). -/
def execRecordDrain (port : Port) (s : State) : Host.Outcome State Fault Refusal :=
  request port "RECORD_DRAIN" recordDrainItems recordDrainBody s

/-- RECORD_RELEASE (R76, R77). -/
def execRecordRelease (port : Port) (s : State) : Host.Outcome State Fault Refusal :=
  request port "RECORD_RELEASE" recordReleaseItems recordReleaseBody s

/-- VOYAGE_START (R80). -/
def execVoyageStart (port : Port) (s : State) : Host.Outcome State Fault Refusal :=
  request port "VOYAGE_START" [] voyageStartBody s

/-- RECORD_INTERVAL (R85). -/
def execRecordInterval (port : Port) (s : State) : Host.Outcome State Fault Refusal :=
  request port "RECORD_INTERVAL" recordIntervalItems recordIntervalBody s

/-- RECORD_FLUSH (R86). -/
def execRecordFlush (port : Port) (s : State) : Host.Outcome State Fault Refusal :=
  request port "RECORD_FLUSH" [] recordFlushBody s

end Sys2Proof.Machine
end

