-- ==== Sys2Proof/Machine/ZoneRequests.lean ====
section
/-! DEFINITION. The requests on the Zone Unit: ZONE_LOAD, ZONE_DEFAULTS, POSITION and ZONE_FORCE (R96 to R98,
R100, R103). -/

namespace Sys2Proof.Machine

/-! ## Terms written by a request -/

/-- The terms after a load: REGION and CAP clamped, PERMIT_SPn and RANK written where present (R96). -/
def termsWritten (r : Request) (old : Terms) : Terms :=
  { region := Fin.ofNat 16 (clampedNat 0 15 old.region.val (arg "REGION" r))
    cap := clampedNat 0 63 old.cap (arg "CAP" r)
    pathMask := PerPath.tabulate
      (fun p => clampedBool (old.pathMask.get p) (argK "PERMIT_SP" p.num r))
    rank := rankWritten old.rank (rankItems r) }

/-- Whether any item of the terms is clamped. -/
def termsAdjusted (r : Request) : Bool :=
  outside 0 15 (arg "REGION" r) || outside 0 63 (arg "CAP" r) ||
    Path.all.any (fun p => outsideBool (argK "PERMIT_SP" p.num r))

/-- Whether any item of the terms is present. -/
def termsPresent (r : Request) : Bool :=
  (arg "REGION" r).isSome || (arg "CAP" r).isSome ||
    Path.all.any (fun p => (argK "PERMIT_SP" p.num r).isSome) ||
    (List.range 4).any (fun k => (argK "RANK_" k r).isSome)

/-- The items of the terms in the order of their fields. That PATH_MASK is carried as PERMIT_SP0 to PERMIT_SP3 and
RANK as RANK_0 to RANK_3, the names their requests take, is a DESIGN CHOICE (log entry 24). -/
def termsItems (t : Terms) : List Item :=
  [item "REGION" t.region.val, item "CAP" t.cap] ++
    Path.all.map (fun p => itemK "PERMIT_SP" p.num (boolCode (t.pathMask.get p))) ++
    [itemK "RANK_" 0 t.rank.first.num, itemK "RANK_" 1 t.rank.second.num,
     itemK "RANK_" 2 t.rank.third.num, itemK "RANK_" 3 t.rank.fourth.num]

def termsNames : List Name :=
  [nm "REGION", nm "CAP"] ++ namesK "PERMIT_SP" 4 ++ namesK "RANK_" 4

/-! ## ZONE_LOAD -/

/-- A zone table entry after a load (R96). -/
def rowLoaded (r : Request) (old : ZoneRow) : ZoneRow :=
  { valid := clampedBool old.valid (arg "VALID" r)
    latMin := clampedInt (-9000000) 9000000 old.latMin (arg "LAT_MIN" r)
    latMax := clampedInt (-9000000) 9000000 old.latMax (arg "LAT_MAX" r)
    lonMin := clampedInt (-18000000) 18000000 old.lonMin (arg "LON_MIN" r)
    lonMax := clampedInt (-18000000) 18000000 old.lonMax (arg "LON_MAX" r)
    terms := termsWritten r old.terms }

/-- Whether a load clamps any value. -/
def rowAdjusted (r : Request) : Bool :=
  outsideBool (arg "VALID" r) || outside (-9000000) 9000000 (arg "LAT_MIN" r) ||
    outside (-9000000) 9000000 (arg "LAT_MAX" r) || outside (-18000000) 18000000 (arg "LON_MIN" r) ||
    outside (-18000000) 18000000 (arg "LON_MAX" r) || termsAdjusted r

/-- The fields of a zone table entry. -/
def rowItems (z : ZoneRow) : List Item :=
  [item "VALID" (boolCode z.valid), item "LAT_MIN" z.latMin, item "LAT_MAX" z.latMax,
   item "LON_MIN" z.lonMin, item "LON_MAX" z.lonMax] ++ termsItems z.terms

/-- The Zone Unit after a load of an entry: the entry written and the candidate cleared (R97). -/
def zoneLoaded (k : ZoneIndex) (z : ZoneRow) (u : Znu) : Znu :=
  clearCandidate { u with zones := u.zones.set k z }

/-- The zone that is current after a load of the current entry (R97). -/
def zoneAfterLoad (k : ZoneIndex) (z : ZoneRow) : Zone := if z.valid then .entry k else .default

/-- A ZONE_LOAD that has passed its checks (R96, R97). -/
def zoneLoadWrite (r : Request) (k : ZoneIndex) (z : ZoneRow) (s : State) : Answer :=
  let s1 := s.setZnu (zoneLoaded k z s.znu)
  let change := decide (s.znu.current = some (.entry k))
  .done (rowAdjusted r) (rowItems z ++ [item "ZONE_CHANGE" (boolCode change)]) []
    (if change then zoneChange (zoneAfterLoad k z) .load s1 else s1)

def zoneLoadBody (r : Request) (s : State) : Answer :=
  need (arg "INDEX" r) fun v =>
  if rankItems r = .bad then .malformed .badValue
  else
    named (indexBelow 32 v) fun k =>
      let z := rowLoaded r s.znu.zones[k]
      if z.latMax < z.latMin then .malformed .badValue else zoneLoadWrite r k z s

def zoneLoadItems : List Name :=
  [nm "INDEX", nm "VALID", nm "LAT_MIN", nm "LAT_MAX", nm "LON_MIN", nm "LON_MAX"] ++ termsNames

/-! ## ZONE_DEFAULTS -/

/-- FALLBACK after a request: the zone named, or left as it stands. -/
def fallbackFrom (old : Zone) : Option Int → Zone
  | none => old
  | some v => (zoneNamed v).getD old

/-- Whether a FALLBACK item is present and names no zone (R98). -/
def fallbackBad : Option Int → Bool
  | none => false
  | some v => (zoneNamed v).isNone

/-- The Zone Unit after a ZONE_DEFAULTS, before any zone change (R98). -/
def defaultsWritten (r : Request) (u : Znu) : Znu :=
  let u1 := { u with
    defaultTerms := termsWritten r u.defaultTerms
    fallback := fallbackFrom u.fallback (arg "FALLBACK" r)
    confirm := clampedNat 1 8 u.confirm (arg "CONFIRM" r)
    timeout := clampedNat 1 255 u.timeout (arg "POSITION_TIMEOUT" r) }
  if (arg "CONFIRM" r).isSome then clearCandidate u1 else u1

def defaultsAdjusted (r : Request) : Bool :=
  termsAdjusted r || outside 1 8 (arg "CONFIRM" r) || outside 1 255 (arg "POSITION_TIMEOUT" r)

def defaultsItems (u : Znu) (change : Bool) : List Item :=
  termsItems u.defaultTerms ++
    [item "FALLBACK" (zoneNum u.fallback), item "CONFIRM" u.confirm,
     item "POSITION_TIMEOUT" u.timeout, item "ZONE_CHANGE" (boolCode change)]

def zoneDefaultsBody (r : Request) (s : State) : Answer :=
  if rankItems r = .bad then .malformed .badValue
  else if fallbackBad (arg "FALLBACK" r) then .refused .refusedIndex
  else
    let u := defaultsWritten r s.znu
    let change := termsPresent r && decide (s.znu.current = some .default)
    .done (defaultsAdjusted r) (defaultsItems u change) []
      (if change then zoneChange .default .load (s.setZnu u) else s.setZnu u)

def zoneDefaultsItems : List Name :=
  termsNames ++ [nm "FALLBACK", nm "CONFIRM", nm "POSITION_TIMEOUT"]

/-! ## POSITION -/

/-- Whether a position lies in the range of POSITION (R100). -/
def positionInRange (lat lon : Int) : Bool :=
  !(outside (-9000000) 9000000 (some lat)) && !(outside (-18000000) 18000000 (some lon))

/-- The items of a POSITION reply as they stand after the step (R100). -/
def positionItems (m : Zone) (u : Znu) (change : Bool) : List Item :=
  [item "MATCH" (zoneNum m), item "CURRENT_ZONE" (zoneCode u.current),
   item "CANDIDATE" (zoneCode u.candidate), item "CANDIDATE_COUNT" u.candidateCount,
   item "ZONE_CHANGE" (boolCode change)]

def positionBody (r : Request) (s : State) : Answer :=
  need (arg "LAT" r) fun lat =>
  need (arg "LON" r) fun lon =>
  if positionInRange lat lon then
    let x := positionReport lat lon s
    .done false (positionItems (matchZone s.znu lat lon) x.1.znu x.2) [] x.1
  else .malformed .badValue

def positionRequestItems : List Name := [nm "LAT", nm "LON"]

/-! ## ZONE_FORCE -/

/-- Whether a zone may be made current: DEFAULT, or an entry that is VALID (R103). -/
def zoneUsable (u : Znu) : Zone → Bool
  | .default => true
  | .entry k => u.zones[k].valid

/-- A force that is not refused (R103). -/
def forceZone (z : Zone) (s : State) : Answer :=
  let s1 := s.setZnu (clearCandidate s.znu)
  let change := decide (s.znu.current ≠ some z)
  let s2 := if change then zoneChange z .force s1 else s1
  .done false [item "CURRENT_ZONE" (zoneCode s2.znu.current), item "ZONE_CHANGE" (boolCode change)] []
    s2

def zoneForceBody (r : Request) (s : State) : Answer :=
  need (arg "ZONE" r) fun v =>
  named (zoneNamed v) fun z =>
  if zoneUsable s.znu z then forceZone z s else .refused .refusedState

def zoneForceItems : List Name := [nm "ZONE"]

/-! ## Meanings -/

/-- ZONE_LOAD (R96, R97). -/
def execZoneLoad (port : Port) (s : State) : Host.Outcome State Fault Refusal :=
  request port "ZONE_LOAD" zoneLoadItems zoneLoadBody s

/-- ZONE_DEFAULTS (R98). -/
def execZoneDefaults (port : Port) (s : State) : Host.Outcome State Fault Refusal :=
  request port "ZONE_DEFAULTS" zoneDefaultsItems zoneDefaultsBody s

/-- POSITION (R100 to R102). -/
def execPosition (port : Port) (s : State) : Host.Outcome State Fault Refusal :=
  request port "POSITION" positionRequestItems positionBody s

/-- ZONE_FORCE (R103). -/
def execZoneForce (port : Port) (s : State) : Host.Outcome State Fault Refusal :=
  request port "ZONE_FORCE" zoneForceItems zoneForceBody s

end Sys2Proof.Machine
end

