-- ==== Sys2Proof/Machine/PathRequests.lean ====
section
/-! DEFINITION. The requests on paths, the Path Selector and the resequencer: PATH_CONFIG, PATH_ENABLE,
PATH_DISABLE, PATH_SURVEY, PATH_TEST, SELECT_CONFIG, PATH_PIN and RESEQ_CONFIG (R108, R110, R111, R118,
R124, R130, R133, R152). -/

namespace Sys2Proof.Machine

/-! ## PATH_CONFIG -/

/-- PRESCALE goes to 1, 4 or 16 (R108). -/
def prescaleFrom (old : Nat) : Option Int → Nat
  | none => old
  | some v => if v ≤ 1 then 1 else if v ≤ 4 then 4 else 16

def prescaleAdjusted : Option Int → Bool
  | none => false
  | some v => v != 1 && v != 4 && v != 16

/-- KIND after a request: the kind named, or left as it stands. -/
def kindFrom (old : Kind) : Option Int → Kind
  | none => old
  | some v => (kindNamed v).getD old

/-- Whether a KIND item is present and names no kind (R108). -/
def kindBad : Option Int → Bool
  | none => false
  | some v => (kindNamed v).isNone

/-- The configuration after a PATH_CONFIG (R107, R108). -/
def configWritten (r : Request) (c : PathConfig) : PathConfig :=
  { kind := kindFrom c.kind (arg "KIND" r)
    surcharge := clampedNat 0 1023 c.surcharge (arg "S" r)
    settle := clampedNat 1 255 c.settle (arg "SETTLE" r)
    prescale := prescaleFrom c.prescale (arg "PRESCALE" r)
    postscale := clampedNat 1 16 c.postscale (arg "POSTSCALE" r)
    probeTimeout := clampedNat 1 8 c.probeTimeout (arg "PROBE_TIMEOUT" r)
    surveyPass := clampedNat 1 8 c.surveyPass (arg "SURVEY_PASS" r)
    surveyLimit := clampedNat 1 4095 c.surveyLimit (arg "SURVEY_LIMIT" r)
    drain := clampedNat 10 2550 c.drain (arg "DRAIN" r) }

def configAdjusted (r : Request) : Bool :=
  outside 0 1023 (arg "S" r) || outside 1 255 (arg "SETTLE" r) ||
    prescaleAdjusted (arg "PRESCALE" r) || outside 1 16 (arg "POSTSCALE" r) ||
    outside 1 8 (arg "PROBE_TIMEOUT" r) || outside 1 8 (arg "SURVEY_PASS" r) ||
    outside 1 4095 (arg "SURVEY_LIMIT" r) || outside 10 2550 (arg "DRAIN" r)

/-- The fields of a path's configuration in the order of R107. -/
def configItems (c : PathConfig) : List Item :=
  [item "KIND" (kindCode c.kind), item "S" c.surcharge, item "SETTLE" c.settle,
   item "PRESCALE" c.prescale, item "POSTSCALE" c.postscale, item "PROBE_TIMEOUT" c.probeTimeout,
   item "SURVEY_PASS" c.surveyPass, item "SURVEY_LIMIT" c.surveyLimit, item "DRAIN" c.drain]

/-- A change of the active path's S review-marks every visitor that is not FREE (R44). -/
def surchargeMarks (p : Path) (old new : Nat) (s : State) : State :=
  if s.psl.active = some p ∧ old ≠ new then bulkReview s else s

def pathConfigBody (r : Request) (s : State) : Answer :=
  need (arg "PATH" r) fun v =>
  if kindBad (arg "KIND" r) then .malformed .badValue
  else
    named (pathNamed v) fun p =>
      let old := (s.path p).config
      let new := configWritten r old
      .done (configAdjusted r) (configItems new) []
        (surchargeMarks p old.surcharge new.surcharge
          (s.setPath p { s.path p with config := new }))

def pathConfigItems : List Name :=
  [nm "PATH", nm "KIND", nm "S", nm "SETTLE", nm "PRESCALE", nm "POSTSCALE", nm "PROBE_TIMEOUT",
   nm "SURVEY_PASS", nm "SURVEY_LIMIT", nm "DRAIN"]

/-! ## PATH_ENABLE, PATH_DISABLE, PATH_SURVEY, PATH_TEST -/

def pathItem : List Name := [nm "PATH"]

/-- DONE with STATE, the path's state after the request. -/
def doneState (p : Path) (s : State) : Answer :=
  .done false [item "STATE" (pathStateCode (s.path p).state)] [] s

def pathEnableBody (r : Request) (s : State) : Answer :=
  needPath r fun p => doneState p (enablePath p s)

def pathDisableBody (r : Request) (s : State) : Answer :=
  needPath r fun p => doneState p (disablePath p s)

/-- Whether a survey is in flight on a path. -/
def surveyInFlight (v : Psv) : Bool :=
  match v.survey with
  | .inFlight _ => true
  | .idle => false
  | .deferred => false

/-- A PATH_SURVEY on an UP path (R118). -/
def surveyRequested (p : Path) (s : State) : Answer :=
  if surveyInFlight (s.path p) then .refused .busy
  else .done false [item "DEFERRED" (boolCode (timerRunning (s.path p).gap))] [] (startOrDefer p s)

def pathSurveyBody (r : Request) (s : State) : Answer :=
  needPath r fun p =>
    if (s.path p).state = .up then surveyRequested p s else .refused .refusedState

def pathTestBody (r : Request) (s : State) : Answer :=
  needPath r fun p =>
    match (s.path p).state with
    | .disabled => doneState p (s.modPath p enterTest)
    | .down => doneState p (s.modPath p enterTest)
    | .test => doneState p s
    | .settling => .refused .refusedState
    | .opening => .refused .refusedState
    | .surveying => .refused .refusedState
    | .up => .refused .refusedState

/-! ## SELECT_CONFIG and PATH_PIN -/

/-- The six settings after a SELECT_CONFIG (R130). -/
def settingsWritten (r : Request) (x : SelectSettings) : SelectSettings :=
  { lossWeight := clampedNat 0 255 x.lossWeight (arg "LOSS_WEIGHT" r)
    rankStep := clampedNat 0 255 x.rankStep (arg "RANK_STEP" r)
    hysteresis := clampedNat 0 1023 x.hysteresis (arg "HYSTERESIS" r)
    confirm := clampedNat 1 8 x.confirm (arg "CONFIRM" r)
    holdDown := clampedNat 1 255 x.holdDown (arg "HOLD_DOWN" r)
    period := clampedNat 100 2550 x.period (arg "PERIOD" r) }

def settingsAdjusted (r : Request) : Bool :=
  outside 0 255 (arg "LOSS_WEIGHT" r) || outside 0 255 (arg "RANK_STEP" r) ||
    outside 0 1023 (arg "HYSTERESIS" r) || outside 1 8 (arg "CONFIRM" r) ||
    outside 1 255 (arg "HOLD_DOWN" r) || outside 100 2550 (arg "PERIOD" r)

def settingsItems (x : SelectSettings) : List Item :=
  [item "LOSS_WEIGHT" x.lossWeight, item "RANK_STEP" x.rankStep, item "HYSTERESIS" x.hysteresis,
   item "CONFIRM" x.confirm, item "HOLD_DOWN" x.holdDown, item "PERIOD" x.period]

/-- CONFIRM_COUNT and CONFIRM_FOR are cleared where a condition holds. -/
def clearConfirmIf (b : Bool) (u : Psl) : Psl :=
  if b then { u with confirmCount := 0, confirmFor := none } else u

def selectConfigBody (r : Request) (s : State) : Answer :=
  let x := settingsWritten r s.psl.settings
  .done (settingsAdjusted r) (settingsItems x) []
    (s.setPsl (clearConfirmIf (arg "CONFIRM" r).isSome { s.psl with settings := x }))

def selectConfigItems : List Name :=
  [nm "LOSS_WEIGHT", nm "RANK_STEP", nm "HYSTERESIS", nm "CONFIRM", nm "HOLD_DOWN", nm "PERIOD"]

/-- The pin a PATH item names: a path, or -1 for none (R133). -/
def pinNamed (v : Int) : Option (Option Path) := if v = -1 then some none else (pathNamed v).map some

def pathPinBody (r : Request) (s : State) : Answer :=
  need (arg "PATH" r) fun v =>
  named (pinNamed v) fun pin =>
    .done false [item "PIN" (pathCode pin), item "ACTIVE" (pathCode s.psl.active)] []
      (s.setPsl (clearConfirmIf (decide (s.psl.pin ≠ pin)) { s.psl with pin := pin }))

/-! ## RESEQ_CONFIG -/

/-- RESYNC acts when its item is 1 after clamping (R152). -/
def resyncIf (b : Bool) (s : State) : State := if b then resync s else s

def reseqConfigBody (r : Request) (s : State) : Answer :=
  let s1 := s.setDrs { s.drs with gapHold := clampedNat 1 255 s.drs.gapHold (arg "GAP_HOLD" r) }
  let s2 := resyncIf (clampedBool false (arg "RESYNC" r)) s1
  .done (outside 1 255 (arg "GAP_HOLD" r) || outsideBool (arg "RESYNC" r))
    [item "GAP_HOLD" s2.drs.gapHold, item "DRS_STATE" (boolCode s2.drs.locked),
     itemC "NEXT_EXPECTED" s2.drs.nextExpected] [] s2

def reseqConfigItems : List Name := [nm "GAP_HOLD", nm "RESYNC"]

/-! ## Meanings -/

/-- PATH_CONFIG (R108, R44). -/
def execPathConfig (port : Port) (s : State) : Host.Outcome State Fault Refusal :=
  request port "PATH_CONFIG" pathConfigItems pathConfigBody s

/-- PATH_ENABLE (R110). -/
def execPathEnable (port : Port) (s : State) : Host.Outcome State Fault Refusal :=
  request port "PATH_ENABLE" pathItem pathEnableBody s

/-- PATH_DISABLE (R111). -/
def execPathDisable (port : Port) (s : State) : Host.Outcome State Fault Refusal :=
  request port "PATH_DISABLE" pathItem pathDisableBody s

/-- PATH_SURVEY (R118). -/
def execPathSurvey (port : Port) (s : State) : Host.Outcome State Fault Refusal :=
  request port "PATH_SURVEY" pathItem pathSurveyBody s

/-- PATH_TEST (R124). -/
def execPathTest (port : Port) (s : State) : Host.Outcome State Fault Refusal :=
  request port "PATH_TEST" pathItem pathTestBody s

/-- SELECT_CONFIG (R130). -/
def execSelectConfig (port : Port) (s : State) : Host.Outcome State Fault Refusal :=
  request port "SELECT_CONFIG" selectConfigItems selectConfigBody s

/-- PATH_PIN (R133). -/
def execPathPin (port : Port) (s : State) : Host.Outcome State Fault Refusal :=
  request port "PATH_PIN" pathItem pathPinBody s

/-- RESEQ_CONFIG (R152). -/
def execReseqConfig (port : Port) (s : State) : Host.Outcome State Fault Refusal :=
  request port "RESEQ_CONFIG" reseqConfigItems reseqConfigBody s

end Sys2Proof.Machine
end

