-- ==== Sys2Proof/Machine/ControlRequests.lean ====
section
/-! DEFINITION. The requests on the Coverage Unit, the voyage clock, status and notices: CELL_CONFIG,
GRANT_CONFIG, CLOCK_SET, STATUS_READ, NOTICE_ARM, NOTICE_CLEAR and CREDIT_LIST_READ (R156, R157, R174, R175,
R178, R179, R181). -/

namespace Sys2Proof.Machine

/-! ## CELL_CONFIG and GRANT_CONFIG -/

/-- The cell head a BACKUP item names: 0..15, or -1 for none (R156). -/
def backupNamed (v : Int) : Option (Option Cell) :=
  if v = -1 then some none else (indexBelow 16 v).map some

/-- BACKUP after a request: left as it stands, none where it names the cell head itself, or the cell head
named. -/
def backupFrom (c : Cell) (old : Option Cell) : Option Int → Option Cell
  | none => old
  | some v =>
    match backupNamed v with
    | none => old
    | some b => if b = some c then none else b

def backupAdjusted (c : Cell) (v : Option Int) : Bool := v == some (c.val : Int)

/-- Whether a BACKUP item is present and outside -1..15 (R156). -/
def backupBad : Option Int → Bool
  | none => false
  | some v => (backupNamed v).isNone

/-- The configuration fields of a cell head after a CELL_CONFIG (R156). -/
def cellWritten (r : Request) (c : Cell) (h : CellHead) : CellHead :=
  { h with
    enable := clampedBool h.enable (arg "ENABLE" r)
    base := clampedNat 0 63 h.base (arg "BASE" r)
    boost := clampedNat 0 63 h.boost (arg "BOOST" r)
    backup := backupFrom c h.backup (arg "BACKUP" r)
    join := clampedNat 1 8 h.join (arg "JOIN" r) }

def cellAdjusted (r : Request) (c : Cell) : Bool :=
  outsideBool (arg "ENABLE" r) || outside 0 63 (arg "BASE" r) || outside 0 63 (arg "BOOST" r) ||
    backupAdjusted c (arg "BACKUP" r) || outside 1 8 (arg "JOIN" r)

/-- ENABLE going from 1 to 0 makes the cell head ABSENT (R156, R160). -/
def cellDisabled (h : CellHead) : CellHead :=
  let h1 := if h.state = .serving then leaveServing h else h
  { h1 with state := .absent, hbTimer := none, joinCount := 0 }

/-- A cell head after the writes and the effect of ENABLE. -/
def cellConfigured (r : Request) (c : Cell) (h : CellHead) : CellHead :=
  let h1 := cellWritten r c h
  if h.enable && !h1.enable then cellDisabled h1 else h1

def cellConfigItems (h : CellHead) : List Item :=
  [item "ENABLE" (boolCode h.enable), item "BASE" h.base, item "BOOST" h.boost,
   item "BACKUP" (cellCode h.backup), item "JOIN" h.join, item "STATE" (cellStateCode h.state),
   item "TARGET" h.target, item "PENDING_LEVEL" h.pendingLevel, item "ACTIVE_LEVEL" h.activeLevel]

def cellConfigBody (r : Request) (s : State) : Answer :=
  need (arg "CELL" r) fun v =>
  named (indexBelow 16 v) fun c =>
  if backupBad (arg "BACKUP" r) then .refused .refusedIndex
  else
    let s1 := retarget (s.setCell c (cellConfigured r c (s.cell c)))
    .done (cellAdjusted r c) (cellConfigItems (s1.cell c)) [] s1

def cellConfigNames : List Name :=
  [nm "CELL", nm "ENABLE", nm "BASE", nm "BOOST", nm "BACKUP", nm "JOIN"]

def grantConfigBody (r : Request) (s : State) : Answer :=
  let u := { s.cvu with
    hbTimeout := clampedNat 2 255 s.cvu.hbTimeout (arg "HB_TIMEOUT" r)
    grantPeriod := clampedNat 100 2550 s.cvu.grantPeriod (arg "GRANT_PERIOD" r) }
  .done (outside 2 255 (arg "HB_TIMEOUT" r) || outside 100 2550 (arg "GRANT_PERIOD" r))
    [item "HB_TIMEOUT" u.hbTimeout, item "GRANT_PERIOD" u.grantPeriod] [] (s.setCvu u)

def grantConfigItems : List Name := [nm "HB_TIMEOUT", nm "GRANT_PERIOD"]

/-! ## CLOCK_SET -/

def clockSetBody (r : Request) (s : State) : Answer :=
  need (arg "SECONDS" r) fun v =>
    let c := BitVec.ofInt 32 (clamp 0 Config.max32 v)
    .done (outside 0 Config.max32 (some v))
      [itemC "CLOCK_BEFORE" s.cfu.clock, itemC "CLOCK" c] []
      (s.setCfu { s.cfu with clock := c, clockTicks := 0 })

def clockSetItems : List Name := [nm "SECONDS"]

/-! ## STATUS_READ -/

/-- LOST_LATCH of every path is cleared (R113, R175). -/
def clearLatches (s : State) : State :=
  s.setPsv (PerPath.tabulate (fun p => { s.path p with lostLatch := false }))

/-- The state a STATUS_READ leaves: only a read from the ship port clears the latches (R113, R175). -/
def statusLeaves (port : Port) (s : State) : State :=
  match port with
  | .ship => clearLatches s
  | .shore _ => s

def statusReadBody (port : Port) (r : Request) (s : State) : Answer :=
  named (indexBelow 34 ((arg "GROUP" r).getD 0)) fun g =>
    .done false (summaryItems s ++ groupItems s g.val) [] (statusLeaves port s)

def statusReadItems : List Name := [nm "GROUP"]

/-! ## NOTICE_ARM and NOTICE_CLEAR -/

/-- The item of a request named after a source. -/
def sourceItem (r : Request) (x : Source) : Option Int := itemNamed (sourceName x) r

def sourcesAdjusted (r : Request) : Bool := sourcesAll.any (fun x => outsideBool (sourceItem r x))

/-- ARMED of a source after NOTICE_ARM (R178). -/
def armSource (r : Request) (n : Ntu) (x : Source) : Ntu :=
  noticeSet n x { noticeGet n x with armed := clampedBool (noticeGet n x).armed (sourceItem r x) }

/-- Whether NOTICE_CLEAR may clear a source: CREDIT only with the list empty and no overflow (R179). -/
def clearable (n : Ntu) (x : Source) : Bool :=
  x != .credit || (n.creditList.isEmpty && !n.creditOverflow)

/-- PENDING of a source after NOTICE_CLEAR (R179). -/
def clearSource (r : Request) (n : Ntu) (x : Source) : Ntu :=
  if clampedBool false (sourceItem r x) && clearable n x then clearPending x n else n

/-- The PENDING and ARMED sets (R178, R179). -/
def setsItems (n : Ntu) : List Item := [item "PENDING" (pendingSet n), item "ARMED" (armedSet n)]

def noticeArmBody (r : Request) (s : State) : Answer :=
  let n := sourcesAll.foldl (armSource r) s.ntu
  .done (sourcesAdjusted r) (setsItems n) [] (s.setNtu n)

def noticeClearBody (r : Request) (s : State) : Answer :=
  let n := sourcesAll.foldl (clearSource r) s.ntu
  .done (sourcesAdjusted r) (setsItems n) [] (s.setNtu n)

def noticeNames : List Name := sourcesAll.map sourceName

/-! ## CREDIT_LIST_READ -/

/-- The items of the entries a read returns (R181). -/
def creditReadItems (s : State) (l : List Nat) : List Item :=
  (l.zipIdx).flatMap (fun e =>
    [itemK "INDEX_" e.2 e.1, itemK "CREDIT_" e.2 (creditCode (s.visitor e.1).credit),
     itemK "CHARGED_" e.2 (s.visitor e.1).charged, itemK "LIMIT_" e.2 (limitCode (s.visitor e.1).limit)])

/-- CREDIT's PENDING is cleared if the list is empty (R181 step 4). -/
def clearCreditIfEmpty (n : Ntu) : Ntu := if n.creditList.isEmpty then clearPending .credit n else n

def creditListReadBody (r : Request) (s : State) : Answer :=
  let count := clampedNat 1 16 16 (arg "COUNT" r)
  let out := s.ntu.creditList.take count
  let left := s.ntu.creditList.drop count
  .done (outside 1 16 (arg "COUNT" r))
    ([item "RETURNED" out.length, item "REMAINING" left.length,
      item "OVERFLOW" (boolCode s.ntu.creditOverflow), itemC "CREDIT_DROPS" s.ntu.creditDrops] ++
      creditReadItems s out) []
    (s.setNtu (clearCreditIfEmpty { s.ntu with creditList := left, creditOverflow := false }))

def creditListReadItems : List Name := [nm "COUNT"]

/-! ## Meanings -/

/-- CELL_CONFIG (R156). -/
def execCellConfig (port : Port) (s : State) : Host.Outcome State Fault Refusal :=
  request port "CELL_CONFIG" cellConfigNames cellConfigBody s

/-- GRANT_CONFIG (R157). -/
def execGrantConfig (port : Port) (s : State) : Host.Outcome State Fault Refusal :=
  request port "GRANT_CONFIG" grantConfigItems grantConfigBody s

/-- CLOCK_SET (R174). -/
def execClockSet (port : Port) (s : State) : Host.Outcome State Fault Refusal :=
  request port "CLOCK_SET" clockSetItems clockSetBody s

/-- STATUS_READ (R175), from the ship port or a shore port. -/
def execStatusRead (port : Port) (s : State) : Host.Outcome State Fault Refusal :=
  request port "STATUS_READ" statusReadItems (statusReadBody port) s

/-- NOTICE_ARM (R178). -/
def execNoticeArm (port : Port) (s : State) : Host.Outcome State Fault Refusal :=
  request port "NOTICE_ARM" noticeNames noticeArmBody s

/-- NOTICE_CLEAR (R179). -/
def execNoticeClear (port : Port) (s : State) : Host.Outcome State Fault Refusal :=
  request port "NOTICE_CLEAR" noticeNames noticeClearBody s

/-- CREDIT_LIST_READ (R181). -/
def execCreditListRead (port : Port) (s : State) : Host.Outcome State Fault Refusal :=
  request port "CREDIT_LIST_READ" creditListReadItems creditListReadBody s

end Sys2Proof.Machine
end

