-- ==== Sys2Proof/Machine/Sweep.lean ====
section
/-! DEFINITION. The Review Sweep Engine's own events, the voyage clock's rise, PART_RESTART with its pass over
the visitor table, and power-on reset (R69, R84, R87 to R89, R92, R174, R182). -/

namespace Sys2Proof.Machine

/-! ## The sweep engine -/

/-- The close reason after an interval expiry: INTERVAL when no close is pending (R87). -/
def reasonAtExpiry (s : State) : SweepReason :=
  if closePending s = 0 then .interval else s.rse.closeReason

/-- An interval expiry (R84). -/
def intervalExpiry (s : State) : State :=
  let s1 := bulkClose (s.setRse { s.rse with closeReason := reasonAtExpiry s })
  s1.setRse { s1.rse with intervalTimer := intervalStart s1.rse.interval }

/-- A visit of the running engine to the entry at CURSOR (R89). -/
def sweepVisit (s : State) : State :=
  let s1 := if (s.visitor s.rse.cursor).lifecycle = .free then s else owedWork s.rse.cursor s
  s1.setRse { s1.rse with cursor := (s1.rse.cursor + 1) % Config.visitorCount }

/-! ## PART_RESTART (R182) -/

/-- Stage 1: RESTARTS rises, every notice source is cleared and disarmed, and the credit notice list and
its overflow flag are emptied (R176, R180). -/
def restartNotices (s : State) : State :=
  let n := sourcesAll.foldl (fun n x =>
    noticeSet n x { noticeGet n x with pending := false, armed := false }) s.ntu
  (s.setNtu { n with creditList := [], creditOverflow := false }).setCfu
    { s.cfu with restarts := s.cfu.restarts + 1 }

/-- The packets held in the transmit queues, the egress queue and the resequencer. -/
def heldPackets (s : State) : Nat :=
  (Path.all.map (fun p => (s.port p).txQueue.length)).sum + s.shi.egress.length + s.drs.slots.length

/-- Stage 2: every held packet is freed uncharged, the uplink sequence is 0, and the resequencer is in
HUNT (R17, R145). The owed grant set is emptied with the cell heads of stage 5. -/
def restartPackets (s : State) : State :=
  let s1 := s.returnBuffers (heldPackets s)
  let s2 := s1.setShore (PerPath.tabulate (fun p => { s1.port p with txQueue := [] }))
  let s3 := s2.setShi { s2.shi with egress := [] }
  (s3.setDrs (resequencerRestart s3.drs)).setUplinkSeq 0

/-- Stages 1 to 6, made together as one step (R17, R126, R143, R169, R101, R102). -/
def restartStages (s : State) : State :=
  let s2 := restartPackets (restartNotices s)
  let s3 := Path.all.foldl (fun s p => pathRestart p s) s2
  let s4 := selectorRestart s3
  let s5 := s4.setCvu (coverageRestart s4.cvu)
  s5.setZnu (zoneRestart s5.znu)

/-- The execution of a PART_RESTART from the ship port: stages 1 to 6, then the pass is in flight (R182). -/
def restartBegin (r : Request) (s : State) : State :=
  let s1 := restartStages s
  s1.setCfu { s1.cfu with
    restart := some { nextIndex := 0, tag := r.tag, ignoredItem := setsAside [] r, queued := 0,
                      spilled := 0 } }

/-- A PART_RESTART taken from a port: the general checks, which refuse it from the shore, or its stages. -/
def restartTaken (port : Port) (r : Request) (s : State) : State :=
  match generalCheck port r with
  | some a => settle port [] r a s
  | none => restartBegin r s

/-- The next entry of the pass: the first from an index on that is not FREE (R69). -/
def nextRestartEntry (n : Nat) (s : State) : Option Nat :=
  (s.vtb.entries.find? (fun e => decide (n ≤ e.1) && e.2.lifecycle != .free)).map (fun e => e.1)

/-- The RESTART close of an ATTACHED or CLOSING entry (R69 step 2). -/
def restartClose (i : Nat) (s : State) : State × CloseOutcome :=
  if lifecycleOpen (s.visitor i).lifecycle then closeRecord i .restart s else (s, .empty)

/-- The counts of RESTART records after one entry's close (R182). -/
def restartCounted (i : Nat) (out : CloseOutcome) (x : RestartRun) : RestartRun :=
  { x with
    nextIndex := i + 1
    queued := x.queued + (if out = .queued then 1 else 0)
    spilled := x.spilled + (if out = .spilled then 1 else 0) }

/-- One entry of the pass: its review, its RESTART close and its marks cleared, as one step (R69). -/
def restartEntry (i : Nat) (x : RestartRun) (s : State) : State :=
  let c := restartClose i (review i s)
  let s1 := refreshEngine (clearMarks i c.1)
  s1.setCfu { s1.cfu with restart := some (restartCounted i c.2 x) }

/-- The reply of a restart (R182). -/
def restartReply (x : RestartRun) (s : State) : Reply :=
  { name := nm "PART_RESTART", tag := x.tag, status := .done, adjusted := false,
    ignoredItem := x.ignoredItem,
    items := [itemC "RESTARTS" s.cfu.restarts, item "QUEUED" x.queued, item "SPILLED" x.spilled,
              itemC "NEXT_SEQ" s.rcq.nextSeq],
    records := [] }

/-- Stage 8: the interval timer starts again when RECORD_INTERVAL is not 0, and the reply is placed (R84,
R182). -/
def restartEnd (x : RestartRun) (s : State) : State :=
  let s1 := s.setRse { s.rse with intervalTimer := intervalStart s.rse.interval }
  placeReply .ship (restartReply x s1) (s1.setCfu { s1.cfu with restart := none })

/-! ## Power-on reset -/

/-- The part after power-on reset: every block in its power-on state. The commands that wait, and the
physical conditions of the ports (carrier and the ship link), are not the part's to change (log entry
3). -/
def powerOnFrom (s : State) : State :=
  { State.reset with
    pending := s.pending
    shi := { Shi.powerOn with link := s.shi.link }
    shore := PerPath.tabulate (fun p => { ShorePort.powerOn with carrier := (s.port p).carrier }) }

/-! ## Meanings -/

/-- INTERVAL_EXPIRY (R84, R87); without a running timer the event does not occur. -/
def execIntervalExpiry (s : State) : Host.Outcome State Fault Refusal :=
  if timerRunning s.rse.intervalTimer then .next (intervalExpiry s) else .next s

/-- SWEEP_VISIT (R89); an engine that is IDLE makes no visit. -/
def execSweepVisit (s : State) : Host.Outcome State Fault Refusal :=
  if s.rse.running then .next (sweepVisit s) else .next s

/-- VOYAGE_CLOCK_RISE (R174). -/
def execVoyageClockRise (s : State) : Host.Outcome State Fault Refusal :=
  .next (s.setCfu { s.cfu with clock := s.cfu.clock + 1, clockTicks := 0 })

/-- PART_RESTART up to stage 6; its reply follows the pass (R182). -/
def execPartRestart (port : Port) (s : State) : Host.Outcome State Fault Refusal :=
  .next (takeNamed port (fun x => x == nm "PART_RESTART") (restartTaken port) s)

/-- RESTART_ENTRY_STEP (R69); it occurs while a restart is in flight and an entry of its pass is left. -/
def execRestartEntryStep (s : State) : Host.Outcome State Fault Refusal :=
  match s.cfu.restart with
  | none => .next s
  | some x =>
    match nextRestartEntry x.nextIndex s with
    | none => .next s
    | some i => .next (restartEntry i x s)

/-- RESTART_INTERVAL_TIMER (R84, R182); it occurs once the pass of a restart in flight is complete. -/
def execRestartIntervalTimer (s : State) : Host.Outcome State Fault Refusal :=
  match s.cfu.restart with
  | none => .next s
  | some x =>
    match nextRestartEntry x.nextIndex s with
    | none => .next (restartEnd x s)
    | some _ => .next s

/-- POWER_ON_RESET (R182). -/
def execPowerOnReset (s : State) : Host.Outcome State Fault Refusal := .next (powerOnFrom s)

end Sys2Proof.Machine
end

