-- ==== Sys2Proof/Machine/Dispatch.lean ====
section
/-! DEFINITION. One arm per command: each calls that command's meaning. -/

namespace Sys2Proof.Machine

def exec (i : Instr) (s : State) : Host.Outcome State Fault Refusal :=
  match i with
  | .powerOnReset => Sys2Proof.Machine.execPowerOnReset s
  | .shipFrameArrival f => Sys2Proof.Machine.execShipFrameArrival f s
  | .shoreFrameArrival p f => Sys2Proof.Machine.execShoreFrameArrival p f s
  | .shoreTransmitTake p => Sys2Proof.Machine.execShoreTransmitTake p s
  | .shoreTransmissionEnd p => Sys2Proof.Machine.execShoreTransmissionEnd p s
  | .shipTransmitTake => Sys2Proof.Machine.execShipTransmitTake s
  | .shipTransmissionEnd => Sys2Proof.Machine.execShipTransmissionEnd s
  | .shipLinkLoss => Sys2Proof.Machine.execShipLinkLoss s
  | .shipLinkReturn => Sys2Proof.Machine.execShipLinkReturn s
  | .carrierArrival p => Sys2Proof.Machine.execCarrierArrival p s
  | .carrierLoss p => Sys2Proof.Machine.execCarrierLoss p s
  | .settleTimerExpiry p => Sys2Proof.Machine.execSettleTimerExpiry p s
  | .openTimerExpiry p => Sys2Proof.Machine.execOpenTimerExpiry p s
  | .surveyProbeDue p => Sys2Proof.Machine.execSurveyProbeDue p s
  | .probeTimerExpiry p => Sys2Proof.Machine.execProbeTimerExpiry p s
  | .probeDeadlineExpiry p id => Sys2Proof.Machine.execProbeDeadlineExpiry p id s
  | .idleTimerExpiry p => Sys2Proof.Machine.execIdleTimerExpiry p s
  | .recoveryGapEnd p => Sys2Proof.Machine.execRecoveryGapEnd p s
  | .drainWindowExpiry p => Sys2Proof.Machine.execDrainWindowExpiry p s
  | .holdDownExpiry => Sys2Proof.Machine.execHoldDownExpiry s
  | .periodTimerExpiry => Sys2Proof.Machine.execPeriodTimerExpiry s
  | .gapTimerExpiry => Sys2Proof.Machine.execGapTimerExpiry s
  | .heartbeatTimerExpiry c => Sys2Proof.Machine.execHeartbeatTimerExpiry c s
  | .grantBoundary => Sys2Proof.Machine.execGrantBoundary s
  | .positionTimerExpiry => Sys2Proof.Machine.execPositionTimerExpiry s
  | .intervalExpiry => Sys2Proof.Machine.execIntervalExpiry s
  | .sweepVisit => Sys2Proof.Machine.execSweepVisit s
  | .voyageClockRise => Sys2Proof.Machine.execVoyageClockRise s
  | .unknownRequest port => Sys2Proof.Machine.execUnknownRequest port s
  | .visitorAdd port => Sys2Proof.Machine.execVisitorAdd port s
  | .visitorRemove port => Sys2Proof.Machine.execVisitorRemove port s
  | .visitorRead port => Sys2Proof.Machine.execVisitorRead port s
  | .visitorCredit port => Sys2Proof.Machine.execVisitorCredit port s
  | .visitorAllow port => Sys2Proof.Machine.execVisitorAllow port s
  | .visitorSettle port => Sys2Proof.Machine.execVisitorSettle port s
  | .tariffLoad port => Sys2Proof.Machine.execTariffLoad port s
  | .tariffSwitch port => Sys2Proof.Machine.execTariffSwitch port s
  | .planLoad port => Sys2Proof.Machine.execPlanLoad port s
  | .partnerLoad port => Sys2Proof.Machine.execPartnerLoad port s
  | .recordDrain port => Sys2Proof.Machine.execRecordDrain port s
  | .recordRelease port => Sys2Proof.Machine.execRecordRelease port s
  | .voyageStart port => Sys2Proof.Machine.execVoyageStart port s
  | .recordInterval port => Sys2Proof.Machine.execRecordInterval port s
  | .recordFlush port => Sys2Proof.Machine.execRecordFlush port s
  | .zoneLoad port => Sys2Proof.Machine.execZoneLoad port s
  | .zoneDefaults port => Sys2Proof.Machine.execZoneDefaults port s
  | .position port => Sys2Proof.Machine.execPosition port s
  | .zoneForce port => Sys2Proof.Machine.execZoneForce port s
  | .pathConfig port => Sys2Proof.Machine.execPathConfig port s
  | .pathEnable port => Sys2Proof.Machine.execPathEnable port s
  | .pathDisable port => Sys2Proof.Machine.execPathDisable port s
  | .pathSurvey port => Sys2Proof.Machine.execPathSurvey port s
  | .pathTest port => Sys2Proof.Machine.execPathTest port s
  | .selectConfig port => Sys2Proof.Machine.execSelectConfig port s
  | .pathPin port => Sys2Proof.Machine.execPathPin port s
  | .reseqConfig port => Sys2Proof.Machine.execReseqConfig port s
  | .cellConfig port => Sys2Proof.Machine.execCellConfig port s
  | .grantConfig port => Sys2Proof.Machine.execGrantConfig port s
  | .clockSet port => Sys2Proof.Machine.execClockSet port s
  | .statusRead port => Sys2Proof.Machine.execStatusRead port s
  | .noticeArm port => Sys2Proof.Machine.execNoticeArm port s
  | .noticeClear port => Sys2Proof.Machine.execNoticeClear port s
  | .creditListRead port => Sys2Proof.Machine.execCreditListRead port s
  | .partRestart port => Sys2Proof.Machine.execPartRestart port s
  | .restartEntryStep => Sys2Proof.Machine.execRestartEntryStep s
  | .restartIntervalTimer => Sys2Proof.Machine.execRestartIntervalTimer s

end Sys2Proof.Machine
end

