-- ==== Sys2Proof/Machine/Time.lean ====
section
/-! DEFINITION. The passing of time: one 0.1 ms step of the timestamp and, at every tenth, a 1 ms tick that
counts every running timer down and makes the expiries that are due (00_scope.md, Conventions, Time; log
entries 4 and 5). -/

namespace Sys2Proof.Machine

/-! ## One millisecond on every timer -/

def tickProbe (x : Probe) : Probe := { x with left := x.left - 1 }

def tickEntry : SurveyEntry → SurveyEntry
  | .inFlight id t n => .inFlight id t (n - 1)
  | .unsent => .unsent
  | .echoed id x => .echoed id x
  | .lost id => .lost id

def tickSurvey : Survey → Survey
  | .inFlight run => .inFlight { run with
      entries := run.entries.map tickEntry, spacing := timerTick run.spacing }
  | .idle => .idle
  | .deferred => .deferred

/-- The timers and deadlines of a path. -/
def tickPath (v : Psv) : Psv :=
  { v with
    settleTimer := timerTick v.settleTimer
    openTimer := timerTick v.openTimer
    probeTimer := timerTick v.probeTimer
    idleTimer := timerTick v.idleTimer
    gap := timerTick v.gap
    outstanding := v.outstanding.map tickProbe
    survey := tickSurvey v.survey }

/-- The timers of the Path Selector. -/
def tickSelector (u : Psl) : Psl :=
  { u with
    holdDown := timerTick u.holdDown
    drain := PerPath.tabulate (fun p => timerTick (u.drain.get p))
    period := timerTick u.period }

def tickCell (h : CellHead) : CellHead := { h with hbTimer := timerTick h.hbTimer }

/-- The timers of the Coverage Unit. -/
def tickCoverage (u : Cvu) : Cvu :=
  { u with
    cells := Vector.ofFn (fun c => tickCell u.cells[c])
    grantTimer := timerTick u.grantTimer }

/-- Every timer of the part, and the ticks toward the next rise of the voyage clock. -/
def tickTimers (s : State) : State :=
  { s with
    psv := PerPath.tabulate (fun p => tickPath (s.path p))
    psl := tickSelector s.psl
    drs := { s.drs with gapTimer := timerTick s.drs.gapTimer }
    cvu := tickCoverage s.cvu
    znu := { s.znu with positionTimer := timerTick s.znu.positionTimer }
    rse := { s.rse with intervalTimer := timerTick s.rse.intervalTimer }
    cfu := { s.cfu with clockTicks := s.cfu.clockTicks + 1 } }

/-! ## Expiries that are due -/

def whenDue (t : Timer) (i : Instr) : List Instr := if timerDue t then [i] else []

/-- The ids of a path's probes whose deadline has come. -/
def overdue (v : Psv) : List (BitVec 8) :=
  (v.outstanding.filter (fun x => x.left == 0)).map (fun x => x.id) ++
    (surveySet v).filterMap (fun e => match e with
      | .inFlight id _ 0 => some id
      | .inFlight _ _ (_ + 1) => none
      | .unsent => none
      | .echoed _ _ => none
      | .lost _ => none)

/-- The spacing timer of a survey in flight. -/
def spacingOf (v : Psv) : Timer :=
  match v.survey with
  | .inFlight run => run.spacing
  | .idle => none
  | .deferred => none

/-- The expiries due on a path. -/
def duePath (s : State) (p : Path) : List Instr :=
  let v := s.path p
  whenDue v.settleTimer (.settleTimerExpiry p) ++ whenDue v.openTimer (.openTimerExpiry p) ++
    whenDue (spacingOf v) (.surveyProbeDue p) ++ whenDue v.probeTimer (.probeTimerExpiry p) ++
    (overdue v).map (fun id => .probeDeadlineExpiry p id) ++
    whenDue v.idleTimer (.idleTimerExpiry p) ++ whenDue v.gap (.recoveryGapEnd p)

/-- Every expiry that is due, in the order in which this model makes them (log entry 4). -/
def dueCommands (s : State) : List Instr :=
  Path.all.flatMap (duePath s) ++
    Path.all.flatMap (fun p => whenDue (s.psl.drain.get p) (.drainWindowExpiry p)) ++
    whenDue s.psl.holdDown .holdDownExpiry ++ whenDue s.psl.period .periodTimerExpiry ++
    whenDue s.drs.gapTimer .gapTimerExpiry ++
    cellsAll.flatMap (fun c => whenDue (s.cell c).hbTimer (.heartbeatTimerExpiry c.val)) ++
    whenDue s.cvu.grantTimer .grantBoundary ++
    whenDue s.znu.positionTimer .positionTimerExpiry ++
    whenDue s.rse.intervalTimer .intervalExpiry ++
    (if 1000 ≤ s.cfu.clockTicks then [.voyageClockRise] else [])

/-- An expiry is made as its command, where it is still due: an earlier one of the same tick may have
stopped or restarted its timer. -/
def fire (s : State) (i : Instr) : State :=
  if i ∈ dueCommands s then
    match exec i s with
    | .next t => t
    | .fault _ => s
    | .refused _ => s
  else s

/-- The 1 ms tick. -/
def tick (s : State) : State :=
  let s1 := tickTimers s
  (dueCommands s1).foldl fire s1

/-- One step of the 0.1 ms timestamp, with a 1 ms tick at every tenth. -/
def timeStep (s : State) : State :=
  if s.clocks.tenth < 9 then
    s.setClocks { stamp := s.clocks.stamp + 1, tenth := s.clocks.tenth + 1 }
  else tick (s.setClocks { stamp := s.clocks.stamp + 1, tenth := 0 })

end Sys2Proof.Machine
end

