-- ==== Sys2Proof/Machine/Step.lean ====
section
/-! DEFINITION. One step: the command at the front of the queue, or, with none waiting, 0.1 ms of time. -/

namespace Sys2Proof.Machine

/-- The front command is taken from the queue and executed on the queue's rest; on an empty queue time
passes (log entry 4). -/
def step (s : State) : Host.Outcome State Fault Refusal :=
  match s.pending with
  | [] => .next (timeStep s)
  | i :: rest => exec i (s.setPending rest)

/-- The state with the command a word spells at the front of its queue; unchanged where it spells none. -/
def State.withFetchWord (s : State) (nbits w : Nat) : State :=
  match Sys2Proof.decodeTableWord nbits w with
  | none => s
  | some i => s.setPending (i :: s.pending)

end Sys2Proof.Machine
end

