-- ==== Sys2Proof/Safety.lean ====
section
/-! DEFINITION. The laws of the device as properties of a state, and the terms in which the statements about
requests are made. -/

namespace Sys2Proof.Machine

/-! ## Laws of the device -/

/-- Packets that hold a buffer: those in the transmit queues, the ship egress queue and the resequencer
(R7). -/
def buffersHeld (s : State) : Nat :=
  (s.port .sp0).txQueue.length + (s.port .sp1).txQueue.length + (s.port .sp2).txQueue.length +
    (s.port .sp3).txQueue.length + s.shi.egress.length + s.drs.slots.length

/-- The conservation of buffers (R7), with the law that only the active path's transmit queue holds packets
(R129) and the bounds of the queues (R8, R9). -/
def BufferLaw (s : State) : Prop :=
  s.freeBuffers + buffersHeld s = Config.poolSize ∧
  (∀ p : Path, s.psl.active ≠ some p → (s.port p).txQueue = []) ∧
  (∀ p : Path, (s.port p).txQueue.length ≤ Config.transmitQueueSize) ∧
  s.shi.egress.length ≤ Config.egressQueueSize

/-- The levels of a cell head under a cap: PENDING_LEVEL equals TARGET, ACTIVE_LEVEL does not exceed it,
TARGET does not exceed the cap, and a cell head that is not SERVING has target 0 (R161, R162). -/
def LevelLaw (cap : Nat) (h : CellHead) : Prop :=
  h.pendingLevel = h.target ∧ h.activeLevel ≤ h.target ∧ h.target ≤ cap ∧
    (h.state ≠ .serving → h.target = 0)

/-- The law of the Coverage Unit (R162, R165). -/
def CoverageLaw (s : State) : Prop := ∀ c : Cell, LevelLaw (currentTerms s).cap (s.cell c)

/-- The record queue holds at most 1024 records, their sequences consecutive up to NEXT_SEQ, and none names a
FREE entry; from the head on, the cursor lies at or before the limit, and the limit at or before NEXT_SEQ
(R71). -/
def RecordQueueLaw (s : State) : Prop :=
  held s.rcq ≤ Config.recordQueueSize ∧
  (∀ (k : Nat) (r : Record), s.rcq.records[k]? = some r →
    r.seq = s.rcq.nextSeq - BitVec.ofNat 32 (held s.rcq - k)) ∧
  (∀ r ∈ s.rcq.records, (s.visitor r.index).lifecycle ≠ .free) ∧
  fromHead s.rcq s.rcq.cursorSeq ≤ fromHead s.rcq s.rcq.limitSeq ∧
  fromHead s.rcq s.rcq.limitSeq ≤ held s.rcq

/-- The canonical form of the visitor table. -/
def TableLaw (s : State) : Prop := tableWf Visitor.freeEntry s.vtb.entries

/-- What an entry's open record has charged, 0 without one (R81). -/
def openCharge (v : Visitor) : Nat :=
  match v.openRecord with
  | none => 0
  | some r => recordCharge r

/-- What the queued records that name an entry have charged (R81). -/
def queuedCharge (q : Rcq) (i : Nat) : Nat :=
  ((q.records.filter (fun r => r.index == i)).map (fun r => recordCharge r.contents)).sum

/-- An open record is present in ATTACHED and CLOSING and absent otherwise, a FREE entry holds the FREE
value of every field (R20), and only ATTACHED and CLOSING entries are named by records (R27, R71). -/
def EntryLaw (q : Rcq) (i : Nat) (v : Visitor) : Prop :=
  (v.lifecycle = .free → v = Visitor.freeEntry) ∧
  (v.openRecord.isSome = lifecycleOpen v.lifecycle) ∧
  (lifecycleOpen v.lifecycle = false → queuedFor q i = 0)

/-- A record that holds no traffic has charged nothing (R62). -/
def TrafficLaw (v : Visitor) : Prop :=
  ∀ r : OpenRecord, v.openRecord = some r → holdsTraffic r = false → recordCharge r = 0

/-- The conservation of charges (R81), with the shape of the entries it rests on. -/
def ChargeLaw (s : State) : Prop :=
  TableLaw s ∧
  ∀ i : Nat, EntryLaw s.rcq i (s.visitor i) ∧ TrafficLaw (s.visitor i) ∧
    (s.visitor i).charged =
      (s.visitor i).settled + (s.visitor i).spilled + openCharge (s.visitor i) + queuedCharge s.rcq i

/-- Every entry that is not FREE holds a nonzero tag, and no two hold the same (R19). -/
def TagLaw (s : State) : Prop :=
  (∀ i : Nat, (s.visitor i).lifecycle ≠ .free → (s.visitor i).tag ≠ 0) ∧
  ∀ i j : Nat, (s.visitor i).lifecycle ≠ .free → (s.visitor j).lifecycle ≠ .free →
    (s.visitor i).tag = (s.visitor j).tag → i = j

/-- The sweep engine is RUNNING exactly while a mark is set (R89). -/
def EngineLaw (s : State) : Prop := s.rse.running = marksOwed s

/-- Whether an open record is that which the conditions now give: zone, path and PRICE_EFF, and for an
ATTACHED entry ROAMING (R93). -/
def RecordCurrent (s : State) (v : Visitor) : Prop :=
  (∃ r : OpenRecord, v.openRecord = some r ∧ r.zone = s.znu.current ∧ r.path = s.psl.active ∧
    r.priceEff = priceNow s v) ∧
  (v.lifecycle = .attached → v.roaming = roamingNow s v.partner)

/-- The consistency of open records with the current conditions (R93), with the table's form and the presence
of an open record in every ATTACHED or CLOSING entry (R20), on which it rests. -/
def RecordsLaw (s : State) : Prop :=
  TableLaw s ∧
  (∀ i : Nat, lifecycleOpen (s.visitor i).lifecycle = true →
    (s.visitor i).openRecord.isSome = true) ∧
  ∀ i : Nat, lifecycleOpen (s.visitor i).lifecycle = true → (s.visitor i).reviewMark = false →
    RecordCurrent s (s.visitor i)

/-- The law of the resequencer: the held packets lie in strictly rising distance within 1..255, in HUNT none
is held and NEXT_EXPECTED is 0 (R145, R146), and the gap timer runs exactly while a packet is held (R150). -/
def ResequencerLaw (s : State) : Prop :=
  s.drs.slots.Pairwise (fun x y => seqDistance s.drs x.seq < seqDistance s.drs y.seq) ∧
  (∀ x ∈ s.drs.slots, 1 ≤ seqDistance s.drs x.seq ∧ seqDistance s.drs x.seq ≤ 255) ∧
  (s.drs.locked = false → s.drs.slots = [] ∧ s.drs.nextExpected = 0) ∧
  (s.drs.gapTimer.isSome = !s.drs.slots.isEmpty)

/-- The active path is UP and permitted by the current zone, and no other path holds user packets in its
transmit queue (R129), with the states in which the two bring-up timers run (R114). -/
def ActiveLaw (s : State) : Prop :=
  (∀ p : Path, s.psl.active = some p → (s.path p).state = .up ∧ permitted s p = true) ∧
  (∀ p : Path, s.psl.active ≠ some p → (s.port p).txQueue = []) ∧
  (∀ p : Path, ((s.path p).settleTimer ≠ none → (s.path p).state = .settling) ∧
    ((s.path p).openTimer ≠ none → (s.path p).state = .opening))

/-! ## Frames that pass a port's tests -/

/-- A frame with a good check sequence and the part's own type, whose first byte is a kind (R1, R2). -/
def OwnFrame (kind : Byte) (f : EthFrame) : Prop :=
  f.checkOk = true ∧ f.etherType = 0x88B6 ∧ f.body.head? = some kind

/-- A USER frame that passes every test of the ship port (R1, R183). -/
def UserPasses (f : EthFrame) (s : State) : Prop :=
  OwnFrame 0x01 f ∧ 10 ≤ f.body.length ∧ byteAt f.body 1 < 16 ∧
    lengthOk (field f.body 8 2) (f.body.length - 10) = true ∧
    (s.cell (cellField f.body)).enable = true ∧ (s.cell (cellField f.body)).state = .serving

/-- A shore tunnel frame of a kind whose header names the path it arrives on (R2, R183). -/
def TunnelFrame (kind : Byte) (p : Path) (f : EthFrame) : Prop :=
  OwnFrame kind f ∧ 16 ≤ f.body.length ∧ byteAt f.body 1 = p.num

/-- The state in which a supervision frame is handed on: counted, its sender's address learned (R2, R184). -/
def supervisionAt (p : Path) (f : EthFrame) (s : State) : State :=
  s.setPort p { s.port p with
    partner := some f.src
    counters := { (s.port p).counters with
      rxSupervision := (s.port p).counters.rxSupervision + 1 } }

/-- A supervisor whose path has just sent a frame: on an UP path the idle timer starts again (R123). -/
def idleRestarted (v : Psv) : Psv := if v.state = .up then { v with idleTimer := some 50 } else v

/-! ## Requests at the ship port -/

/-- The head of the ship queue is a request of a name, no item of it stands twice, and the Control Frame
Unit can take it (R5, R170). -/
def ShipHead (name : String) (r : Request) (s : State) : Prop :=
  headRequest s .ship = some r ∧ r.name = nm name ∧
    hasRepeat (r.items.map (fun i => i.name)) = false ∧ portFree s .ship = true

/-- The state after a DONE: the reply with its items in the ship reply slot (R171). -/
def doneAt (r : Request) (taken : List Name) (adjusted : Bool) (items : List Item)
    (records : List Record) (t : State) : State :=
  placeReply .ship
    { name := r.name, tag := r.tag, status := .done, adjusted := adjusted,
      ignoredItem := setsAside taken r, items := items, records := records } t

/-- The state after a refusal: the request gone, its reply without items, and nothing else (R170, R171). -/
def refusedAt (r : Request) (taken : List Name) (status : Status) (s : State) : State :=
  placeReply .ship (plainReply r status (setsAside taken r)) (dropRequest .ship s)

/-- The requests a shore port may not make, each with its command at the port of a path (R170, R172). -/
def shipOnly (p : Path) : List (String × Instr) :=
  [("VISITOR_ADD", .visitorAdd (.shore p)), ("VISITOR_REMOVE", .visitorRemove (.shore p)),
   ("VISITOR_CREDIT", .visitorCredit (.shore p)), ("VISITOR_ALLOW", .visitorAllow (.shore p)),
   ("VISITOR_SETTLE", .visitorSettle (.shore p)), ("TARIFF_LOAD", .tariffLoad (.shore p)),
   ("TARIFF_SWITCH", .tariffSwitch (.shore p)), ("PLAN_LOAD", .planLoad (.shore p)),
   ("PARTNER_LOAD", .partnerLoad (.shore p)), ("RECORD_DRAIN", .recordDrain (.shore p)),
   ("RECORD_RELEASE", .recordRelease (.shore p)), ("VOYAGE_START", .voyageStart (.shore p)),
   ("RECORD_INTERVAL", .recordInterval (.shore p)), ("RECORD_FLUSH", .recordFlush (.shore p)),
   ("ZONE_LOAD", .zoneLoad (.shore p)), ("ZONE_DEFAULTS", .zoneDefaults (.shore p)),
   ("POSITION", .position (.shore p)), ("ZONE_FORCE", .zoneForce (.shore p)),
   ("PATH_CONFIG", .pathConfig (.shore p)), ("PATH_ENABLE", .pathEnable (.shore p)),
   ("PATH_DISABLE", .pathDisable (.shore p)), ("PATH_SURVEY", .pathSurvey (.shore p)),
   ("PATH_TEST", .pathTest (.shore p)), ("SELECT_CONFIG", .selectConfig (.shore p)),
   ("PATH_PIN", .pathPin (.shore p)), ("RESEQ_CONFIG", .reseqConfig (.shore p)),
   ("CELL_CONFIG", .cellConfig (.shore p)), ("GRANT_CONFIG", .grantConfig (.shore p)),
   ("CLOCK_SET", .clockSet (.shore p)), ("NOTICE_ARM", .noticeArm (.shore p)),
   ("NOTICE_CLEAR", .noticeClear (.shore p)), ("CREDIT_LIST_READ", .creditListRead (.shore p)),
   ("PART_RESTART", .partRestart (.shore p))]

end Sys2Proof.Machine
end

