-- ==== Sys2Proof/Certificates/Slice0/Obligations.lean ====
section
/-! DEFINITION. The statements for the provers: the laws of the device as invariants of every step, what each
command does, and the rules of the shared operations. -/

open Sys2Proof Sys2Proof.Machine

/-! ## The step and the reset -/

/-- A step runs the command at the front of the queue on the queue's rest. On an empty queue, by the model's
choice (log entry 4), the timestamp rises by one, and every tenth such step makes the 1 ms tick. At the tick every
running timer and every probe deadline loses one millisecond (whole milliseconds: log entry 5), and each expiry that
is due is made as its command where it is still due; the voyage clock rises once 1000 ticks have passed. -/
def Obligations.StepRunsTheFrontCommand : Prop :=
  (∀ (c : Instr) (rest : List Instr) (s : State), s.pending = c :: rest →
    step s = exec c (s.setPending rest)) ∧
  (∀ s : State, s.pending = [] →
    (s.clocks.tenth < 9 →
      step s = .next (s.setClocks { stamp := s.clocks.stamp + 1, tenth := s.clocks.tenth + 1 })) ∧
    (9 ≤ s.clocks.tenth →
      step s = .next (tick (s.setClocks { stamp := s.clocks.stamp + 1, tenth := 0 })))) ∧
  (∀ s : State, ∃ t : State, tickTimers s = t ∧ tick s = (dueCommands t).foldl fire t ∧
    (∀ p : Path, t.path p = { s.path p with
      settleTimer := (s.path p).settleTimer.map (· - 1)
      openTimer := (s.path p).openTimer.map (· - 1)
      probeTimer := (s.path p).probeTimer.map (· - 1)
      idleTimer := (s.path p).idleTimer.map (· - 1)
      gap := (s.path p).gap.map (· - 1)
      outstanding := (s.path p).outstanding.map (fun x => { x with left := x.left - 1 })
      survey := (t.path p).survey }) ∧
    (∀ (p : Path) (run : SurveyRun), (s.path p).survey = .inFlight run →
      (t.path p).survey = .inFlight { run with
        spacing := run.spacing.map (· - 1)
        entries := run.entries.map (fun e => match e with
          | .inFlight id sent left => .inFlight id sent (left - 1)
          | .unsent => .unsent
          | .echoed id sample => .echoed id sample
          | .lost id => .lost id) }) ∧
    (∀ p : Path, (s.path p).survey = .idle ∨ (s.path p).survey = .deferred →
      (t.path p).survey = (s.path p).survey) ∧
    (∀ p : Path, t.psl.drain.get p = (s.psl.drain.get p).map (· - 1)) ∧
    t.psl = { s.psl with
      holdDown := s.psl.holdDown.map (· - 1), period := s.psl.period.map (· - 1)
      drain := t.psl.drain } ∧
    t.drs = { s.drs with gapTimer := s.drs.gapTimer.map (· - 1) } ∧
    (∀ c : Cell, t.cell c = { s.cell c with hbTimer := (s.cell c).hbTimer.map (· - 1) }) ∧
    t.cvu = { s.cvu with cells := t.cvu.cells, grantTimer := s.cvu.grantTimer.map (· - 1) } ∧
    t.znu = { s.znu with positionTimer := s.znu.positionTimer.map (· - 1) } ∧
    t.rse = { s.rse with intervalTimer := s.rse.intervalTimer.map (· - 1) } ∧
    t.cfu = { s.cfu with clockTicks := s.cfu.clockTicks + 1 } ∧
    t = { s with
      psv := t.psv, psl := t.psl, drs := t.drs, cvu := t.cvu, znu := t.znu, rse := t.rse
      cfu := t.cfu }) ∧
  (∀ (i : Instr) (s : State),
    (∀ t : State, i ∈ dueCommands s → exec i s = .next t → fire s i = t) ∧
    (i ∉ dueCommands s → fire s i = s) ∧
    (i ∈ dueCommands s ↔
      (∃ p : Path, i = .settleTimerExpiry p ∧ (s.path p).settleTimer = some 0 ∨
        i = .openTimerExpiry p ∧ (s.path p).openTimer = some 0 ∨
        i = .probeTimerExpiry p ∧ (s.path p).probeTimer = some 0 ∨
        i = .idleTimerExpiry p ∧ (s.path p).idleTimer = some 0 ∨
        i = .recoveryGapEnd p ∧ (s.path p).gap = some 0 ∨
        i = .drainWindowExpiry p ∧ s.psl.drain.get p = some 0 ∨
        (∃ run : SurveyRun, (s.path p).survey = .inFlight run ∧
          (i = .surveyProbeDue p ∧ run.spacing = some 0 ∨
            ∃ (id : BitVec 8) (sent : BitVec 32), i = .probeDeadlineExpiry p id ∧
              .inFlight id sent 0 ∈ run.entries)) ∨
        ∃ x ∈ (s.path p).outstanding, i = .probeDeadlineExpiry p x.id ∧ x.left = 0) ∨
      (∃ c : Cell, i = .heartbeatTimerExpiry c.val ∧ (s.cell c).hbTimer = some 0) ∨
      i = .holdDownExpiry ∧ s.psl.holdDown = some 0 ∨
      i = .periodTimerExpiry ∧ s.psl.period = some 0 ∨
      i = .gapTimerExpiry ∧ s.drs.gapTimer = some 0 ∨
      i = .grantBoundary ∧ s.cvu.grantTimer = some 0 ∨
      i = .positionTimerExpiry ∧ s.znu.positionTimer = some 0 ∨
      i = .intervalExpiry ∧ s.rse.intervalTimer = some 0 ∨
      i = .voyageClockRise ∧ 1000 ≤ s.cfu.clockTicks))

/-- POWER_ON_RESET puts every block in its power-on state. That the timestamp and the phase of the 1 ms tick are 0
again is the model's choice (log entry 2), and so is that the waiting commands, the ship link and the shore carriers
are kept (log entry 3). -/
def Obligations.PowerOnResetGivesResetState : Prop :=
  ∀ s : State, ∃ t : State, exec .powerOnReset s = .next t ∧
    t.vtb = State.reset.vtb ∧ t.rtu = State.reset.rtu ∧ t.rcq = State.reset.rcq ∧
    t.rse = State.reset.rse ∧ t.znu = State.reset.znu ∧ t.psv = State.reset.psv ∧
    t.psl = State.reset.psl ∧ t.drs = State.reset.drs ∧ t.cvu = State.reset.cvu ∧
    t.cfu = State.reset.cfu ∧ t.ntu = State.reset.ntu ∧ t.freeBuffers = 3072 ∧ t.uplinkSeq = 0 ∧
    t.clocks = State.reset.clocks ∧ t.pending = s.pending ∧
    t.shi = { State.reset.shi with link := s.shi.link } ∧
    ∀ p : Path, t.port p = { State.reset.port p with carrier := (s.port p).carrier }

/-- The state right after reset obeys every law of the device. -/
def Obligations.ResetObeysTheLaws : Prop :=
  BufferLaw State.reset ∧ ActiveLaw State.reset ∧ CoverageLaw State.reset ∧
    RecordQueueLaw State.reset ∧ ChargeLaw State.reset ∧ RecordsLaw State.reset ∧
    ResequencerLaw State.reset ∧ EngineLaw State.reset ∧ TagLaw State.reset

/-! ## The laws of the device, kept by every step -/

/-- The conservation of buffers is kept by every step. -/
def Obligations.StepKeepsBufferLaw : Prop :=
  ∀ s t : State, BufferLaw s → step s = .next t → BufferLaw t

/-- The law of the active path is kept by every step. -/
def Obligations.StepKeepsActiveLaw : Prop :=
  ∀ s t : State, ActiveLaw s → step s = .next t → ActiveLaw t

/-- The law of the levels of the cell heads is kept by every step. -/
def Obligations.StepKeepsCoverageLaw : Prop :=
  ∀ s t : State, CoverageLaw s → step s = .next t → CoverageLaw t

/-- The law of the record queue is kept by every step from a state that obeys the conservation of charges
too. -/
def Obligations.StepKeepsRecordQueueLaw : Prop :=
  ∀ s t : State, ChargeLaw s → RecordQueueLaw s → step s = .next t → RecordQueueLaw t

/-- The conservation of charges is kept by every step, and so is the law of the tag map, under which a lookup gives the
entry that is not FREE and holds the tag. No command adds a charge to a visitor that is not ATTACHED, is BARRED or was
EXHAUSTED, and none but VISITOR_ALLOW raises the ALLOWANCE of an entry that is not FREE. -/
def Obligations.StepKeepsChargeLaw : Prop :=
  (∀ s t : State, ChargeLaw s → step s = .next t → ChargeLaw t) ∧
  (∀ s t : State, ChargeLaw s → TagLaw s → step s = .next t → TagLaw t) ∧
  (∀ (s : State) (g : Tag) (i : Nat), ChargeLaw s → TagLaw s →
    (lookupTag s g = some i ↔
      g ≠ 0 ∧ (s.visitor i).lifecycle ≠ .free ∧ (s.visitor i).tag = g)) ∧
  ∀ (c : Instr) (i : Nat) (s t : State), ChargeLaw s → exec c s = .next t →
    ((s.visitor i).charged < (t.visitor i).charged →
      (s.visitor i).lifecycle = .attached ∧ (t.visitor i).lifecycle = .attached ∧
      (t.visitor i).roaming ≠ .barred ∧ (s.visitor i).credit ≠ .exhausted) ∧
    ((s.visitor i).lifecycle ≠ .free → (s.visitor i).allowance < (t.visitor i).allowance →
      ∃ port : Port, c = .visitorAllow port)

/-- The consistency of open records with the current conditions is kept by every step. -/
def Obligations.StepKeepsRecordsLaw : Prop :=
  ∀ s t : State, RecordsLaw s → step s = .next t → RecordsLaw t

/-- The law of the resequencer is kept by every step. -/
def Obligations.StepKeepsResequencerLaw : Prop :=
  ∀ s t : State, ResequencerLaw s → step s = .next t → ResequencerLaw t

/-- The sweep engine runs exactly while a mark is set, and every step keeps it so. -/
def Obligations.StepKeepsEngineLaw : Prop :=
  ∀ s t : State, ChargeLaw s → EngineLaw s → step s = .next t → EngineLaw t

/-! ## Formats -/

/-- A REQUEST frame in the layout of control frames is read back as the request it carries, and a DATA frame in
the layout of shore tunnel frames with its sequence, tag, length and packet. -/
def Obligations.FramesReadBack : Prop :=
  (∀ (tag : BitVec 16) (name : Name) (items : List Item), items.length < 65536 →
    (∀ i ∈ items, -2 ^ 63 ≤ i.value ∧ i.value < 2 ^ 63) →
    parseRequest (controlBytes 0x20 0 tag.toNat 0 name items) =
      { name := name, tag := tag, items := items }) ∧
  ∀ (p : Path) (seq : BitVec 16) (e : UplinkEntry), e.packet.length = e.length → e.length < 65536 →
    dataPacket p (dataBytes p seq e) =
      { seq := seq, packet := e.packet, tag := e.tag, length := e.length, port := p }

/-- A usage record takes 64 bytes, with every field at its offset and four zero bytes at the end. -/
def Obligations.UsageRecordLayout : Prop :=
  ∀ r : Record, r.index < 65536 → r.contents.bytesUp < 2 ^ 32 → r.contents.bytesDown < 2 ^ 32 →
    r.contents.freeBytes < 2 ^ 32 → r.contents.pktsUp < 2 ^ 32 → r.contents.pktsDown < 2 ^ 32 →
    r.contents.priceEff < 65536 → r.contents.fee < 65536 → r.contents.feeCharged < 2 ^ 48 →
    r.contents.charge < 2 ^ 48 →
    (recordBytes r).length = 64 ∧ field (recordBytes r) 0 4 = r.seq.toNat ∧
    field (recordBytes r) 4 4 = r.tag.toNat ∧ field (recordBytes r) 8 2 = r.index ∧
    field (recordBytes r) 10 1 = closeReasonCode r.reason ∧
    field (recordBytes r) 11 1 = zoneByte r.contents.zone ∧
    field (recordBytes r) 12 1 = r.contents.region.val ∧
    field (recordBytes r) 13 1 = pathByte r.contents.path ∧
    field (recordBytes r) 14 1 = roamingCode r.contents.roaming ∧
    field (recordBytes r) 15 1 = bankCode r.contents.bank ∧
    field (recordBytes r) 16 2 = r.contents.priceEff ∧
    field (recordBytes r) 18 2 = r.contents.fee ∧
    field (recordBytes r) 20 4 = r.contents.openTime.toNat ∧
    field (recordBytes r) 24 4 = r.closeTime.toNat ∧
    field (recordBytes r) 28 4 = r.contents.bytesUp ∧
    field (recordBytes r) 32 4 = r.contents.bytesDown ∧
    field (recordBytes r) 36 4 = r.contents.freeBytes ∧
    field (recordBytes r) 40 4 = r.contents.pktsUp ∧
    field (recordBytes r) 44 4 = r.contents.pktsDown ∧
    field (recordBytes r) 48 6 = r.contents.feeCharged ∧
    field (recordBytes r) 54 6 = r.contents.charge ∧ field (recordBytes r) 60 4 = 0

/-! ## Packets -/

/-- The ship port sorts an arriving frame: the first test that fails discards and counts it. A REQUEST joins the
request queue or is dropped with the queue full. A USER frame that passes is counted and looked up; it attaches a
PROVISIONED visitor; refused, it is counted in BLOCKED and its reason's counter; admitted, it teaches the serving
cell head, takes a buffer and joins the tail of the active path's queue, or is dropped with the pool empty or that
queue full. -/
def Obligations.ShipFramesAreSortedAndQueued : Prop :=
  (∀ (f : EthFrame) (s : State),
    (f.checkOk = false → exec (.shipFrameArrival f) s = .next
      (s.countShip (fun c => { c with dropHeader := c.dropHeader + 1 }))) ∧
    (f.checkOk = true → f.etherType ≠ 0x88B6 → exec (.shipFrameArrival f) s = .next
      (s.countShip (fun c => { c with dropForeign := c.dropForeign + 1 }))) ∧
    (f.checkOk = true → f.etherType = 0x88B6 → f.body = [] → exec (.shipFrameArrival f) s = .next
      (s.countShip (fun c => { c with dropHeader := c.dropHeader + 1 }))) ∧
    (∀ k : Byte, OwnFrame k f → k ≠ 0x01 → k ≠ 0x02 → k ≠ 0x20 →
      exec (.shipFrameArrival f) s = .next
        (s.countShip (fun c => { c with dropKind := c.dropKind + 1 }))) ∧
    (OwnFrame 0x01 f ∧ (f.body.length < 10 ∨ 16 ≤ byteAt f.body 1) ∨
        OwnFrame 0x02 f ∧ (f.body.length < 10 ∨ 16 ≤ byteAt f.body 1 ∨ 64 ≤ byteAt f.body 2) ∨
        OwnFrame 0x20 f ∧ (f.body.length < 24 ∨ f.body.length < 24 + 24 * field f.body 6 2) →
      exec (.shipFrameArrival f) s = .next
        (s.countShip (fun c => { c with dropHeader := c.dropHeader + 1 }))) ∧
    (OwnFrame 0x01 f → 10 ≤ f.body.length → byteAt f.body 1 < 16 →
      (lengthOk (field f.body 8 2) (f.body.length - 10) = false →
        exec (.shipFrameArrival f) s = .next
          (s.countShip (fun c => { c with dropLength := c.dropLength + 1 }))) ∧
      (lengthOk (field f.body 8 2) (f.body.length - 10) = true →
        (s.cell (cellField f.body)).enable = false →
        exec (.shipFrameArrival f) s = .next
          (s.countShip (fun c => { c with dropCellOff := c.dropCellOff + 1 }))) ∧
      (lengthOk (field f.body 8 2) (f.body.length - 10) = true →
        (s.cell (cellField f.body)).enable = true → (s.cell (cellField f.body)).state ≠ .serving →
        exec (.shipFrameArrival f) s = .next
          (s.countShip (fun c => { c with dropNotServing := c.dropNotServing + 1 })))) ∧
    (OwnFrame 0x02 f → 10 ≤ f.body.length → byteAt f.body 1 < 16 → byteAt f.body 2 < 64 →
      (s.cell (cellField f.body)).enable = false → exec (.shipFrameArrival f) s = .next
        (s.countShip (fun c => { c with dropCellOff := c.dropCellOff + 1 }))) ∧
    (OwnFrame 0x20 f → 24 + 24 * field f.body 6 2 ≤ f.body.length →
      (s.shi.requests.length < 16 → exec (.shipFrameArrival f) s = .next (s.setShi { s.shi with
        requests := s.shi.requests ++ [parseRequest f.body]
        controller := some f.src
        counters := { s.shi.counters with rxRequest := s.shi.counters.rxRequest + 1 } })) ∧
      (16 ≤ s.shi.requests.length → exec (.shipFrameArrival f) s = .next (s.setShi { s.shi with
        controller := some f.src
        counters := { s.shi.counters with
          rxRequest := s.shi.counters.rxRequest + 1
          dropReqFull := s.shi.counters.dropReqFull + 1 } }))) ∧
    (UserPasses f s → lookupTag s (userPacket f.body).tag = none →
      exec (.shipFrameArrival f) s = .next (s.countShip (fun c =>
        { c with rxUser := c.rxUser + 1, dropUnknownTag := c.dropUnknownTag + 1 })))) ∧
  (∀ (f : EthFrame) (i : Nat) (why : Refused) (s : State), UserPasses f s →
    lookupTag s (userPacket f.body).tag = some i → (s.visitor i).lifecycle ≠ .provisioned →
    admission true s (s.visitor i) = some why →
    exec (.shipFrameArrival f) s = .next
      (blockPacket i why (s.countShip (fun c => { c with rxUser := c.rxUser + 1 })))) ∧
  (∀ (f : EthFrame) (i : Nat) (p : Path) (s : State), UserPasses f s →
    lookupTag s (userPacket f.body).tag = some i → (s.visitor i).lifecycle = .attached →
    admission true s (s.visitor i) = none → s.psl.active = some p →
    (s.freeBuffers = 0 → exec (.shipFrameArrival f) s = .next
      ((s.countShip (fun c =>
          { c with rxUser := c.rxUser + 1, dropNoBuffer := c.dropNoBuffer + 1 })).setVisitor i
        { s.visitor i with servingCell := some (cellField f.body) })) ∧
    (0 < s.freeBuffers → 1024 ≤ (s.port p).txQueue.length → exec (.shipFrameArrival f) s = .next
      ((s.countShip (fun c =>
          { c with rxUser := c.rxUser + 1, dropPathFull := c.dropPathFull + 1 })).setVisitor i
        { s.visitor i with servingCell := some (cellField f.body) })) ∧
    (0 < s.freeBuffers → (s.port p).txQueue.length < 1024 → exec (.shipFrameArrival f) s = .next
      ((((s.countShip (fun c => { c with rxUser := c.rxUser + 1 })).setVisitor i
          { s.visitor i with servingCell := some (cellField f.body) }).setPort p
          { s.port p with txQueue := (s.port p).txQueue ++ [userPacket f.body] }).setFreeBuffers
        (s.freeBuffers - 1)))) ∧
  (∀ (f : EthFrame) (i : Nat) (w : Visitor) (s : State), UserPasses f s →
    lookupTag s (userPacket f.body).tag = some i → (s.visitor i).lifecycle = .provisioned →
    w = { s.visitor i with
      lifecycle := .attached, roaming := roamingNow s (s.visitor i).partner, reviewMark := false,
      openRecord := some (openNow s { s.visitor i with
        roaming := roamingNow s (s.visitor i).partner }) } →
    ∃ t : State, exec (.shipFrameArrival f) s = .next t ∧ t.vtb.attaches = s.vtb.attaches + 1 ∧
      t.shi.counters.rxUser = s.shi.counters.rxUser + 1 ∧
      { t.shi with counters := s.shi.counters } = s.shi ∧
      (∀ j : Nat, j ≠ i → t.visitor j = s.visitor j) ∧
      t = { s with
        shi := t.shi, shore := t.shore, freeBuffers := t.freeBuffers, vtb := t.vtb, rse := t.rse } ∧
      { t.rse with running := false, runs := 0 } = { s.rse with running := false, runs := 0 } ∧
      (∀ why : Refused, admission true s w = some why →
        t.visitor i = { w with blocked := min (w.blocked + 1) (2 ^ 32 - 1) } ∧
        t.shore = s.shore ∧ t.freeBuffers = s.freeBuffers ∧
        t.shi.counters = { s.shi.counters with rxUser := s.shi.counters.rxUser + 1 } ∧
        { t.vtb with entries := [], attaches := 0 } =
          { (blockPacket i why s).vtb with entries := [], attaches := 0 }) ∧
      (admission true s w = none →
        t.visitor i = { w with servingCell := some (cellField f.body) } ∧
        { t.vtb with entries := [], attaches := 0 } = { s.vtb with entries := [], attaches := 0 } ∧
        ∀ p : Path, s.psl.active = some p → 0 < s.freeBuffers → (s.port p).txQueue.length < 1024 →
          t.shi.counters = { s.shi.counters with rxUser := s.shi.counters.rxUser + 1 } ∧
          t.freeBuffers = s.freeBuffers - 1 ∧ (∀ q : Path, q ≠ p → t.port q = s.port q) ∧
          t.port p =
            { s.port p with txQueue := (s.port p).txQueue ++ [userPacket f.body] })) ∧
  ∀ (i : Nat) (why : Refused) (s : State), ∃ t : State, blockPacket i why s = t ∧
    t.visitor i = { s.visitor i with blocked := min ((s.visitor i).blocked + 1) (2 ^ 32 - 1) } ∧
    (∀ j : Nat, j ≠ i → t.visitor j = s.visitor j) ∧ t.vtb.attaches = s.vtb.attaches ∧
    t.vtb.blkNotAttached = s.vtb.blkNotAttached + (if why = .notAttached then 1 else 0) ∧
    t.vtb.blkBarred = s.vtb.blkBarred + (if why = .barred then 1 else 0) ∧
    t.vtb.blkExhausted = s.vtb.blkExhausted + (if why = .exhausted then 1 else 0) ∧
    t.vtb.blkPlanKind = s.vtb.blkPlanKind + (if why = .planKind then 1 else 0) ∧
    t.vtb.blkNoBackhaul = s.vtb.blkNoBackhaul + (if why = .noBackhaul then 1 else 0) ∧
    t.vtb.blkNoCoverage = s.vtb.blkNoCoverage + (if why = .noCoverage then 1 else 0) ∧
    t = { s with vtb := t.vtb }

/-- A HEARTBEAT of an enabled cell head: it is counted, the stated level is held, and the cell head moves
toward SERVING by the table of R158, with JOIN_COUNT, JOINS and its learned address; a change of its state works out
every target again. A stated level above the active level at the end of the step is a mismatch, counted, with a GRANT
owed. Nothing outside the ship port's counter and the Coverage Unit changes. -/
def Obligations.HeartbeatMovesCellHead : Prop :=
  ∀ (f : EthFrame) (rest : List Byte) (s : State),
    f.checkOk = true → f.etherType = 0x88B6 → f.body = 0x02 :: rest → 10 ≤ f.body.length →
    byteAt f.body 1 < 16 → byteAt f.body 2 < 64 → (s.cell (cellField f.body)).enable = true →
    ∃ t : State, exec (.shipFrameArrival f) s = .next t ∧
      (t.cell (cellField f.body)).reportedLevel = byteAt f.body 2 ∧
      (t.cell (cellField f.body)).heartbeats = (s.cell (cellField f.body)).heartbeats + 1 ∧
      (t.cell (cellField f.body)).hbTimer = some (s.cvu.hbTimeout * 100) ∧
      (t.cell (cellField f.body)).state =
        (match (s.cell (cellField f.body)).state with
         | .absent => if (s.cell (cellField f.body)).join ≤ 1 then .serving else .joining
         | .lost => if (s.cell (cellField f.body)).join ≤ 1 then .serving else .joining
         | .joining =>
           if (s.cell (cellField f.body)).join ≤ (s.cell (cellField f.body)).joinCount + 1 then .serving
           else .joining
         | .serving => .serving) ∧
      (t.cell (cellField f.body)).joinCount =
        (match (s.cell (cellField f.body)).state with
         | .absent => 1
         | .lost => 1
         | .joining => (s.cell (cellField f.body)).joinCount + 1
         | .serving => (s.cell (cellField f.body)).joinCount) ∧
      (t.cell (cellField f.body)).joins = (s.cell (cellField f.body)).joins +
        (if (s.cell (cellField f.body)).state ≠ .serving ∧
          (t.cell (cellField f.body)).state = .serving then 1 else 0) ∧
      (t.cell (cellField f.body)).address = some f.src ∧
      (t.cell (cellField f.body)).losses = (s.cell (cellField f.body)).losses ∧
      ((t.cell (cellField f.body)).activeLevel < byteAt f.body 2 →
        (t.cell (cellField f.body)).grantOwed = true ∧
        (t.cell (cellField f.body)).levelMismatches =
          (s.cell (cellField f.body)).levelMismatches + 1) ∧
      (byteAt f.body 2 ≤ (t.cell (cellField f.body)).activeLevel →
        (t.cell (cellField f.body)).levelMismatches = (s.cell (cellField f.body)).levelMismatches) ∧
      ((t.cell (cellField f.body)).state = (s.cell (cellField f.body)).state →
        (t.cell (cellField f.body)).activeLevel = (s.cell (cellField f.body)).activeLevel ∧
        ∀ d : Cell, d ≠ cellField f.body → t.cell d = s.cell d) ∧
      ((t.cell (cellField f.body)).state ≠ (s.cell (cellField f.body)).state →
        ∀ d : Cell, (t.cell d).target = targetOf (currentTerms s).cap t.cvu d ∧
          (t.cell d).pendingLevel = (t.cell d).target ∧
          (t.cell d).activeLevel = min (s.cell d).activeLevel (t.cell d).target) ∧
      (∀ d : Cell, d ≠ cellField f.body → (t.cell d).state = (s.cell d).state) ∧
      { t.cvu with cells := s.cvu.cells } = s.cvu ∧
      t.shi = { s.shi with counters := { s.shi.counters with
        rxHeartbeat := s.shi.counters.rxHeartbeat + 1 } } ∧
      t = { s with shi := t.shi, cvu := t.cvu }

/-- A shore port sorts an arriving frame: the first test that fails discards and counts it. A REQUEST on an UP path
joins the port's request queue or is dropped with the queue full. A supervision frame that passes teaches the
partner's address and is counted. A PROBE is answered in OPENING, SURVEYING and UP while fewer than 16 answers are
due, is the part's own probe come back in TEST, and is otherwise ignored (on a DOWN path by the model's reading,
log entry 17). A PATH_ACCEPT in OPENING takes the path to SURVEYING, its survey started or deferred to the end of a
running recovery gap, and is otherwise ignored. -/
def Obligations.ShoreFramesAreSortedAndAnswered : Prop :=
  ∀ (p : Path) (f : EthFrame) (s : State),
    (f.checkOk = false → exec (.shoreFrameArrival p f) s = .next
      (s.countShore p (fun c => { c with dropHeader := c.dropHeader + 1 }))) ∧
    (f.checkOk = true → f.etherType ≠ 0x88B6 → exec (.shoreFrameArrival p f) s = .next
      (s.countShore p (fun c => { c with dropForeign := c.dropForeign + 1 }))) ∧
    (f.checkOk = true → f.etherType = 0x88B6 → f.body = [] → exec (.shoreFrameArrival p f) s = .next
      (s.countShore p (fun c => { c with dropHeader := c.dropHeader + 1 }))) ∧
    (∀ k : Byte, OwnFrame k f → k ≠ 0x10 → k ≠ 0x11 → k ≠ 0x12 → k ≠ 0x15 → k ≠ 0x20 →
      exec (.shoreFrameArrival p f) s = .next
        (s.countShore p (fun c => { c with dropKind := c.dropKind + 1 }))) ∧
    (∀ k : Byte, OwnFrame k f → (k = 0x10 ∨ k = 0x11 ∨ k = 0x12 ∨ k = 0x15) →
      (f.body.length < 16 ∨ byteAt f.body 1 ≠ p.num) → exec (.shoreFrameArrival p f) s = .next
        (s.countShore p (fun c => { c with dropHeader := c.dropHeader + 1 }))) ∧
    (OwnFrame 0x20 f → (f.body.length < 24 ∨ f.body.length < 24 + 24 * field f.body 6 2) →
      exec (.shoreFrameArrival p f) s = .next
        (s.countShore p (fun c => { c with dropHeader := c.dropHeader + 1 }))) ∧
    (OwnFrame 0x20 f → 24 + 24 * field f.body 6 2 ≤ f.body.length →
      ((s.path p).state ≠ .up → exec (.shoreFrameArrival p f) s = .next
        (s.countShore p (fun c => { c with dropNotAccept := c.dropNotAccept + 1 }))) ∧
      ((s.path p).state = .up → (s.port p).requests.length < 4 →
        exec (.shoreFrameArrival p f) s = .next (s.setPort p { s.port p with
          requests := (s.port p).requests ++ [parseRequest f.body]
          partner := some f.src
          counters := { (s.port p).counters with
            rxRequest := (s.port p).counters.rxRequest + 1 } })) ∧
      ((s.path p).state = .up → 4 ≤ (s.port p).requests.length →
        exec (.shoreFrameArrival p f) s = .next (s.setPort p { s.port p with
          partner := some f.src
          counters := { (s.port p).counters with
            rxRequest := (s.port p).counters.rxRequest + 1
            dropReqFull := (s.port p).counters.dropReqFull + 1 } }))) ∧
    (TunnelFrame 0x11 p f →
      ((s.path p).state = .opening ∨ (s.path p).state = .surveying ∨ (s.path p).state = .up →
        ((s.port p).due.filter isEcho).length < 16 →
        exec (.shoreFrameArrival p f) s = .next
          ((s.setPath p { s.path p with answered := (s.path p).answered + 1 }).setPort p
            { s.port p with
              partner := some f.src
              due := (s.port p).due ++
                [.echo (BitVec.ofNat 8 (byteAt f.body 8)) (BitVec.ofNat 32 (field f.body 10 4))]
              counters := { (s.port p).counters with
                rxSupervision := (s.port p).counters.rxSupervision + 1 } })) ∧
      ((s.path p).state = .opening ∨ (s.path p).state = .surveying ∨ (s.path p).state = .up →
        16 ≤ ((s.port p).due.filter isEcho).length →
        exec (.shoreFrameArrival p f) s = .next
          ((supervisionAt p f s).setPath p { s.path p with ignored := (s.path p).ignored + 1 })) ∧
      ((s.path p).state = .disabled ∨ (s.path p).state = .settling ∨ (s.path p).state = .down →
        exec (.shoreFrameArrival p f) s = .next
          ((supervisionAt p f s).setPath p { s.path p with ignored := (s.path p).ignored + 1 })) ∧
      (∀ (x : Probe) (n : Nat), (s.path p).state = .test →
        (s.path p).outstanding.find? (fun y => y.id == BitVec.ofNat 8 (byteAt f.body 8)) = some x →
        n = min (s.clocks.stamp - x.stamp).toNat 40950 →
        exec (.shoreFrameArrival p f) s = .next
          ((supervisionAt p f s).setPath p { s.path p with
            outstanding := (s.path p).outstanding.filter
              (fun y => y.id != BitVec.ofNat 8 (byteAt f.body 8))
            lastRtt := n
            echoes := (s.path p).echoes + 1
            surveyRecord := { (s.path p).surveyRecord with
              echoed := min ((s.path p).surveyRecord.echoed + 1) 8
              minRtt := if (s.path p).surveyRecord.echoed = 0 then n
                else min (s.path p).surveyRecord.minRtt n
              maxRtt := max (s.path p).surveyRecord.maxRtt n } })) ∧
      ((s.path p).state = .test →
        (s.path p).outstanding.find? (fun y => y.id == BitVec.ofNat 8 (byteAt f.body 8)) = none →
        exec (.shoreFrameArrival p f) s = .next
          ((supervisionAt p f s).setPath p { s.path p with ignored := (s.path p).ignored + 1 }))) ∧
    (TunnelFrame 0x15 p f →
      ((s.path p).state = .opening → (s.path p).gap = none → exec (.shoreFrameArrival p f) s = .next
        ((s.setPath p { s.path p with
            state := .surveying, openTimer := none
            survey := .inFlight
              { entries := List.replicate 8 .unsent, dueCount := 1, spacing := some 10 } }).setPort p
          { s.port p with
            partner := some f.src
            due := (s.port p).due ++ [.surveyProbe 0]
            counters := { (s.port p).counters with
              rxSupervision := (s.port p).counters.rxSupervision + 1 } })) ∧
      ((s.path p).state = .opening → (s.path p).gap ≠ none → exec (.shoreFrameArrival p f) s = .next
        ((supervisionAt p f s).setPath p { s.path p with
          state := .surveying, openTimer := none, survey := .deferred })) ∧
      ((s.path p).state ≠ .opening → exec (.shoreFrameArrival p f) s = .next
        ((supervisionAt p f s).setPath p { s.path p with ignored := (s.path p).ignored + 1 })))

/-- A DATA frame on a path that accepts DATA is counted, teaches the partner's address, takes a buffer and goes to
the resequencer; elsewhere, of a bad length or with the pool empty it is dropped. The resequencer places a packet:
in HUNT it locks to it; in LOCKED by its distance it delivers it with the run behind it, holds it, discards it as
a duplicate or as late, or jumps to make room for it. -/
def Obligations.DataFramesAreResequenced : Prop :=
  (∀ (p : Path) (f : EthFrame) (s : State), TunnelFrame 0x10 p f →
    (lengthOk (field f.body 14 2) (f.body.length - 16) = false →
      exec (.shoreFrameArrival p f) s = .next
        (s.countShore p (fun c => { c with dropLength := c.dropLength + 1 }))) ∧
    (lengthOk (field f.body 14 2) (f.body.length - 16) = true → s.psl.active ≠ some p →
      s.psl.drain.get p = none → exec (.shoreFrameArrival p f) s = .next
        (s.countShore p (fun c => { c with dropNotAccept := c.dropNotAccept + 1 }))) ∧
    (lengthOk (field f.body 14 2) (f.body.length - 16) = true →
      (s.psl.active = some p ∨ s.psl.drain.get p ≠ none) →
      (s.freeBuffers = 0 → exec (.shoreFrameArrival p f) s = .next (s.setPort p { s.port p with
        partner := some f.src
        counters := { (s.port p).counters with
          rxData := (s.port p).counters.rxData + 1
          dropNoBuffer := (s.port p).counters.dropNoBuffer + 1 } })) ∧
      (0 < s.freeBuffers → exec (.shoreFrameArrival p f) s = .next
        (resequence
          { seq := BitVec.ofNat 16 (field f.body 2 2), packet := slice f.body 16 (field f.body 14 2)
            tag := BitVec.ofNat 32 (field f.body 4 4), length := field f.body 14 2, port := p }
          ((s.setPort p { s.port p with
            partner := some f.src
            counters := { (s.port p).counters with
              rxData := (s.port p).counters.rxData + 1 } }).setFreeBuffers (s.freeBuffers - 1)))))) ∧
  (∀ (h : Held) (s : State), s.drs.locked = false → s.drs.slots = [] →
    ∃ t : State, resequence h s = t ∧
      t = (downlinkDelivery h (s.setDrs { s.drs with
        locked := true, nextExpected := h.seq + 1, delivered := s.drs.delivered + 1 })).setDrs t.drs ∧
      t.drs = { s.drs with
        locked := true, nextExpected := h.seq + 1, gapTimer := none,
        delivered := s.drs.delivered + 1 }) ∧
  (∀ (h : Held) (s : State), s.drs.locked = true →
    (seqDistance s.drs h.seq = 0 → (∀ x ∈ s.drs.slots, x.seq ≠ h.seq + 1) →
      ∃ t : State, resequence h s = t ∧
        t = (downlinkDelivery h (s.setDrs { s.drs with
          nextExpected := h.seq + 1, delivered := s.drs.delivered + 1 })).setDrs t.drs ∧
        t.drs = { s.drs with
          nextExpected := h.seq + 1, delivered := s.drs.delivered + 1
          gapTimer := if s.drs.slots = [] then none
            else some (s.drs.gapTimer.getD s.drs.gapHold) }) ∧
    (∀ run left : List Held, seqDistance s.drs h.seq = 0 → s.drs.slots = run ++ left →
      (∀ (k : Nat) (x : Held), run[k]? = some x → x.seq = h.seq + BitVec.ofNat 16 (k + 1)) →
      (∀ x ∈ left.head?, x.seq ≠ h.seq + BitVec.ofNat 16 (run.length + 1)) →
      ∃ t : State, resequence h s = t ∧
        t.drs = { s.drs with
          nextExpected := h.seq + BitVec.ofNat 16 (run.length + 1), slots := left
          delivered := s.drs.delivered + BitVec.ofNat 32 (run.length + 1)
          gapTimer := if left = [] then none else some (s.drs.gapTimer.getD s.drs.gapHold) } ∧
        t = { s with
          shi := t.shi, shore := t.shore, freeBuffers := t.freeBuffers, vtb := t.vtb, rcq := t.rcq,
          rse := t.rse, drs := t.drs, cvu := t.cvu, ntu := t.ntu }) ∧
    (1 ≤ seqDistance s.drs h.seq → seqDistance s.drs h.seq ≤ 255 → (∀ x ∈ s.drs.slots, x.seq ≠ h.seq) →
      ∃ t : State, resequence h s = t ∧ (∀ x : Held, x ∈ t.drs.slots ↔ x = h ∨ x ∈ s.drs.slots) ∧
        { t.drs with slots := [] } = { s.drs with
          slots := [], gapTimer := some (s.drs.gapTimer.getD s.drs.gapHold) } ∧
        t = { s with drs := t.drs }) ∧
    (1 ≤ seqDistance s.drs h.seq → seqDistance s.drs h.seq ≤ 255 → (∃ x ∈ s.drs.slots, x.seq = h.seq) →
      ∃ t : State, resequence h s = t ∧ t.drs.slots = s.drs.slots ∧
        t.drs.duplicates = s.drs.duplicates + 1 ∧ t.drs.nextExpected = s.drs.nextExpected ∧
        t = { s with drs := t.drs, freeBuffers := s.freeBuffers + 1 }) ∧
    (32768 ≤ seqDistance s.drs h.seq →
      ∃ t : State, resequence h s = t ∧ t.drs.slots = s.drs.slots ∧ t.drs.late = s.drs.late + 1 ∧
        t.drs.nextExpected = s.drs.nextExpected ∧
        t = { s with drs := t.drs, freeBuffers := s.freeBuffers + 1 })) ∧
  ∀ (h : Held) (out run left : List Held) (d : Nat) (s : State), s.drs.locked = true →
    d = seqDistance s.drs h.seq → 256 ≤ d → d < 32768 → s.drs.slots = out ++ (run ++ left) →
    (∀ x ∈ out, seqDistance s.drs x.seq < d - 255) →
    (∀ x ∈ run ++ left, d - 255 ≤ seqDistance s.drs x.seq ∧ seqDistance s.drs x.seq ≤ 255) →
    (∀ (k : Nat) (x : Held), run[k]? = some x → x.seq = h.seq - 255 + BitVec.ofNat 16 k) →
    (∀ x ∈ left.head?, x.seq ≠ h.seq - 255 + BitVec.ofNat 16 run.length) →
    ∃ t : State, resequence h s = t ∧ t.drs.jumps = s.drs.jumps + 1 ∧ t.drs.locked = true ∧
      t.drs.skipped = s.drs.skipped + BitVec.ofNat 32 (d - 255 - out.length) ∧
      (run.length < 255 →
        t.drs.nextExpected = h.seq - 255 + BitVec.ofNat 16 run.length ∧
        (∀ x : Held, x ∈ t.drs.slots ↔ x = h ∨ x ∈ left) ∧
        t.drs.delivered = s.drs.delivered + BitVec.ofNat 32 (out.length + run.length) ∧
        t.drs.gapTimer = some (s.drs.gapTimer.getD s.drs.gapHold)) ∧
      (run.length = 255 → left = [] →
        t.drs.nextExpected = h.seq + 1 ∧ t.drs.slots = [] ∧ t.drs.gapTimer = none ∧
        t.drs.delivered = s.drs.delivered + BitVec.ofNat 32 (out.length + 256)) ∧
      t = { s with
        shi := t.shi, shore := t.shore, freeBuffers := t.freeBuffers, vtb := t.vtb, rcq := t.rcq,
        rse := t.rse, drs := t.drs, cvu := t.cvu, ntu := t.ntu }

/-- The admission check names the first of its five tests that fails. -/
def Obligations.AdmissionNamesFirstFailure : Prop :=
  ∀ (uplink : Bool) (s : State) (v : Visitor),
    (v.lifecycle ≠ .attached → admission uplink s v = some .notAttached) ∧
    (v.lifecycle = .attached →
      (v.roaming = .barred → admission uplink s v = some .barred) ∧
      (v.roaming ≠ .barred →
        (v.credit = .exhausted → admission uplink s v = some .exhausted) ∧
        (v.credit ≠ .exhausted →
          (∀ p : Path, s.psl.active = some p →
            admission uplink s v =
              if planAllows s.rtu.plans[v.plan] (s.path p).config.kind then none
              else some .planKind) ∧
          (s.psl.active = none →
            admission uplink s v = if uplink then some .noBackhaul else none))))

/-- A shore transmitter that is not free, or without carrier, or with nothing ready, takes nothing. A free one takes
first the frame that became due first, a probe with its id, timestamp and deadline; then the reply; then the head of
its queue: its buffer is returned, a stale tag ends the taking, the owed work is done, and the packet is refused, or
charged, stamped with the uplink sequence and sent. That a frame sent starts the idle timer again on an UP path only,
and that a packet ended without a frame does not, is the model's reading (log entry 14). -/
def Obligations.ShoreTakesItsNextFrame : Prop :=
  (∀ (p : Path) (s : State),
    ((s.port p).carrier = false ∨ (s.port p).transmitter ≠ none ∨
        (s.port p).due = [] ∧ (s.port p).reply = none ∧ (s.port p).txQueue = [] →
      exec (.shoreTransmitTake p) s = .next s) ∧
    (∀ r : Reply, (s.port p).carrier = true → (s.port p).transmitter = none → (s.port p).due = [] →
      (s.port p).reply = some r → exec (.shoreTransmitTake p) s = .next
        ((s.setPort p { s.port p with
          reply := none
          transmitter := some { dst := destination (s.port p).partner, body := replyBytes r }
          counters := { (s.port p).counters with txReply := (s.port p).counters.txReply + 1 } }).setPath
          p (idleRestarted (s.path p))))) ∧
  (∀ (p : Path) (d : Due) (left : List Due) (s : State), (s.port p).carrier = true →
    (s.port p).transmitter = none → (s.port p).due = d :: left →
    ∃ t : State, exec (.shoreTransmitTake p) s = .next t ∧
      t.port p = { s.port p with
        due := left
        transmitter := some {
          dst := destination (s.port p).partner
          body := match d with
            | .pathOpen => tunnelHeader 0x14 p.num 0 0 0 0 0 0
            | .probe =>
              tunnelHeader 0x11 p.num 0 0 (s.path p).nextId.toNat 0 s.clocks.stamp.toNat 0
            | .surveyProbe _ =>
              tunnelHeader 0x11 p.num 0 0 (s.path p).nextId.toNat 0 s.clocks.stamp.toNat 0
            | .echo id value => tunnelHeader 0x12 p.num 0 0 id.toNat 0 value.toNat 0
            | .fill => tunnelHeader 0x13 p.num s.uplinkSeq.toNat 0 0 0 0 0
            | .pathSwap a => tunnelHeader 0x16 p.num s.uplinkSeq.toNat 0 (boolCode s.drs.locked)
                (pathByte a) (if s.drs.locked then s.drs.nextExpected.toNat else 0) 0 }
        counters := { (s.port p).counters with
          txSupervision := (s.port p).counters.txSupervision + 1 } } ∧
      (∀ q : Path, q ≠ p → t.port q = s.port q ∧ t.path q = s.path q) ∧
      t = { s with shore := t.shore, psv := t.psv } ∧
      (d ≠ .probe → (∀ k : Fin 8, d ≠ .surveyProbe k) → t.path p = idleRestarted (s.path p)) ∧
      (d = .probe →
        (t.path p).probes = (s.path p).probes + 1 ∧
        ((s.path p).nextId + 1 ∉ idsInUse (t.path p) → (t.path p).nextId = (s.path p).nextId + 1) ∧
        (∀ e : Probe, e = {
            id := (s.path p).nextId, stamp := s.clocks.stamp,
            left := (s.path p).config.probeTimeout *
              (10 * (s.path p).config.prescale * (s.path p).config.postscale) } →
          ((s.path p).outstanding.length < 8 →
            (t.path p).outstanding = (s.path p).outstanding ++ [e] ∧
            (t.path p).losses = (s.path p).losses ∧
            (t.path p).lossWindow = (s.path p).lossWindow) ∧
          (8 ≤ (s.path p).outstanding.length →
            (t.path p).outstanding = (s.path p).outstanding.drop 1 ++ [e] ∧
            (t.path p).losses = (s.path p).losses + 1 ∧
            (t.path p).lossWindow = if (s.path p).state = .up
              then (true :: (s.path p).lossWindow).take 32 else (s.path p).lossWindow)) ∧
        { t.path p with outstanding := [], losses := 0, lossWindow := [], nextId := 0, probes := 0 } =
          { idleRestarted (s.path p) with
            outstanding := [], losses := 0, lossWindow := [], nextId := 0, probes := 0 }) ∧
      (∀ (k : Fin 8) (run : SurveyRun), d = .surveyProbe k → (s.path p).survey = .inFlight run →
        ((s.path p).nextId + 1 ∉ idsInUse (t.path p) → (t.path p).nextId = (s.path p).nextId + 1) ∧
        t.path p = { idleRestarted (s.path p) with
          nextId := (t.path p).nextId
          probes := (s.path p).probes + 1
          survey := .inFlight { run with
            entries := run.entries.set k.val (.inFlight (s.path p).nextId s.clocks.stamp
              ((s.path p).config.probeTimeout *
                (10 * (s.path p).config.prescale * (s.path p).config.postscale))) } })) ∧
  (∀ (p : Path) (e : UplinkEntry) (left : List UplinkEntry) (s : State), (s.port p).carrier = true →
    (s.port p).transmitter = none → (s.port p).due = [] → (s.port p).reply = none →
    (s.port p).txQueue = e :: left →
    (lookupTag s e.tag = none → exec (.shoreTransmitTake p) s = .next
      ((s.setPort p { s.port p with
        txQueue := left
        counters := { (s.port p).counters with
          dropStaleTag := (s.port p).counters.dropStaleTag + 1 } }).setFreeBuffers
        (s.freeBuffers + 1))) ∧
    (∀ (i : Nat) (u : State), lookupTag s e.tag = some i →
      u = owedWork i ((s.setPort p { s.port p with txQueue := left }).setFreeBuffers
        (s.freeBuffers + 1)) →
      (∀ why : Refused, admission true u (u.visitor i) = some why →
        exec (.shoreTransmitTake p) s = .next (blockPacket i why u)) ∧
      (admission true u (u.visitor i) = none → (charge i e.length .up u).2 = false →
        exec (.shoreTransmitTake p) s = .next (charge i e.length .up u).1) ∧
      (admission true u (u.visitor i) = none → (charge i e.length .up u).2 = true →
        ∃ t : State, exec (.shoreTransmitTake p) s = .next t ∧
          t.port p = { s.port p with
            txQueue := left
            transmitter := some
              { dst := destination (s.port p).partner, body := dataBytes p s.uplinkSeq e }
            counters := { (s.port p).counters with txData := (s.port p).counters.txData + 1 } } ∧
          t.path p = idleRestarted (s.path p) ∧
          (∀ q : Path, q ≠ p → t.port q = s.port q ∧ t.path q = s.path q) ∧
          t.uplinkSeq = s.uplinkSeq + 1 ∧
          t = { (charge i e.length .up u).1 with
            shore := t.shore, psv := t.psv, uplinkSeq := t.uplinkSeq }) ∧
      (∀ r : OpenRecord, admission true u (u.visitor i) = none →
        (u.visitor i).openRecord = some r → volumeFull r e.length .up = true →
        ∃ t : State, exec (.shoreTransmitTake p) s = .next t ∧
          t.rcq = (closeRecord i .volume u).1.rcq))) ∧
  ∀ (p : Path) (e : UplinkEntry) (left : List UplinkEntry) (i : Nat) (r : OpenRecord) (s : State),
    (s.port p).carrier = true → (s.port p).transmitter = none → (s.port p).due = [] →
    (s.port p).reply = none → (s.port p).txQueue = e :: left → lookupTag s e.tag = some i →
    (s.visitor i).reviewMark = false → (s.visitor i).closeMark = false →
    admission true s (s.visitor i) = none → (s.visitor i).openRecord = some r →
    volumeFull r e.length .up = false → chargedAfter (s.visitor i) r e.length ≤ 2 ^ 48 - 1 →
    ∃ t : State, exec (.shoreTransmitTake p) s = .next t ∧
      (t.port p).txQueue = left ∧ t.freeBuffers = s.freeBuffers + 1 ∧
      t.uplinkSeq = s.uplinkSeq + 1 ∧
      (t.port p).transmitter =
        some { dst := destination (s.port p).partner, body := dataBytes p s.uplinkSeq e } ∧
      (t.port p).counters.txData = (s.port p).counters.txData + 1 ∧
      t.visitor i = visitorCharged (s.visitor i) r e.length .up ∧
      (∀ j : Nat, j ≠ i → t.visitor j = s.visitor j) ∧
      (∀ q : Path, q ≠ p → t.port q = s.port q ∧ t.path q = s.path q) ∧
      t = { s with
        shore := t.shore, freeBuffers := t.freeBuffers, uplinkSeq := t.uplinkSeq, vtb := t.vtb,
        psv := t.psv, ntu := t.ntu }

/-- The amounts of a written charge: the entry fee once per zone and voyage, the allowance first, the whole CU of
the carried fraction, the credit standing against the new total, and the record's own counters. A charge is written,
with a worsened standing offered to the credit notice list, or refused by the ceiling test; a record too full for
the packet is first closed with VOLUME. A standing worsens from CLEAR to LOW, from CLEAR to EXHAUSTED and from LOW
to EXHAUSTED. An offered index joins the tail of the list once, or is dropped with the list full. -/
def Obligations.ChargeArithmetic : Prop :=
  (∀ (v : Visitor) (r : OpenRecord) (n : Nat) (d : Direction),
    (visitorCharged v r n d).allowance = v.allowance - min n v.allowance ∧
    (visitorCharged v r n d).charged * 2 ^ 20 + (visitorCharged v r n d).carry =
      v.charged * 2 ^ 20 + entryFee v r * 2 ^ 20 + (n - min n v.allowance) * r.priceEff + v.carry ∧
    (visitorCharged v r n d).carry < 2 ^ 20 ∧
    (∀ z : Zone, r.zone = some z → zoneCharged v.zonesCharged z = true → entryFee v r = 0) ∧
    (∀ z : Zone, r.zone = some z → zoneCharged v.zonesCharged z = false → entryFee v r = r.fee) ∧
    (∀ z : Zone, r.zone = some z → zoneCharged (visitorCharged v r n d).zonesCharged z = true) ∧
    (r.zone = none → entryFee v r = 0 ∧ (visitorCharged v r n d).zonesCharged = v.zonesCharged) ∧
    (visitorCharged v r n d).credit = creditOf v.limit v.lowMark (visitorCharged v r n d).charged ∧
    (visitorCharged v r n d).openRecord = some { r with
      feeCharged := r.feeCharged + entryFee v r
      charge := r.charge + ((n - min n v.allowance) * r.priceEff + v.carry) / 2 ^ 20
      freeBytes := r.freeBytes + min n v.allowance
      bytesUp := r.bytesUp + if d = .up then n else 0
      pktsUp := r.pktsUp + if d = .up then 1 else 0
      bytesDown := r.bytesDown + if d = .down then n else 0
      pktsDown := r.pktsDown + if d = .down then 1 else 0 }) ∧
  (∀ a b : Credit, creditWorsened a b = true ↔
    a = .clear ∧ b = .low ∨ a = .clear ∧ b = .exhausted ∨ a = .low ∧ b = .exhausted) ∧
  (∀ (v : Visitor) (r : OpenRecord) (n : Nat) (d : Direction),
    (volumeFull r n d = true ↔
      2 ^ 32 - 1 < (if d = .up then r.bytesUp else r.bytesDown) + n ∨ 2 ^ 32 - 1 < r.freeBytes + n) ∧
    chargedAfter v r n = (visitorCharged v r n d).charged) ∧
  (∀ (i : Nat) (s : State),
    (i ∈ s.ntu.creditList → offerCredit i s = s) ∧
    (i ∉ s.ntu.creditList → s.ntu.creditList.length < 64 → offerCredit i s = s.setNtu { s.ntu with
      creditList := s.ntu.creditList ++ [i]
      credit := { s.ntu.credit with
        pending := true
        raised := s.ntu.credit.raised + if s.ntu.credit.pending then 0 else 1 } }) ∧
    (i ∉ s.ntu.creditList → 64 ≤ s.ntu.creditList.length → offerCredit i s = s.setNtu { s.ntu with
      creditOverflow := true
      creditDrops := s.ntu.creditDrops + 1
      credit := { s.ntu.credit with
        pending := true
        raised := s.ntu.credit.raised + if s.ntu.credit.pending then 0 else 1 } })) ∧
  ∀ (i n : Nat) (d : Direction) (r : OpenRecord) (s : State), (s.visitor i).openRecord = some r →
    (volumeFull r n d = false → chargedAfter (s.visitor i) r n ≤ 2 ^ 48 - 1 →
      charge i n d s =
        (if creditWorsened (s.visitor i).credit (visitorCharged (s.visitor i) r n d).credit
          then offerCredit i (s.setVisitor i (visitorCharged (s.visitor i) r n d))
          else s.setVisitor i (visitorCharged (s.visitor i) r n d), true)) ∧
    (volumeFull r n d = false → 2 ^ 48 - 1 < chargedAfter (s.visitor i) r n →
      charge i n d s = (blockPacket i .exhausted s, false)) ∧
    (volumeFull r n d = true → n ≤ 2 ^ 32 - 1 →
      charge i n d s = charge i n d (closeRecord i .volume s).1)

/-- A ship transmitter that is not free, or whose link is down, or with nothing ready, takes nothing. A free one takes
the head of the egress queue first after a frame of the part's own; otherwise the lowest-numbered owed GRANT, else
the reply, else the ready notice of highest priority, else the head of the egress queue. A notice carries the items
of its source, by the model's names (log entry 8), and clears its ARMED. -/
def Obligations.ShipTakesItsNextFrame : Prop :=
  ∀ s : State,
    (s.shi.link = false ∨ s.shi.transmitter ≠ none → exec .shipTransmitTake s = .next s) ∧
    (s.shi.link = true → s.shi.transmitter = none →
      (∀ (e : EgressEntry) (left : List EgressEntry), s.shi.egress = e :: left →
        (s.shi.lastOwn = true ∨ (∀ c : Cell, (s.cell c).grantOwed = false) ∧ s.shi.reply = none ∧
          ∀ x : Source, noticeReady s.ntu x = false) →
        exec .shipTransmitTake s = .next ((s.setShi { s.shi with
          egress := left
          transmitter := some { dst := destination (s.cell e.cell).address, body := userBytes e }
          lastOwn := false
          counters := { s.shi.counters with txUser := s.shi.counters.txUser + 1 } }).setFreeBuffers
          (s.freeBuffers + 1))) ∧
      (s.shi.lastOwn = false ∨ s.shi.egress = [] →
        (∀ c : Cell, (s.cell c).grantOwed = true → (∀ d : Cell, d < c → (s.cell d).grantOwed = false) →
          exec .shipTransmitTake s = .next
            ((s.setCell c { s.cell c with grantOwed := false }).setShi { s.shi with
              transmitter := some
                { dst := destination (s.cell c).address, body := grantBytes c (s.cell c).activeLevel }
              lastOwn := true
              counters := { s.shi.counters with txGrant := s.shi.counters.txGrant + 1 } })) ∧
        (∀ r : Reply, (∀ c : Cell, (s.cell c).grantOwed = false) → s.shi.reply = some r →
          exec .shipTransmitTake s = .next (s.setShi { s.shi with
            reply := none
            transmitter := some { dst := destination s.shi.controller, body := replyBytes r }
            lastOwn := true
            counters := { s.shi.counters with txReply := s.shi.counters.txReply + 1 } })) ∧
        (∀ x : Source, (∀ c : Cell, (s.cell c).grantOwed = false) → s.shi.reply = none →
          noticeReady s.ntu x = true →
          (∀ y : Source, sourcePriority y < sourcePriority x → noticeReady s.ntu y = false) →
          ∃ t : State, exec .shipTransmitTake s = .next t ∧
            t.shi = { s.shi with
              transmitter := some { dst := destination s.shi.controller
                                    body := noticeBytes s.ntu.noticeSeq x (noticeItems s x) }
              lastOwn := true
              counters := { s.shi.counters with txNotice := s.shi.counters.txNotice + 1 } } ∧
            noticeGet t.ntu x = { noticeGet s.ntu x with armed := false } ∧
            (∀ y : Source, y ≠ x → noticeGet t.ntu y = noticeGet s.ntu y) ∧
            t.ntu.noticeSeq = s.ntu.noticeSeq + 1 ∧ t.ntu.surveyPath = s.ntu.surveyPath ∧
            t.ntu.creditList = s.ntu.creditList ∧ t.ntu.creditOverflow = s.ntu.creditOverflow ∧
            t.ntu.creditDrops = s.ntu.creditDrops ∧ t = { s with shi := t.shi, ntu := t.ntu }) ∧
        ((∀ c : Cell, (s.cell c).grantOwed = false) → s.shi.reply = none →
          (∀ x : Source, noticeReady s.ntu x = false) → s.shi.egress = [] →
          exec .shipTransmitTake s = .next s)))

/-- The end of a transmission frees the transmitter and does nothing else; the loss of the ship link ends any
frame in transmission, and its return only lets the transmitter take frames again. -/
def Obligations.TransmissionEndsAndShipLink : Prop :=
  ∀ (p : Path) (s : State),
    exec .shipTransmissionEnd s = .next (s.setShi { s.shi with transmitter := none }) ∧
    exec (.shoreTransmissionEnd p) s = .next (s.setPort p { s.port p with transmitter := none }) ∧
    exec .shipLinkLoss s = .next (s.setShi { s.shi with link := false, transmitter := none }) ∧
    exec .shipLinkReturn s = .next (s.setShi { s.shi with link := true })

/-! ## Shore paths -/

/-- Carrier that arrives at a DOWN path takes it to SETTLING with its settle timer started, and in DISABLED
and TEST only becomes present. Carrier loss in SETTLING, OPENING, SURVEYING or UP takes the path to DOWN with
LOST_LATCH and PATH_LOST set, its timers stopped, the recovery gap started where it aborts a survey, and the port's
requests and reply gone and counted; no visitor's figures change and no record is queued. In DISABLED and TEST it only
takes the carrier, the transmission, the requests and the reply of the port. -/
def Obligations.CarrierArrivesAndIsLost : Prop :=
  ∀ (p : Path) (s : State),
    ((s.port p).carrier = false → (s.path p).state = .down →
      exec (.carrierArrival p) s = .next
        ((s.setPort p { s.port p with carrier := true }).setPath p
          { s.path p with
            state := .settling, settleTimer := some ((s.path p).config.settle * 100) })) ∧
    ((s.port p).carrier = false → ((s.path p).state = .disabled ∨ (s.path p).state = .test) →
      exec (.carrierArrival p) s = .next (s.setPort p { s.port p with carrier := true })) ∧
    ((s.port p).carrier = true →
      ((s.path p).state = .settling ∨ (s.path p).state = .opening ∨ (s.path p).state = .surveying ∨
        (s.path p).state = .up) →
      ∃ t : State, exec (.carrierLoss p) s = .next t ∧
        (t.path p).state = .down ∧ (t.path p).lostLatch = true ∧ t.ntu.pathLost.pending = true ∧
        (t.path p).carrierLosses = (s.path p).carrierLosses + 1 ∧
        (t.path p).settleTimer = none ∧ (t.path p).openTimer = none ∧ (t.path p).probeTimer = none ∧
        (t.path p).idleTimer = none ∧ (t.path p).outstanding = [] ∧ (t.path p).survey = .idle ∧
        (t.path p).surveyRecord = (s.path p).surveyRecord ∧
        (∀ run : SurveyRun, (s.path p).survey = .inFlight run → (t.path p).gap =
          some (2 * (10 * (s.path p).config.prescale * (s.path p).config.postscale))) ∧
        ((s.path p).survey = .idle ∨ (s.path p).survey = .deferred →
          (t.path p).gap = (s.path p).gap) ∧
        (t.port p).carrier = false ∧ (t.port p).requests = [] ∧ (t.port p).reply = none ∧
        (t.port p).transmitter = none ∧
        (t.port p).counters.dropReqLost = (s.port p).counters.dropReqLost +
          BitVec.ofNat 32 ((s.port p).requests.length + if (s.port p).reply.isSome then 1 else 0) ∧
        (∀ q : Path, q ≠ p → t.path q = s.path q) ∧
        (∀ i : Nat, { t.visitor i with reviewMark := false } =
          { s.visitor i with reviewMark := false }) ∧
        t = { s with
          shore := t.shore, freeBuffers := t.freeBuffers, vtb := t.vtb, rse := t.rse, psv := t.psv,
          psl := t.psl, ntu := t.ntu }) ∧
    ((s.port p).carrier = true → ((s.path p).state = .disabled ∨ (s.path p).state = .test) →
      exec (.carrierLoss p) s = .next (s.setPort p { s.port p with
        carrier := false, requests := [], reply := none, transmitter := none
        counters := { (s.port p).counters with
          dropReqLost := (s.port p).counters.dropReqLost + BitVec.ofNat 32
            ((s.port p).requests.length + if (s.port p).reply.isSome then 1 else 0) } }))

/-- The bring-up timers: the settle timer opens the path, the open timer repeats PATH_OPEN below 50 attempts
and otherwise returns the path to SETTLING. -/
def Obligations.BringUpTimersExpire : Prop :=
  ∀ (p : Path) (s : State), (∀ d ∈ (s.port p).due, isPathOpen d = false) →
    ((s.path p).settleTimer ≠ none →
      exec (.settleTimerExpiry p) s = .next
        ((s.setPath p { s.path p with
            state := .opening, settleTimer := none, openCount := 1, openTimer := some 100 }).setPort p
          { s.port p with due := (s.port p).due ++ [.pathOpen] })) ∧
    ((s.path p).openTimer ≠ none → (s.path p).openCount < 50 →
      exec (.openTimerExpiry p) s = .next
        ((s.setPath p { s.path p with
            openCount := (s.path p).openCount + 1, openTimer := some 100 }).setPort p
          { s.port p with due := (s.port p).due ++ [.pathOpen] })) ∧
    ((s.path p).openTimer ≠ none → 50 ≤ (s.path p).openCount →
      exec (.openTimerExpiry p) s = .next
        (s.setPath p { s.path p with
          state := .settling, settleTimer := some ((s.path p).config.settle * 100), openTimer := none,
          openFails := (s.path p).openFails + 1 }))

/-- The supervision timers: the next survey probe, a steady probe and a FILL become due, each with its timer
started again. A probe timer in TEST without carrier, and an idle timer of a path that is not active or has a
FILL due, only start again. That a PROBE becomes due even while one is still due is the model's reading (log
entry 13). -/
def Obligations.SupervisionTimersMakeFramesDue : Prop :=
  ∀ (p : Path) (s : State),
    (∀ run : SurveyRun, (s.path p).survey = .inFlight run → run.spacing ≠ none →
      (h : run.dueCount < 8) →
      exec (.surveyProbeDue p) s = .next
        ((s.setPath p { s.path p with
            survey := .inFlight { run with
              dueCount := run.dueCount + 1
              spacing := if run.dueCount + 1 < 8 then some 10 else none } }).setPort p
          { s.port p with due := (s.port p).due ++ [.surveyProbe ⟨run.dueCount, h⟩] })) ∧
    ((s.path p).probeTimer ≠ none → ((s.path p).state ≠ .test ∨ (s.port p).carrier = true) →
      exec (.probeTimerExpiry p) s = .next
        ((s.setPath p { s.path p with
            probeTimer :=
              some (10 * (s.path p).config.prescale * (s.path p).config.postscale) }).setPort p
          { s.port p with due := (s.port p).due ++ [.probe] })) ∧
    ((s.path p).probeTimer ≠ none → (s.path p).state = .test → (s.port p).carrier = false →
      exec (.probeTimerExpiry p) s = .next
        (s.setPath p { s.path p with
          probeTimer :=
            some (10 * (s.path p).config.prescale * (s.path p).config.postscale) })) ∧
    ((s.path p).idleTimer ≠ none → s.psl.active = some p →
      (∀ d ∈ (s.port p).due, isFill d = false) →
      exec (.idleTimerExpiry p) s = .next
        ((s.setPath p { s.path p with idleTimer := some 50 }).setPort p
          { s.port p with due := (s.port p).due ++ [.fill] })) ∧
    ((s.path p).idleTimer ≠ none →
      (s.psl.active ≠ some p ∨ ∃ d ∈ (s.port p).due, isFill d = true) →
      exec (.idleTimerExpiry p) s = .next (s.setPath p { s.path p with idleTimer := some 50 }))

/-- A PROBE_ECHO resolves the steady probe of its id as RECEIVED, else the survey probe of its id as ECHOED, and is
otherwise, and always in TEST, a stray. A deadline resolves its steady probe or its survey probe as LOST. A survey
with all eight resolved completes: a bring-up survey takes the path to UP, and makes it active with none active, or
back to SETTLING; a survey of an UP path makes SURVEY_DONE pending. The end of a recovery gap starts a survey
deferred to it on a SURVEYING or UP path; with none deferred the gap only ends. -/
def Obligations.ProbesResolveAndSurveysComplete : Prop :=
  (∀ (p : Path) (f : EthFrame) (id : BitVec 8) (s : State), TunnelFrame 0x12 p f →
    id = BitVec.ofNat 8 (byteAt f.body 8) →
    (∀ (x : Probe) (n : Nat), (s.path p).state ≠ .test →
      (s.path p).outstanding.find? (fun y => y.id == id) = some x →
      n = min (s.clocks.stamp - x.stamp).toNat 40950 → exec (.shoreFrameArrival p f) s = .next
        ((supervisionAt p f s).setPath p { s.path p with
          outstanding := (s.path p).outstanding.filter (fun y => y.id != id)
          echoes := (s.path p).echoes + 1
          lastRtt := n
          srtt := if (s.path p).state = .up then (7 * (s.path p).srtt + n) / 8 else (s.path p).srtt
          lossWindow := if (s.path p).state = .up then (false :: (s.path p).lossWindow).take 32
            else (s.path p).lossWindow })) ∧
    (∀ (run : SurveyRun) (t0 : BitVec 32) (n : Nat) (es : List SurveyEntry),
      (s.path p).state ≠ .test → (s.path p).outstanding.find? (fun y => y.id == id) = none →
      (s.path p).survey = .inFlight run → inFlightStamp id run.entries = some t0 →
      n = min (s.clocks.stamp - t0).toNat 40950 → es = run.entries.map (echoEntry id n) →
      (es.all entryResolved = false → exec (.shoreFrameArrival p f) s = .next
        ((supervisionAt p f s).setPath p { s.path p with
          lastRtt := n, survey := .inFlight { run with entries := es } })) ∧
      (es.all entryResolved = true → exec (.shoreFrameArrival p f) s = .next
        (completeSurvey p es ((supervisionAt p f s).setPath p { s.path p with lastRtt := n })))) ∧
    ((s.path p).state = .test ∨
        (s.path p).outstanding.find? (fun y => y.id == id) = none ∧
        (∀ run : SurveyRun, (s.path p).survey = .inFlight run →
          inFlightStamp id run.entries = none) →
      exec (.shoreFrameArrival p f) s = .next
        ((supervisionAt p f s).setPath p { s.path p with
          strayEchoes := (s.path p).strayEchoes + 1 }))) ∧
  (∀ (p : Path) (s : State),
    (∀ (id : BitVec 8) (x : Probe),
      (s.path p).outstanding.find? (fun y => y.id == id) = some x →
      exec (.probeDeadlineExpiry p id) s = .next
        (s.setPath p { s.path p with
          outstanding := (s.path p).outstanding.filter (fun y => y.id != id)
          losses := (s.path p).losses + 1
          lossWindow := if (s.path p).state = .up then (true :: (s.path p).lossWindow).take 32
            else (s.path p).lossWindow })) ∧
    (∀ (id : BitVec 8) (run : SurveyRun) (t0 : BitVec 32) (es : List SurveyEntry),
      (s.path p).outstanding.find? (fun y => y.id == id) = none →
      (s.path p).survey = .inFlight run → inFlightStamp id run.entries = some t0 →
      es = run.entries.map (loseEntry id) →
      (es.all entryResolved = false → exec (.probeDeadlineExpiry p id) s = .next
        (s.setPath p { s.path p with survey := .inFlight { run with entries := es } })) ∧
      (es.all entryResolved = true → exec (.probeDeadlineExpiry p id) s = .next
        (completeSurvey p es s))) ∧
    ((s.path p).gap ≠ none → (s.path p).survey = .deferred →
      ((s.path p).state = .surveying ∨ (s.path p).state = .up) →
      exec (.recoveryGapEnd p) s = .next
        ((s.setPath p { s.path p with
            gap := none
            survey := .inFlight
              { entries := List.replicate 8 .unsent, dueCount := 1, spacing := some 10 } }).setPort p
          { s.port p with due := (s.port p).due ++ [.surveyProbe 0] })) ∧
    ((s.path p).gap ≠ none → (s.path p).survey ≠ .deferred →
      exec (.recoveryGapEnd p) s = .next (s.setPath p { s.path p with gap := none }))) ∧
  (∀ (c : PathConfig) (es : List SurveyEntry),
    (surveyResult c es).echoed = (surveySamples es).length ∧
    (surveySamples es = [] → (surveyResult c es).minRtt = 0 ∧ (surveyResult c es).maxRtt = 0) ∧
    (surveySamples es ≠ [] → (surveyResult c es).minRtt ∈ surveySamples es ∧
      (surveyResult c es).maxRtt ∈ surveySamples es) ∧
    (∀ x ∈ surveySamples es, (surveyResult c es).minRtt ≤ x ∧ x ≤ (surveyResult c es).maxRtt) ∧
    ((surveyResult c es).pass = true ↔ c.surveyPass ≤ (surveyResult c es).echoed ∧
      (surveyResult c es).maxRtt ≤ c.surveyLimit * 10)) ∧
  ∀ (p : Path) (es : List SurveyEntry) (v : Psv) (s : State),
    v = { s.path p with
      surveyRecord := surveyResult (s.path p).config es, survey := .idle,
      surveys := (s.path p).surveys + 1
      gap := some (2 * (10 * (s.path p).config.prescale * (s.path p).config.postscale)) } →
    ((s.path p).state = .surveying → v.surveyRecord.pass = false →
      completeSurvey p es s = s.setPath p { v with
        state := .settling, settleTimer := some (v.config.settle * 100) }) ∧
    ((s.path p).state = .surveying → v.surveyRecord.pass = true →
      ∃ t : State, completeSurvey p es s = t ∧
        t.path p = { v with
          state := .up, srtt := v.surveyRecord.maxRtt, lossWindow := List.replicate 32 false
          outstanding := [], idleTimer := some 50, bringups := v.bringups + 1
          probeTimer := some (10 * v.config.prescale * v.config.postscale) } ∧
        (∀ q : Path, q ≠ p → t.path q = s.path q) ∧ t.ntu.pathState.pending = true ∧
        (s.psl.active ≠ none ∨ permitted s p = false → t = { s with psv := t.psv, ntu := t.ntu }) ∧
        (s.psl.active = none → permitted s p = true → (∀ q : Path, eligible s q = false) →
          t.psl.active = some p ∧ t.psl.candidate = some p ∧ t.psl.lastFrom = none ∧
          t.psl.lastCause = .restored ∧ t.psl.activations = s.psl.activations + 1 ∧
          t.psl.holdDown = some (s.psl.settings.holdDown * 1000) ∧
          (t.port p).due.getLast? = some (.pathSwap none) ∧ t.ntu.pathSwap.pending = true ∧
          (∀ i : Nat, (t.visitor i).lifecycle ≠ .free → (t.visitor i).reviewMark = true) ∧
          t = { s with
            shore := t.shore, vtb := t.vtb, rse := t.rse, psv := t.psv, psl := t.psl,
            ntu := t.ntu })) ∧
    ((s.path p).state = .up →
      ∃ t : State, completeSurvey p es s = t ∧ t.path p = v ∧
        (∀ q : Path, q ≠ p → t.path q = s.path q) ∧ t.ntu.surveyDone.pending = true ∧
        t.ntu.surveyPath = p ∧
        (∀ x : Source, x ≠ .surveyDone → noticeGet t.ntu x = noticeGet s.ntu x) ∧
        t = { s with psv := t.psv, ntu := t.ntu })

/-! ## Path selection -/

/-- The candidate is the eligible pinned path, else an eligible path of lowest cost and, of equals, of lowest
number; there is none exactly when no path is eligible. A path is eligible when it is UP and in the PATH_MASK of the
current zone, and its cost is the whole milliseconds of SRTT, the weighted losses of the window and the weighted
rank in the order of the current zone, saturated at 65535; UNSET permits all four paths in their natural order. -/
def Obligations.CandidateIsPinnedOrCheapest : Prop :=
  ∀ s : State,
    (∀ p : Path, s.psl.pin = some p → eligible s p = true → candidateNow s = some p) ∧
    ((∀ p : Path, s.psl.pin = some p → eligible s p = false) →
      ∀ b : Path, candidateNow s = some b →
        ∀ q : Path, eligible s q = true →
          costOf s b ≤ costOf s q ∧ (q.num < b.num → costOf s b < costOf s q)) ∧
    (∀ b : Path, candidateNow s = some b → eligible s b = true) ∧
    (candidateNow s = none ↔ ∀ p : Path, eligible s p = false) ∧
    (∀ p : Path,
      (eligible s p = true ↔ (s.path p).state = .up ∧ (currentTerms s).pathMask.get p = true) ∧
      ∀ k : Nat, (k = 0 ∧ (currentTerms s).rank.first = p ∨
          k = 1 ∧ (currentTerms s).rank.first ≠ p ∧ (currentTerms s).rank.second = p ∨
          k = 2 ∧ (currentTerms s).rank.first ≠ p ∧ (currentTerms s).rank.second ≠ p ∧
            (currentTerms s).rank.third = p ∨
          k = 3 ∧ (currentTerms s).rank.first ≠ p ∧ (currentTerms s).rank.second ≠ p ∧
            (currentTerms s).rank.third ≠ p) →
        costOf s p = min 65535 ((s.path p).srtt / 10 +
          (s.path p).lossWindow.count true * s.psl.settings.lossWeight +
          k * s.psl.settings.rankStep)) ∧
    (s.znu.current = none → currentTerms s =
      { region := 0, cap := 0, pathMask := { sp0 := true, sp1 := true, sp2 := true, sp3 := true }
        rank := { first := .sp0, second := .sp1, third := .sp2, fourth := .sp3 } }) ∧
    (s.znu.current = some .default → currentTerms s = s.znu.defaultTerms) ∧
    (∀ k : ZoneIndex, s.znu.current = some (.entry k) → currentTerms s = s.znu.zones[k].terms)

/-- A swap from an UP path to another: the queue moves whole, the new path is active with its PATH_SWAP due
last, every visitor that is not FREE is review-marked, the path left drains, and hold-down starts. -/
def Obligations.SwapMovesTheWholeQueue : Prop :=
  ∀ (a b : Path) (cause : SwapCause) (s : State), s.psl.active = some a → a ≠ b →
    (s.path a).state = .up →
    ∃ t : State, swapTo b cause s = t ∧
      (t.port b).txQueue = (s.port a).txQueue ∧ (t.port a).txQueue = [] ∧
      t.freeBuffers = s.freeBuffers ∧ t.uplinkSeq = s.uplinkSeq ∧
      t.psl.active = some b ∧ t.psl.lastFrom = some a ∧ t.psl.lastCause = cause ∧
      (t.port b).due.getLast? = some (.pathSwap (some a)) ∧
      (∀ d ∈ (t.port a).due, isPathSwap d = false ∧ isFill d = false) ∧
      t.psl.drain.get a = some (s.path a).config.drain ∧ t.psl.drain.get b = none ∧
      t.psl.holdDown = some (s.psl.settings.holdDown * 1000) ∧ t.psl.confirmCount = 0 ∧
      t.psl.confirmFor = none ∧ t.ntu.pathSwap.pending = true ∧
      (∀ i : Nat, (t.visitor i).lifecycle ≠ .free → (t.visitor i).reviewMark = true) ∧
      (∀ i : Nat, { t.visitor i with reviewMark := false } = { s.visitor i with reviewMark := false }) ∧
      (cause = .forced → t.psl.forcedSwaps = s.psl.forcedSwaps + 1) ∧
      (cause = .evaluated ∨ cause = .pinned → t.psl.swaps = s.psl.swaps + 1) ∧
      (cause = .restored → t.psl.activations = s.psl.activations + 1) ∧
      t = { s with shore := t.shore, vtb := t.vtb, rse := t.rse, psl := t.psl, ntu := t.ntu }

/-- Each evaluation writes candidate and costs and starts the period timer again. With no active path, with the
candidate active, with the candidate pinned while hold-down runs, and with the margin absent, it clears the confirm
count; with the margin there it counts, and waits while hold-down runs. With hold-down stopped it swaps to the
pinned candidate with cause PINNED, or, the count at CONFIRM, with cause EVALUATED. The expiry of a drain window
closes it, and that of hold-down stops its timer, with no swap. -/
def Obligations.SelectorTimersExpire : Prop :=
  ∀ (a b : Path) (s : State),
    (s.psl.active = none → exec .periodTimerExpiry s = .next (s.setPsl { s.psl with
      candidate := candidateNow s, costs := costsNow s, confirmCount := 0, confirmFor := none,
      period := some s.psl.settings.period })) ∧
    (s.psl.active = some a → candidateNow s = some b →
      (b = a ∨ b ≠ a ∧ s.psl.pin = some b ∧ s.psl.holdDown ≠ none ∨
          b ≠ a ∧ s.psl.pin ≠ some b ∧ eligible s a = true ∧
          costOf s a ≤ costOf s b + s.psl.settings.hysteresis →
        exec .periodTimerExpiry s = .next (s.setPsl { s.psl with
          candidate := some b, costs := costsNow s, confirmCount := 0, confirmFor := none,
          period := some s.psl.settings.period })) ∧
      (∀ n : Nat, b ≠ a → s.psl.pin ≠ some b → eligible s a = true →
        costOf s b + s.psl.settings.hysteresis < costOf s a →
        n = (if s.psl.confirmFor = some b then min (s.psl.confirmCount + 1) s.psl.settings.confirm
          else 1) →
        (n ≠ s.psl.settings.confirm ∨ s.psl.holdDown ≠ none) →
        exec .periodTimerExpiry s = .next (s.setPsl { s.psl with
          candidate := some b, costs := costsNow s, confirmCount := n, confirmFor := some b,
          period := some s.psl.settings.period })) ∧
      (∀ cause : SwapCause, b ≠ a → s.psl.holdDown = none →
        (s.psl.pin = some b ∧ cause = .pinned ∨
          s.psl.pin ≠ some b ∧ cause = .evaluated ∧ eligible s a = true ∧
          costOf s b + s.psl.settings.hysteresis < costOf s a ∧
          s.psl.settings.confirm =
            (if s.psl.confirmFor = some b then min (s.psl.confirmCount + 1) s.psl.settings.confirm
            else 1)) →
        ∃ t : State, exec .periodTimerExpiry s = .next t ∧ t.psl.active = some b ∧
          t.psl.candidate = some b ∧ t.psl.costs = costsNow s ∧
          t.psl.lastFrom = some a ∧ t.psl.lastCause = cause ∧ t.psl.swaps = s.psl.swaps + 1 ∧
          t.psl.confirmCount = 0 ∧ t.psl.confirmFor = none ∧
          t.psl.holdDown = some (s.psl.settings.holdDown * 1000) ∧
          t.psl.period = some s.psl.settings.period ∧ t.psl.settings = s.psl.settings ∧
          t.psl.pin = s.psl.pin ∧ (t.port b).txQueue = (s.port a).txQueue ∧
          (t.port b).due.getLast? = some (.pathSwap (some a)) ∧ t.ntu.pathSwap.pending = true ∧
          (∀ i : Nat, (t.visitor i).lifecycle ≠ .free → (t.visitor i).reviewMark = true) ∧
          (∀ i : Nat, { t.visitor i with reviewMark := false } =
            { s.visitor i with reviewMark := false }) ∧
          t = { s with shore := t.shore, vtb := t.vtb, rse := t.rse, psl := t.psl, ntu := t.ntu })) ∧
    (s.psl.drain.get a ≠ none →
      exec (.drainWindowExpiry a) s =
        .next (s.setPsl { s.psl with drain := s.psl.drain.set a none })) ∧
    exec .holdDownExpiry s = .next (s.setPsl { s.psl with holdDown := none })

/-- PATH_DISABLE of the active path with no other path eligible: the path is DISABLED, PATH_LOST is not pending, the
active path is none, its queue is flushed uncharged into the pool, and NO_BACKHAUL is set pending. With another path
eligible it swaps at once to the candidate, with cause FORCED. Of an UP path that is not active it closes the drain
window and makes no swap. Of a path that is neither DISABLED nor UP it cleans the path up and sets PATH_LOST not
pending, and of a DISABLED path it changes nothing. A survey it aborts starts the recovery gap. That ARMED and
RAISED of PATH_LOST stand is the model's reading (log entry 9). -/
def Obligations.PathDisableAndNoBackhaul : Prop :=
  ∀ (p : Path) (r : Request) (s : State), ShipHead "PATH_DISABLE" r s →
    arg "PATH" r = some (p.num : Int) →
    (s.psl.active = some p → (s.path p).state = .up → (∀ q : Path, q ≠ p → eligible s q = false) →
      ∃ t : State, exec (.pathDisable .ship) s = .next t ∧
        (∀ run : SurveyRun, (s.path p).survey = .inFlight run → (t.path p).gap =
          some (2 * (10 * (s.path p).config.prescale * (s.path p).config.postscale))) ∧
        ((s.path p).survey = .idle ∨ (s.path p).survey = .deferred →
          (t.path p).gap = (s.path p).gap) ∧
        (t.path p).state = .disabled ∧ t.psl.active = none ∧ (t.port p).txQueue = [] ∧
        (t.port p).due = [] ∧ t.freeBuffers = s.freeBuffers + (s.port p).txQueue.length ∧
        (t.port p).counters.flushed =
          (s.port p).counters.flushed + BitVec.ofNat 32 (s.port p).txQueue.length ∧
        t.psl.noBackhauls = s.psl.noBackhauls + 1 ∧ t.ntu.noBackhaul.pending = true ∧
        t.ntu.pathState.pending = true ∧ (t.path p).lostLatch = (s.path p).lostLatch ∧
        t.ntu.pathLost = { s.ntu.pathLost with pending := false } ∧
        (∀ i : Nat, (t.visitor i).lifecycle ≠ .free → (t.visitor i).reviewMark = true) ∧
        (∀ i : Nat, { t.visitor i with reviewMark := false } =
          { s.visitor i with reviewMark := false }) ∧
        (∀ q : Path, q ≠ p → t.path q = s.path q ∧
          t.port q = { s.port q with due := (s.port q).due.filter (fun d => !isPathSwap d) }) ∧
        t = { s with
          shi := t.shi, shore := t.shore, freeBuffers := t.freeBuffers, vtb := t.vtb, rse := t.rse,
          psv := t.psv, psl := t.psl, ntu := t.ntu }) ∧
    (∀ b : Path, s.psl.active = some p → (s.path p).state = .up → b ≠ p → eligible s b = true →
      (s.psl.pin = some b ∨
        (∀ q : Path, s.psl.pin = some q → q = p ∨ eligible s q = false) ∧
        ∀ q : Path, q ≠ p → q ≠ b → eligible s q = true →
          costOf s b < costOf s q ∨ costOf s b = costOf s q ∧ b.num < q.num) →
      ∃ t : State, exec (.pathDisable .ship) s = .next t ∧
        t.path p = { s.path p with
          state := .disabled, settleTimer := none, openTimer := none, probeTimer := none
          idleTimer := none, outstanding := [], survey := .idle, gap := (t.path p).gap } ∧
        (∀ run : SurveyRun, (s.path p).survey = .inFlight run → (t.path p).gap =
          some (2 * (10 * (s.path p).config.prescale * (s.path p).config.postscale))) ∧
        ((s.path p).survey = .idle ∨ (s.path p).survey = .deferred →
          (t.path p).gap = (s.path p).gap) ∧
        t.psl.active = some b ∧ t.psl.candidate = some b ∧ t.psl.lastFrom = some p ∧
        t.psl.lastCause = .forced ∧ t.psl.forcedSwaps = s.psl.forcedSwaps + 1 ∧
        t.psl.holdDown = some (s.psl.settings.holdDown * 1000) ∧ t.psl.drain.get p = none ∧
        t.psl.drain.get b = none ∧ t.psl.confirmCount = 0 ∧ t.psl.confirmFor = none ∧
        (t.port b).txQueue = (s.port p).txQueue ∧ (t.port p).txQueue = [] ∧ (t.port p).due = [] ∧
        (t.port b).due.getLast? = some (.pathSwap (some p)) ∧ t.freeBuffers = s.freeBuffers ∧
        t.ntu.pathSwap.pending = true ∧ t.ntu.pathState.pending = true ∧
        t.ntu.pathLost = { s.ntu.pathLost with pending := false } ∧
        t.ntu.noBackhaul = s.ntu.noBackhaul ∧
        (∀ i : Nat, (t.visitor i).lifecycle ≠ .free → (t.visitor i).reviewMark = true) ∧
        (∀ i : Nat, { t.visitor i with reviewMark := false } =
          { s.visitor i with reviewMark := false }) ∧
        (∀ q : Path, q ≠ p → t.path q = s.path q) ∧
        t = { s with
          shi := t.shi, shore := t.shore, vtb := t.vtb, rse := t.rse, psv := t.psv, psl := t.psl
          ntu := t.ntu }) ∧
    (s.psl.active ≠ some p → (s.path p).state = .up →
      ∃ t : State, exec (.pathDisable .ship) s = .next t ∧
        t.path p = { s.path p with
          state := .disabled, settleTimer := none, openTimer := none, probeTimer := none
          idleTimer := none, outstanding := [], survey := .idle, gap := (t.path p).gap } ∧
        (∀ run : SurveyRun, (s.path p).survey = .inFlight run → (t.path p).gap =
          some (2 * (10 * (s.path p).config.prescale * (s.path p).config.postscale))) ∧
        ((s.path p).survey = .idle ∨ (s.path p).survey = .deferred →
          (t.path p).gap = (s.path p).gap) ∧
        t.psl = { s.psl with drain := s.psl.drain.set p none } ∧
        t.port p = { s.port p with due := [] } ∧ t.ntu.pathState.pending = true ∧
        t.ntu.pathLost = { s.ntu.pathLost with pending := false } ∧
        (∀ x : Source, x ≠ .pathState → x ≠ .pathLost → noticeGet t.ntu x = noticeGet s.ntu x) ∧
        (∀ q : Path, q ≠ p → t.path q = s.path q ∧ t.port q = s.port q) ∧
        t = { s with shi := t.shi, shore := t.shore, psv := t.psv, psl := t.psl, ntu := t.ntu }) ∧
    ((s.path p).state ≠ .disabled → (s.path p).state ≠ .up →
      ∃ t : State, exec (.pathDisable .ship) s = .next t ∧
        t.path p = { s.path p with
          state := .disabled, settleTimer := none, openTimer := none, probeTimer := none
          idleTimer := none, outstanding := [], survey := .idle, gap := (t.path p).gap } ∧
        (∀ run : SurveyRun, (s.path p).survey = .inFlight run → (t.path p).gap =
          some (2 * (10 * (s.path p).config.prescale * (s.path p).config.postscale))) ∧
        ((s.path p).survey = .idle ∨ (s.path p).survey = .deferred →
          (t.path p).gap = (s.path p).gap) ∧
        (∀ q : Path, q ≠ p → t.path q = s.path q ∧ t.port q = s.port q) ∧
        t.ntu = { s.ntu with pathLost := { s.ntu.pathLost with pending := false } } ∧
        t = { s with shi := t.shi, shore := t.shore, psv := t.psv, ntu := t.ntu }) ∧
    ((s.path p).state = .disabled →
      exec (.pathDisable .ship) s = .next (doneAt r pathItem false [item "STATE" 0] []
        (dropRequest .ship s)))

/-! ## Resequencer, coverage, zones -/

/-- The gap timer's expiry skips and counts the hole before the nearest held packet and delivers that packet with
the consecutive run behind it; the timer starts again where a packet is still held. The handling of a delivered
packet: an unknown tag is dropped; the owed work is done; the packet is refused with its buffer returned, or a cell
head is chosen, the visitor's own or its backup, counted in SUBSTITUTIONS; a full egress queue drops it; else it is
charged and joins the egress queue, or is refused by the ceiling test. -/
def Obligations.GapExpiryAndDelivery : Prop :=
  (∀ (h : Held) (run left : List Held) (s : State), s.drs.slots = h :: (run ++ left) →
    s.drs.gapTimer ≠ none →
    (∀ (k : Nat) (x : Held), run[k]? = some x → x.seq = h.seq + BitVec.ofNat 16 (k + 1)) →
    (∀ x ∈ left.head?, x.seq ≠ h.seq + BitVec.ofNat 16 (run.length + 1)) →
    ∃ t : State, exec .gapTimerExpiry s = .next t ∧
      t.drs = { s.drs with
        slots := left
        nextExpected := h.seq + BitVec.ofNat 16 (run.length + 1)
        gapTimer := if left = [] then none else some s.drs.gapHold
        gapExpiries := s.drs.gapExpiries + 1
        delivered := s.drs.delivered + BitVec.ofNat 32 (run.length + 1)
        skipped := s.drs.skipped + BitVec.ofNat 32 (seqDistance s.drs h.seq) } ∧
      t = { s with
        shi := t.shi, shore := t.shore, freeBuffers := t.freeBuffers, vtb := t.vtb, rcq := t.rcq,
        rse := t.rse, drs := t.drs, cvu := t.cvu, ntu := t.ntu }) ∧
  (∀ (h : Held) (s : State), lookupTag s h.tag = none →
    downlinkDelivery h s = (s.setPort h.port { s.port h.port with
      counters := { (s.port h.port).counters with
        dropUnknownTag := (s.port h.port).counters.dropUnknownTag + 1 } }).setFreeBuffers
      (s.freeBuffers + 1)) ∧
  (∀ (h : Held) (i : Nat) (u s : State), lookupTag s h.tag = some i → u = owedWork i s →
    (∀ why : Refused, admission false u (u.visitor i) = some why →
      downlinkDelivery h s = (blockPacket i why u).setFreeBuffers (u.freeBuffers + 1)) ∧
    (admission false u (u.visitor i) = none → forwardingChoice u (u.visitor i) = none →
      downlinkDelivery h s = (blockPacket i .noCoverage u).setFreeBuffers (u.freeBuffers + 1)) ∧
    (∀ (c : Cell) (backup : Bool) (w : State), admission false u (u.visitor i) = none →
      forwardingChoice u (u.visitor i) = some (c, backup) →
      w = u.setCvu { u.cvu with
        substitutions := u.cvu.substitutions + (if backup then 1 else 0) } →
      (2048 ≤ u.shi.egress.length → downlinkDelivery h s =
        (w.countShip (fun n => { n with dropEgressFull := n.dropEgressFull + 1 })).setFreeBuffers
          (u.freeBuffers + 1)) ∧
      (u.shi.egress.length < 2048 → (charge i h.length .down w).2 = true →
        downlinkDelivery h s = (charge i h.length .down w).1.setShi { u.shi with
          egress := u.shi.egress ++
            [{ packet := h.packet, tag := h.tag, length := h.length, cell := c }] }) ∧
      (u.shi.egress.length < 2048 → (charge i h.length .down w).2 = false →
        downlinkDelivery h s =
          (charge i h.length .down w).1.setFreeBuffers (u.freeBuffers + 1)))) ∧
  ∀ (v : Visitor) (s : State),
    (v.servingCell = none → forwardingChoice s v = none) ∧
    (∀ c : Cell, v.servingCell = some c →
      ((s.cell c).state = .serving → 0 < (s.cell c).activeLevel →
        forwardingChoice s v = some (c, false)) ∧
      ((s.cell c).state ≠ .serving ∨ (s.cell c).activeLevel = 0 →
        ((s.cell c).backup = none → forwardingChoice s v = none) ∧
        (∀ b : Cell, (s.cell c).backup = some b →
          forwardingChoice s v =
            if (s.cell b).state = .serving ∧ 0 < (s.cell b).activeLevel then some (b, true) else none)))

/-- The expiry of a cell head's heartbeat timer makes it LOST at level 0 with COVERAGE pending; a GRANT is owed when
it was SERVING above level 0, and the targets of all cell heads are worked out again, a level above its target
falling at once, counted in DECREASES with a GRANT owed. The target of a SERVING cell head is BASE, with one BOOST
while a LOST one names it as BACKUP, up to the CAP, and otherwise 0. The settings of the Coverage Unit, the other
notice sources and the other blocks stand. -/
def Obligations.HeartbeatExpiryLosesCellHead : Prop :=
  (∀ (cap : Nat) (u : Cvu) (c : Cell),
    (boosted u c = true ↔
      ∃ d : Cell, d ≠ c ∧ u.cells[d].state = .lost ∧ u.cells[d].backup = some c) ∧
    (u.cells[c].state ≠ .serving → targetOf cap u c = 0) ∧
    (u.cells[c].state = .serving → targetOf cap u c =
      min cap (u.cells[c].base + if boosted u c then u.cells[c].boost else 0))) ∧
  ∀ (c : Cell) (s : State), (s.cell c).hbTimer ≠ none →
    ∃ t : State, exec (.heartbeatTimerExpiry c.val) s = .next t ∧
      (t.cell c).state = .lost ∧ (t.cell c).joinCount = 0 ∧ (t.cell c).hbTimer = none ∧
      (t.cell c).losses = (s.cell c).losses + 1 ∧ (t.cell c).activeLevel = 0 ∧
      (t.cell c).pendingLevel = 0 ∧ (t.cell c).target = 0 ∧
      (t.cell c).grantOwed = ((s.cell c).grantOwed || decide (0 < (s.cell c).activeLevel)) ∧
      (t.cell c).decreases = (s.cell c).decreases + (if 0 < (s.cell c).activeLevel then 1 else 0) ∧
      (∀ d : Cell, d ≠ c → t.cell d = { s.cell d with
        target := (t.cell d).target, pendingLevel := (t.cell d).target
        activeLevel := min (s.cell d).activeLevel (t.cell d).target
        grantOwed := (s.cell d).grantOwed || decide ((t.cell d).target < (s.cell d).activeLevel)
        decreases := (s.cell d).decreases +
          if (t.cell d).target < (s.cell d).activeLevel then 1 else 0 }) ∧
      (∀ d : Cell, (t.cell d).target = targetOf (currentTerms s).cap t.cvu d ∧
        (t.cell d).pendingLevel = (t.cell d).target) ∧
      { t.cvu with cells := s.cvu.cells } = s.cvu ∧
      t.ntu = { s.ntu with coverage := { s.ntu.coverage with
        pending := true
        raised := s.ntu.coverage.raised + if s.ntu.coverage.pending then 0 else 1 } } ∧
      t = { s with cvu := t.cvu, ntu := t.ntu }

/-- A grant boundary gives every SERVING cell head its pending level and owes it a GRANT, and leaves the
others as they stand. -/
def Obligations.GrantBoundaryAppliesPendingLevels : Prop :=
  ∀ s : State, ∃ t : State, exec .grantBoundary s = .next t ∧
    (∀ c : Cell, (s.cell c).state = .serving →
      t.cell c = { s.cell c with activeLevel := (s.cell c).pendingLevel, grantOwed := true }) ∧
    (∀ c : Cell, (s.cell c).state ≠ .serving → t.cell c = s.cell c) ∧
    t = s.setCvu { s.cvu with
      cells := t.cvu.cells, boundaries := s.cvu.boundaries + 1, grantTimer := some s.cvu.grantPeriod }

/-- The match of a position is the VALID entry of lowest index whose box contains it, and DEFAULT when no
VALID box does; a box with LON_MIN above LON_MAX wraps. -/
def Obligations.PositionMatchesLowestBox : Prop :=
  ∀ (u : Znu) (lat lon : Int),
    (∀ k : ZoneIndex, matchZone u lat lon = .entry k ↔
      (u.zones[k].valid = true ∧ boxContains u.zones[k] lat lon = true ∧
        ∀ j : ZoneIndex, j < k → ¬(u.zones[j].valid = true ∧ boxContains u.zones[j] lat lon = true))) ∧
    (matchZone u lat lon = .default ↔
      ∀ k : ZoneIndex, ¬(u.zones[k].valid = true ∧ boxContains u.zones[k] lat lon = true)) ∧
    (∀ z : ZoneRow, boxContains z lat lon = true ↔
      (z.latMin ≤ lat ∧ lat ≤ z.latMax ∧
        ((z.lonMin ≤ z.lonMax ∧ z.lonMin ≤ lon ∧ lon ≤ z.lonMax) ∨
          (z.lonMax < z.lonMin ∧ (z.lonMin ≤ lon ∨ lon ≤ z.lonMax)))))

/-- The expiry of the position timer: STALE, the candidate cleared, the fallback zone current, and
POSITION_STALE pending; where the fallback zone is current already there is no zone change. The fallback zone is the
entry that FALLBACK names when it is VALID, and otherwise DEFAULT. -/
def Obligations.PositionExpiryFallsBack : Prop :=
  (∀ u : Znu,
    (u.fallback = .default → fallbackZone u = .default) ∧
    ∀ k : ZoneIndex, u.fallback = .entry k →
      fallbackZone u = if u.zones[k].valid = true then .entry k else .default) ∧
  ∀ s : State, s.znu.positionTimer ≠ none →
    ∃ t : State, exec .positionTimerExpiry s = .next t ∧ t.znu.positionState = .stale ∧
      t.znu.positionTimer = none ∧ t.znu.candidate = none ∧ t.znu.candidateCount = 0 ∧
      t.znu.current = some (fallbackZone s.znu) ∧ t.znu.fallbacks = s.znu.fallbacks + 1 ∧
      t.ntu.positionStale.pending = true ∧ t.znu.zones = s.znu.zones ∧
      (s.znu.current = some (fallbackZone s.znu) →
        t.znu.zoneChanges = s.znu.zoneChanges ∧ t = { s with znu := t.znu, ntu := t.ntu }) ∧
      (s.znu.current ≠ some (fallbackZone s.znu) →
        t.znu.zoneChanges = s.znu.zoneChanges + 1 ∧ t.znu.changeCause = .fallback ∧
        t.znu.prevZone = s.znu.current ∧ t.ntu.zoneChange.pending = true ∧
        (∀ i : Nat, (t.visitor i).lifecycle ≠ .free → (t.visitor i).reviewMark = true) ∧
        t = { s with
          shore := t.shore, freeBuffers := t.freeBuffers, vtb := t.vtb, rse := t.rse, znu := t.znu,
          psl := t.psl, cvu := t.cvu, ntu := t.ntu })

/-- POSITION with a position in range: the report is counted and held, the timer starts and the state is FRESH.
A match with the current zone clears the candidate; another match is counted, and at CONFIRM the zone becomes
current as a zone change with cause REPORT. -/
def Obligations.PositionReportIsDebounced : Prop :=
  ∀ (lat lon : Int) (m : Zone) (n : Nat) (r : Request) (s : State), ShipHead "POSITION" r s →
    arg "LAT" r = some lat → arg "LON" r = some lon → -9000000 ≤ lat → lat ≤ 9000000 →
    -18000000 ≤ lon → lon ≤ 18000000 → m = matchZone s.znu lat lon →
    n = (if s.znu.candidate = some m then s.znu.candidateCount + 1 else 1) →
    (s.znu.current = some m →
      exec (.position .ship) s = .next (doneAt r positionRequestItems false
        [item "MATCH" (zoneNum m), item "CURRENT_ZONE" (zoneNum m), item "CANDIDATE" (-1),
         item "CANDIDATE_COUNT" 0, item "ZONE_CHANGE" 0] []
        ((dropRequest .ship s).setZnu { s.znu with
          positionState := .fresh, positionTimer := some (s.znu.timeout * 1000), lastLat := lat,
          lastLon := lon, reports := s.znu.reports + 1, candidate := none, candidateCount := 0 }))) ∧
    (s.znu.current ≠ some m → n < s.znu.confirm →
      exec (.position .ship) s = .next (doneAt r positionRequestItems false
        [item "MATCH" (zoneNum m), item "CURRENT_ZONE" (zoneCode s.znu.current),
         item "CANDIDATE" (zoneNum m), item "CANDIDATE_COUNT" n, item "ZONE_CHANGE" 0] []
        ((dropRequest .ship s).setZnu { s.znu with
          positionState := .fresh, positionTimer := some (s.znu.timeout * 1000), lastLat := lat,
          lastLon := lon, reports := s.znu.reports + 1, candidate := some m, candidateCount := n }))) ∧
    (s.znu.current ≠ some m → s.znu.confirm ≤ n →
      ∃ t : State, exec (.position .ship) s = .next t ∧ t.znu.current = some m ∧
        t.znu.prevZone = s.znu.current ∧ t.znu.changeCause = .report ∧
        t.znu.zoneChanges = s.znu.zoneChanges + 1 ∧ t.znu.candidate = none ∧
        t.znu.candidateCount = 0 ∧ t.znu.positionState = .fresh ∧
        t.znu.positionTimer = some (s.znu.timeout * 1000) ∧ t.znu.lastLat = lat ∧
        t.znu.lastLon = lon ∧ t.znu.reports = s.znu.reports + 1 ∧ t.ntu.zoneChange.pending = true ∧
        (∀ i : Nat, (t.visitor i).lifecycle ≠ .free → (t.visitor i).reviewMark = true) ∧
        t = { s with
          shi := t.shi, shore := t.shore, freeBuffers := t.freeBuffers, vtb := t.vtb, rse := t.rse,
          znu := t.znu, psl := t.psl, cvu := t.cvu, ntu := t.ntu })

/-- ZONE_FORCE: an absent ZONE is MALFORMED, a number that names no zone and an entry that is not VALID are
refused, and none of these changes a zone. A zone that may be made current becomes so without debounce, as a
zone change with cause FORCE, or with no zone change where it is current already; the candidate is cleared, and
the position state and timer stand. -/
def Obligations.ZoneForceChangesZone : Prop :=
  ∀ (r : Request) (s : State), ShipHead "ZONE_FORCE" r s →
    (arg "ZONE" r = none → exec (.zoneForce .ship) s = .next
      (placeReply .ship (plainReply r .malformed (setsAside zoneForceItems r))
        (recordFault .ship r .missingItem (dropRequest .ship s)))) ∧
    (∀ v : Int, arg "ZONE" r = some v → v < 0 ∨ 32 < v →
      exec (.zoneForce .ship) s = .next (refusedAt r zoneForceItems .refusedIndex s)) ∧
    (∀ k : ZoneIndex, arg "ZONE" r = some (k.val : Int) → s.znu.zones[k].valid = false →
      exec (.zoneForce .ship) s = .next (refusedAt r zoneForceItems .refusedState s)) ∧
    ∀ z : Zone, arg "ZONE" r = some (zoneNum z : Int) → zoneUsable s.znu z = true →
      (s.znu.current ≠ some z →
        ∃ t : State, exec (.zoneForce .ship) s = .next t ∧ t.znu.current = some z ∧
          t.znu.prevZone = s.znu.current ∧ t.znu.changeCause = .force ∧
          t.znu.zoneChanges = s.znu.zoneChanges + 1 ∧ t.znu.candidate = none ∧
          t.znu.candidateCount = 0 ∧ t.znu.positionState = s.znu.positionState ∧
          t.znu.positionTimer = s.znu.positionTimer ∧ t.ntu.zoneChange.pending = true ∧
          t.shi.reply.map (fun x => (x.status, x.items)) =
            some (.done, [item "CURRENT_ZONE" (zoneNum z), item "ZONE_CHANGE" 1]) ∧
          t = { s with
            shi := t.shi, shore := t.shore, freeBuffers := t.freeBuffers, vtb := t.vtb, rse := t.rse,
            znu := t.znu, psl := t.psl, cvu := t.cvu, ntu := t.ntu } ∧
          (∀ i : Nat, (t.visitor i).lifecycle ≠ .free → (t.visitor i).reviewMark = true) ∧
          ∀ c : Cell, LevelLaw (zoneTerms s.znu (some z)).cap (t.cell c)) ∧
      (s.znu.current = some z →
        exec (.zoneForce .ship) s = .next (doneAt r zoneForceItems false
          [item "CURRENT_ZONE" (zoneNum z), item "ZONE_CHANGE" 0] []
          ((dropRequest .ship s).setZnu { s.znu with candidate := none, candidateCount := 0 })))

/-- ZONE_LOAD with its rank items and its box in order writes the entry and clears the candidate; of the current
entry it is a zone change with cause LOAD, to DEFAULT where the entry is no longer VALID. ZONE_DEFAULTS writes the
DEFAULT record and the settings, clearing the candidate when CONFIRM is present, with a zone change besides when it
writes the terms of the current DEFAULT record. Each present item is written, clamped to its range, and each absent
field stands; the RANK items are written together. The names under which the replies carry PATH_MASK and RANK are
the model's own (log entry 24). -/
def Obligations.ZoneTablesAreWritten : Prop :=
  (∀ (lo hi old : Nat) (v : Int), clampedNat lo hi old none = old ∧
    ((clampedNat lo hi old (some v) : Nat) : Int) = max (lo : Int) (min (hi : Int) v)) ∧
  (∀ (old : Bool) (v : Int), clampedBool old none = old ∧
    (clampedBool old (some v) = true ↔ 1 ≤ v)) ∧
  (∀ (r : Request) (z : ZoneRow),
    (rowLoaded r z).valid = clampedBool z.valid (arg "VALID" r) ∧
    (rowLoaded r z).latMin =
      ((arg "LAT_MIN" r).map (fun v => max (-9000000) (min 9000000 v))).getD z.latMin ∧
    (rowLoaded r z).latMax =
      ((arg "LAT_MAX" r).map (fun v => max (-9000000) (min 9000000 v))).getD z.latMax ∧
    (rowLoaded r z).lonMin =
      ((arg "LON_MIN" r).map (fun v => max (-18000000) (min 18000000 v))).getD z.lonMin ∧
    (rowLoaded r z).lonMax =
      ((arg "LON_MAX" r).map (fun v => max (-18000000) (min 18000000 v))).getD z.lonMax ∧
    (rowLoaded r z).terms = termsWritten r z.terms) ∧
  (∀ (r : Request) (x : Terms),
    (termsWritten r x).region.val = clampedNat 0 15 x.region.val (arg "REGION" r) ∧
    (termsWritten r x).cap = clampedNat 0 63 x.cap (arg "CAP" r) ∧
    (∀ p : Path, (termsWritten r x).pathMask.get p =
      clampedBool (x.pathMask.get p) (argK "PERMIT_SP" p.num r)) ∧
    ((∀ k : Fin 4, argK "RANK_" k.val r = none) → (termsWritten r x).rank = x.rank) ∧
    (∀ a b c d : Path, [a, b, c, d].Nodup → argK "RANK_" 0 r = some (a.num : Int) →
      argK "RANK_" 1 r = some (b.num : Int) → argK "RANK_" 2 r = some (c.num : Int) →
      argK "RANK_" 3 r = some (d.num : Int) →
      (termsWritten r x).rank = { first := a, second := b, third := c, fourth := d })) ∧
  (∀ (r : Request) (u : Znu),
    { defaultsWritten r u with
        defaultTerms := u.defaultTerms, fallback := u.fallback, confirm := u.confirm
        timeout := u.timeout, candidate := u.candidate, candidateCount := u.candidateCount } = u ∧
    (defaultsWritten r u).defaultTerms = termsWritten r u.defaultTerms ∧
    (arg "FALLBACK" r = none → (defaultsWritten r u).fallback = u.fallback) ∧
    (∀ z : Zone, arg "FALLBACK" r = some (zoneNum z : Int) → (defaultsWritten r u).fallback = z) ∧
    (arg "POSITION_TIMEOUT" r = none → (defaultsWritten r u).timeout = u.timeout) ∧
    (∀ v : Int, arg "POSITION_TIMEOUT" r = some v →
      ((defaultsWritten r u).timeout : Int) = max 1 (min 255 v)) ∧
    (arg "CONFIRM" r = none → (defaultsWritten r u).confirm = u.confirm ∧
      (defaultsWritten r u).candidate = u.candidate ∧
      (defaultsWritten r u).candidateCount = u.candidateCount) ∧
    (∀ v : Int, arg "CONFIRM" r = some v →
      ((defaultsWritten r u).confirm : Int) = max 1 (min 8 v) ∧
      (defaultsWritten r u).candidate = none ∧ (defaultsWritten r u).candidateCount = 0)) ∧
  ∀ (k : ZoneIndex) (r : Request) (s : State), rankItems r ≠ .bad →
    (ShipHead "ZONE_LOAD" r s → arg "INDEX" r = some (k.val : Int) →
      (rowLoaded r s.znu.zones[k]).latMin ≤ (rowLoaded r s.znu.zones[k]).latMax →
      (s.znu.current ≠ some (.entry k) →
        exec (.zoneLoad .ship) s = .next (doneAt r zoneLoadItems (rowAdjusted r)
          (rowItems (rowLoaded r s.znu.zones[k]) ++ [item "ZONE_CHANGE" 0]) []
          ((dropRequest .ship s).setZnu { s.znu with
            zones := s.znu.zones.set k (rowLoaded r s.znu.zones[k]), candidate := none,
            candidateCount := 0 }))) ∧
      (s.znu.current = some (.entry k) →
        ∃ t : State, exec (.zoneLoad .ship) s = .next t ∧
          t.znu = { s.znu with
            zones := s.znu.zones.set k (rowLoaded r s.znu.zones[k])
            current := some (if (rowLoaded r s.znu.zones[k]).valid then .entry k else .default)
            candidate := none, candidateCount := 0, prevZone := some (.entry k), changeCause := .load
            zoneChanges := s.znu.zoneChanges + 1 } ∧ t.ntu.zoneChange.pending = true ∧
          (∀ i : Nat, (t.visitor i).lifecycle ≠ .free → (t.visitor i).reviewMark = true) ∧
          t = { s with
            shi := t.shi, shore := t.shore, freeBuffers := t.freeBuffers, vtb := t.vtb, rse := t.rse,
            znu := t.znu, psl := t.psl, cvu := t.cvu, ntu := t.ntu })) ∧
    (ShipHead "ZONE_DEFAULTS" r s → fallbackBad (arg "FALLBACK" r) = false →
      (termsPresent r = false ∨ s.znu.current ≠ some .default →
        exec (.zoneDefaults .ship) s = .next (doneAt r zoneDefaultsItems (defaultsAdjusted r)
          (defaultsItems (defaultsWritten r s.znu) false) []
          ((dropRequest .ship s).setZnu (defaultsWritten r s.znu)))) ∧
      (termsPresent r = true → s.znu.current = some .default →
        ∃ t : State, exec (.zoneDefaults .ship) s = .next t ∧
          t.znu = { defaultsWritten r s.znu with
            current := some .default, prevZone := some .default, changeCause := .load
            zoneChanges := s.znu.zoneChanges + 1 } ∧ t.ntu.zoneChange.pending = true ∧
          (∀ i : Nat, (t.visitor i).lifecycle ≠ .free → (t.visitor i).reviewMark = true) ∧
          t = { s with
            shi := t.shi, shore := t.shore, freeBuffers := t.freeBuffers, vtb := t.vtb, rse := t.rse,
            znu := t.znu, psl := t.psl, cvu := t.cvu, ntu := t.ntu }))

/-! ## Records, reviews and the sweep -/

/-- The close of an open record: EMPTY without traffic, QUEUED with the next sequence while the queue holds
fewer than 1024, SPILLED otherwise; in every case the entry then holds a new record with the current snapshot
and zero counters. The snapshot carries the price of the five stages: the row of the region and plan in the active
bank, the surcharge of the active path, 256 with none, the partner's MULT for a SURCHARGED visitor alone, and 65535 at
most. ROAMING is evaluated as the partner's POLICY for the region of the current zone, 0 for UNSET. -/
def Obligations.CloseHasThreeOutcomes : Prop :=
  (∀ r : OpenRecord, holdsTraffic r = true ↔ 0 < r.pktsUp ∨ 0 < r.pktsDown ∨ 0 < r.feeCharged) ∧
  (∀ (s : State) (v : Visitor) (k : Region) (row : TariffRow) (su p1 p2 : Nat),
    (s.znu.current = none ∧ k = 0 ∨ s.znu.current = some .default ∧ k = s.znu.defaultTerms.region ∨
      ∃ z : ZoneIndex, s.znu.current = some (.entry z) ∧ k = s.znu.zones[z].terms.region) →
    row = (if s.rtu.activeBank = .b0 then s.rtu.bank0 else s.rtu.bank1)[k][v.plan] →
    (s.psl.active = none ∧ su = 256 ∨
      ∃ p : Path, s.psl.active = some p ∧ su = (s.path p).config.surcharge) →
    p1 = row.price * su / 256 →
    (v.roaming = .surcharged ∧ p2 = p1 * s.rtu.partners[v.partner].mult / 256 ∨
      v.roaming ≠ .surcharged ∧ p2 = p1) →
    priceNow s v = min p2 65535 ∧ roamingNow s v.partner = s.rtu.partners[v.partner].policy[k] ∧
    openNow s v =
      { zone := s.znu.current, region := k, path := s.psl.active, priceEff := min p2 65535
        fee := row.fee, bank := s.rtu.activeBank, roaming := v.roaming, bytesUp := 0, bytesDown := 0
        freeBytes := 0, pktsUp := 0, pktsDown := 0, feeCharged := 0, charge := 0
        openTime := s.cfu.clock }) ∧
  ∀ (i : Nat) (why : CloseReason) (r : OpenRecord) (s : State), (s.visitor i).openRecord = some r →
    (s.visitor i).lifecycle ≠ .free →
    ∃ (t : State) (out : CloseOutcome), closeRecord i why s = (t, out) ∧
      t.visitor i = { s.visitor i with
        openRecord := some (openNow s (s.visitor i)), spilled := (t.visitor i).spilled,
        spillCount := (t.visitor i).spillCount } ∧
      (∀ j : Nat, j ≠ i → t.visitor j = s.visitor j) ∧
      t = { s with vtb := t.vtb, rcq := t.rcq, ntu := t.ntu } ∧
      (holdsTraffic r = false → out = .empty ∧ t.rcq = s.rcq ∧
        (t.visitor i).spilled = (s.visitor i).spilled ∧
        (t.visitor i).spillCount = (s.visitor i).spillCount) ∧
      (holdsTraffic r = true → held s.rcq < 1024 → out = .queued ∧
        t.rcq.records = s.rcq.records ++
          [{ seq := s.rcq.nextSeq, index := i, tag := (s.visitor i).tag, reason := why,
             closeTime := s.cfu.clock, contents := r }] ∧
        t.rcq.nextSeq = s.rcq.nextSeq + 1 ∧ (t.visitor i).spilled = (s.visitor i).spilled ∧
        (t.visitor i).spillCount = (s.visitor i).spillCount) ∧
      (holdsTraffic r = true → 1024 ≤ held s.rcq → out = .spilled ∧ t.rcq.records = s.rcq.records ∧
        t.rcq.nextSeq = s.rcq.nextSeq ∧ t.rcq.spills = s.rcq.spills + 1 ∧
        (t.visitor i).spilled = (s.visitor i).spilled + r.charge + r.feeCharged ∧
        (t.visitor i).spillCount = min ((s.visitor i).spillCount + 1) 65535 ∧
        t.ntu.recordSpill.pending = true)

/-- A visit of the running engine does the work its entry owes and advances the cursor; an entry that owes
nothing is passed. An owed close closes the open record with the engine's reason; an owed review, after it, evaluates
ROAMING and closes the record at its first difference from the current conditions, in the order zone, path, tariff.
The interval expiry makes the reason INTERVAL with no close pending and keeps it otherwise, marks every ATTACHED and
CLOSING entry and restarts the timer. -/
def Obligations.SweepEngineEvents : Prop :=
  (∀ s : State,
    (s.rse.running = true → (s.visitor s.rse.cursor).reviewMark = false →
      (s.visitor s.rse.cursor).closeMark = false →
      exec .sweepVisit s = .next (s.setRse { s.rse with cursor := (s.rse.cursor + 1) % 4096 })) ∧
    (s.rse.running = true → (s.visitor s.rse.cursor).lifecycle ≠ .free →
      ((s.visitor s.rse.cursor).reviewMark = true ∨ (s.visitor s.rse.cursor).closeMark = true) →
      ∃ t : State, exec .sweepVisit s = .next t ∧
        t = (owedWork s.rse.cursor s).setRse { (owedWork s.rse.cursor s).rse with
          cursor := (s.rse.cursor + 1) % 4096 } ∧
        (t.visitor s.rse.cursor).reviewMark = false ∧ (t.visitor s.rse.cursor).closeMark = false ∧
        (t.visitor s.rse.cursor).lifecycle = (s.visitor s.rse.cursor).lifecycle ∧
        (t.visitor s.rse.cursor).charged = (s.visitor s.rse.cursor).charged ∧
        (∀ j : Nat, j ≠ s.rse.cursor → t.visitor j = s.visitor j) ∧
        t = { s with vtb := t.vtb, rcq := t.rcq, rse := t.rse, ntu := t.ntu }) ∧
    (s.rse.intervalTimer ≠ none → s.rse.interval ≠ 0 →
      ∃ t : State, exec .intervalExpiry s = .next t ∧
        { t.rse with running := false, runs := 0 } = { s.rse with
          closeReason := if closePending s = 0 then .interval else s.rse.closeReason
          intervalTimer := some (s.rse.interval * 60000), running := false, runs := 0 } ∧
        (EngineLaw s → t.rse.runs = s.rse.runs) ∧
        (∀ i : Nat, lifecycleOpen (t.visitor i).lifecycle = true → (t.visitor i).closeMark = true) ∧
        (∀ i : Nat, { t.visitor i with closeMark := false } =
          { s.visitor i with closeMark := false }) ∧ t = { s with vtb := t.vtb, rse := t.rse })) ∧
  ∀ (i : Nat) (r : OpenRecord) (v : Visitor) (s : State), (s.visitor i).openRecord = some r →
    v = { s.visitor i with roaming := roamingNow s (s.visitor i).partner } →
    ((s.visitor i).closeMark = true → (s.visitor i).reviewMark = false →
      ∃ t : State, owedWork i s = t ∧
        t.rcq = (closeRecord i (sweepCloseReason s.rse.closeReason) s).1.rcq ∧
        (t.visitor i).openRecord = some (openNow s (s.visitor i)) ∧
        (t.visitor i).roaming = (s.visitor i).roaming ∧
        { t.rse with running := false, runs := 0 } = { s.rse with running := false, runs := 0 }) ∧
    ((s.visitor i).closeMark = true → (s.visitor i).reviewMark = true →
      ∃ t : State, owedWork i s = t ∧
        t.rcq = (closeRecord i (sweepCloseReason s.rse.closeReason) s).1.rcq ∧
        (t.visitor i).openRecord = some (if priceNow s (s.visitor i) = priceNow s v
          then openNow s (s.visitor i) else openNow s v) ∧
        (t.visitor i).roaming = v.roaming ∧ t.rse.reviews = s.rse.reviews + 1) ∧
    ((s.visitor i).closeMark = false → (s.visitor i).reviewMark = true →
      ∃ t : State, owedWork i s = t ∧ (t.visitor i).roaming = v.roaming ∧
        t.rse.reviews = s.rse.reviews + 1 ∧
        (r.zone = s.znu.current → r.path = s.psl.active → r.priceEff = priceNow s v →
          t.rcq = s.rcq ∧ (t.visitor i).openRecord = some r ∧
          t.rse.rateBreaks = s.rse.rateBreaks) ∧
        (∀ why : CloseReason,
          (r.zone ≠ s.znu.current ∧ why = .zone ∨
            r.zone = s.znu.current ∧ r.path ≠ s.psl.active ∧ why = .path ∨
            r.zone = s.znu.current ∧ r.path = s.psl.active ∧ r.priceEff ≠ priceNow s v ∧
              why = .tariff) →
          t.rcq = (closeRecord i why s).1.rcq ∧ (t.visitor i).openRecord = some (openNow s v) ∧
          t.rse.rateBreaks = s.rse.rateBreaks + 1))

/-- RECORD_FLUSH makes the reason FLUSH and close-marks every ATTACHED and CLOSING entry, with the engine then RUNNING
exactly when a mark is owed; RECORD_INTERVAL writes the interval and starts or stops its timer; VOYAGE_START empties
ZONES_CHARGED. Besides these, each takes its request from the queue, places its reply, and changes nothing. -/
def Obligations.FlushIntervalAndVoyage : Prop :=
  ∀ (r : Request) (s : State),
    (ShipHead "RECORD_FLUSH" r s →
      ∃ t : State, exec (.recordFlush .ship) s = .next t ∧
        t.rse = { s.rse with
          closeReason := .flush
          running := marksOwed t
          runs := s.rse.runs + if s.rse.running && !marksOwed t then 1 else 0 } ∧
        (EngineLaw s → t.rse.runs = s.rse.runs) ∧
        (∀ i : Nat, lifecycleOpen (t.visitor i).lifecycle = true → (t.visitor i).closeMark = true) ∧
        (∀ i : Nat, lifecycleOpen (t.visitor i).lifecycle = false → t.visitor i = s.visitor i) ∧
        (∀ i : Nat, { t.visitor i with closeMark := false } =
          { s.visitor i with closeMark := false }) ∧
        { t.vtb with entries := s.vtb.entries } = s.vtb ∧
        t = doneAt r [] false
          [item "MARKED" (lifecycleCount s .attached + lifecycleCount s .closing : Nat)] []
          (((dropRequest .ship s).setVtb t.vtb).setRse t.rse)) ∧
    (∀ (v : Int) (n : Nat), ShipHead "RECORD_INTERVAL" r s → arg "MINUTES" r = some v →
      (n : Int) = max 0 (min 240 v) →
      exec (.recordInterval .ship) s = .next (doneAt r recordIntervalItems
        (decide (v < 0 ∨ 240 < v)) [item "MINUTES" n] []
        ((dropRequest .ship s).setRse { s.rse with
          interval := n
          intervalTimer := if n = 0 then none else some (n * 60000) }))) ∧
    (ShipHead "VOYAGE_START" r s →
      ∃ t : State, exec (.voyageStart .ship) s = .next t ∧
        (∀ i : Nat, (s.visitor i).lifecycle ≠ .free →
          t.visitor i = { s.visitor i with zonesCharged := 0 }) ∧
        (∀ i : Nat, (s.visitor i).lifecycle = .free → t.visitor i = s.visitor i) ∧
        { t.vtb with entries := s.vtb.entries } = s.vtb ∧
        t = doneAt r [] false [] [] ((dropRequest .ship s).setVtb t.vtb))

/-- RECORD_DRAIN brings COUNT into 1..16, moves the cursor to the head for a rewind, sends the records from the
cursor, and moves the cursor, and a limit that it passes, past them; no record leaves the queue. -/
def Obligations.DrainSendsFromCursor : Prop :=
  ∀ (v : Int) (c : BitVec 32) (r : Request) (s : State), ShipHead "RECORD_DRAIN" r s →
    arg "COUNT" r = some v →
    (arg "REWIND" r = none ∧ c = s.rcq.cursorSeq ∨ arg "REWIND" r = some 0 ∧ c = s.rcq.cursorSeq ∨
      arg "REWIND" r = some 1 ∧ c = headSeq s.rcq) →
    ∃ (t : State) (x : Reply), exec (.recordDrain .ship) s = .next t ∧ t.shi.reply = some x ∧
      x.status = .done ∧ x.adjusted = decide (v < 1 ∨ 16 < v) ∧
      x.records = (s.rcq.records.drop (c - headSeq s.rcq).toNat).take (max 1 (min 16 v)).toNat ∧
      x.items = [item "RECORD_COUNT" x.records.length, item "HELD" (held s.rcq),
        itemC "HEAD_SEQ" (headSeq s.rcq), itemC "NEXT_SEQ" s.rcq.nextSeq] ∧
      t.rcq.cursorSeq = c + BitVec.ofNat 32 x.records.length ∧
      t.rcq.limitSeq = (if (s.rcq.limitSeq - headSeq s.rcq).toNat <
          (t.rcq.cursorSeq - headSeq s.rcq).toNat then t.rcq.cursorSeq else s.rcq.limitSeq) ∧
      t.rcq.records = s.rcq.records ∧ t.rcq.nextSeq = s.rcq.nextSeq ∧
      t = { s with shi := t.shi, rcq := t.rcq }

/-- RECORD_RELEASE removes the records up to its sequence, clamped to those issued, and none for a sequence
behind the head; a cursor behind the new head moves to it. The release of the head record of an ATTACHED visitor, or
of a CLOSING one that the queue still names, adds its charge to SETTLED; that of the last record of a CLOSING visitor
makes its entry FREE, out of the credit notice list; no other entry changes. -/
def Obligations.ReleaseSettlesHeadRecord : Prop :=
  ∀ (q : BitVec 32) (r : Request) (s : State), ShipHead "RECORD_RELEASE" r s →
    arg "SEQ" r = some (q.toNat : Int) →
    (2 ^ 31 ≤ (q - headSeq s.rcq).toNat →
      exec (.recordRelease .ship) s = .next (doneAt r recordReleaseItems false
        [item "RELEASED" 0, itemC "HEAD_SEQ" (headSeq s.rcq), item "HELD" (held s.rcq)] []
        (dropRequest .ship s))) ∧
    (∀ (d m : Nat), d = (q - headSeq s.rcq).toNat → m = (s.rcq.limitSeq - headSeq s.rcq).toNat →
      d < 2 ^ 31 →
      ∃ (t : State) (x : Reply), exec (.recordRelease .ship) s = .next t ∧
        t.rcq = { s.rcq with
          records := s.rcq.records.drop (min (d + 1) m)
          cursorSeq := if (s.rcq.cursorSeq - headSeq s.rcq).toNat < min (d + 1) m then headSeq t.rcq
            else s.rcq.cursorSeq } ∧ t.shi.reply = some x ∧ x.status = .done ∧
        x.adjusted = decide (m < d + 1) ∧
        x.items = [item "RELEASED" (min (d + 1) m : Nat), itemC "HEAD_SEQ" (headSeq t.rcq),
          item "HELD" (held t.rcq)] ∧
        t = { s with shi := t.shi, vtb := t.vtb, rcq := t.rcq, rse := t.rse, ntu := t.ntu }) ∧
    (∀ (x : Record) (left : List Record), s.rcq.records = x :: left → q = x.seq →
      1 ≤ (s.rcq.limitSeq - x.seq).toNat →
      ((s.visitor x.index).lifecycle = .attached ∨
          (s.visitor x.index).lifecycle = .closing ∧ (∃ y ∈ left, y.index = x.index) →
        ∃ t : State, exec (.recordRelease .ship) s = .next t ∧ t.rcq.records = left ∧
          t.visitor x.index = { s.visitor x.index with
            settled := (s.visitor x.index).settled + (x.contents.charge + x.contents.feeCharged) } ∧
          (∀ j : Nat, j ≠ x.index → t.visitor j = s.visitor j) ∧ t.ntu = s.ntu ∧ t.rse = s.rse) ∧
      (TableLaw s → (s.visitor x.index).lifecycle = .closing → (∀ y ∈ left, y.index ≠ x.index) →
        ∃ t : State, exec (.recordRelease .ship) s = .next t ∧ t.rcq.records = left ∧
          t.visitor x.index = Visitor.freeEntry ∧
          (∀ j : Nat, j ≠ x.index → t.visitor j = s.visitor j) ∧
          t.ntu.creditList = s.ntu.creditList.filter (fun j => j != x.index)))

/-! ## Requests on visitors -/

/-- VISITOR_ADD that passes every check fills the FREE entry and makes it PROVISIONED. It is refused with
REFUSED_STATE for an entry that is not FREE before its tag is looked up, and with DUPLICATE for a tag already
mapped; a refusal changes no entry. -/
def Obligations.VisitorAddProvisionsOrRefuses : Prop :=
  ∀ (i : Fin 4096) (tag : Tag) (a : Fin 128) (b : Fin 8) (r : Request) (s : State),
    ShipHead "VISITOR_ADD" r s → arg "INDEX" r = some (i.val : Int) →
    arg "TAG" r = some (tag.toNat : Int) → tag ≠ 0 → arg "PARTNER" r = some (a.val : Int) →
    arg "PLAN" r = some (b.val : Int) →
    ((s.visitor i.val).lifecycle = .free → lookupTag s tag = none →
      ∃ (adjusted : Bool) (n : Nat) (l : Option Nat) (k : Nat),
        l = limitFrom (arg "LIMIT" r) ∧ k = lowMarkFrom l (arg "LOW_MARK" r) ∧
        (arg "ALLOWANCE" r = none → n = 0) ∧
        (∀ v : Int, arg "ALLOWANCE" r = some v → (n : Int) = max 0 (min (2 ^ 32 - 1) v)) ∧
        (arg "LIMIT" r = none → arg "LOW_MARK" r = none → arg "ALLOWANCE" r = none →
          adjusted = false) ∧
        exec (.visitorAdd .ship) s = .next (doneAt r visitorAddItems adjusted
          [item "ROAMING" (roamingCode (roamingNow s a)), item "CREDIT" (creditCode (creditOf l k 0))]
          [] ((dropRequest .ship s).setVisitor i.val { Visitor.freeEntry with
            lifecycle := .provisioned, tag := tag, partner := a, plan := b,
            roaming := roamingNow s a, credit := creditOf l k 0, limit := l, lowMark := k,
            allowance := n }))) ∧
    ((s.visitor i.val).lifecycle ≠ .free →
      exec (.visitorAdd .ship) s = .next (refusedAt r visitorAddItems .refusedState s)) ∧
    ((s.visitor i.val).lifecycle = .free → lookupTag s tag ≠ none →
      exec (.visitorAdd .ship) s = .next (refusedAt r visitorAddItems .duplicate s))

/-- VISITOR_REMOVE of a PROVISIONED entry frees it. Of an ATTACHED entry it closes the record with REMOVED:
with traffic and room the record is queued and the entry is CLOSING without marks; with the queue full it is
spilled, with no traffic nothing is queued, and the entry is then FREE unless the queue still holds a record
naming it. -/
def Obligations.VisitorRemoveClosesOrFrees : Prop :=
  ∀ (i : Fin 4096) (r : Request) (s : State), ShipHead "VISITOR_REMOVE" r s → TableLaw s →
    arg "INDEX" r = some (i.val : Int) →
    ((s.visitor i.val).lifecycle = .provisioned →
      ∃ t : State, exec (.visitorRemove .ship) s = .next t ∧ t.visitor i.val = Visitor.freeEntry ∧
        (∀ j : Nat, j ≠ i.val → t.visitor j = s.visitor j) ∧
        t = { s with shi := t.shi, vtb := t.vtb, rse := t.rse, ntu := t.ntu }) ∧
    (∀ o : OpenRecord, (s.visitor i.val).lifecycle = .attached →
      (s.visitor i.val).openRecord = some o →
      ∃ t : State, exec (.visitorRemove .ship) s = .next t ∧
        (∀ j : Nat, j ≠ i.val → t.visitor j = s.visitor j) ∧
        t = { s with shi := t.shi, vtb := t.vtb, rcq := t.rcq, rse := t.rse, ntu := t.ntu } ∧
        (holdsTraffic o = true → held s.rcq < 1024 →
          (t.visitor i.val).lifecycle = .closing ∧ (t.visitor i.val).reviewMark = false ∧
          (t.visitor i.val).closeMark = false ∧
          (t.visitor i.val).charged = (s.visitor i.val).charged ∧
          t.rcq.records = s.rcq.records ++
            [{ seq := s.rcq.nextSeq, index := i.val, tag := (s.visitor i.val).tag,
               reason := .removed, closeTime := s.cfu.clock, contents := o }]) ∧
        (holdsTraffic o = true → 1024 ≤ held s.rcq → t.rcq.records = s.rcq.records ∧
          t.rcq.spills = s.rcq.spills + 1 ∧
          (queuedFor s.rcq i.val = 0 → t.visitor i.val = Visitor.freeEntry) ∧
          (queuedFor s.rcq i.val ≠ 0 → (t.visitor i.val).lifecycle = .closing ∧
            (t.visitor i.val).spilled = (s.visitor i.val).spilled + (o.charge + o.feeCharged))) ∧
        (holdsTraffic o = false → t.rcq = s.rcq ∧
          (queuedFor s.rcq i.val = 0 → t.visitor i.val = Visitor.freeEntry) ∧
          (queuedFor s.rcq i.val ≠ 0 → (t.visitor i.val).lifecycle = .closing ∧
            (t.visitor i.val).charged = (s.visitor i.val).charged)))

/-- VISITOR_READ by INDEX, from the ship or a shore port, reports the entry and changes nothing but the
queue and the slot. -/
def Obligations.VisitorReadReports : Prop :=
  ∀ (i : Fin 4096) (port : Port) (r : Request) (s : State), headRequest s port = some r →
    r.name = nm "VISITOR_READ" → hasRepeat (r.items.map (fun x => x.name)) = false →
    portFree s port = true → arg "INDEX" r = some (i.val : Int) → arg "TAG" r = none →
    exec (.visitorRead port) s = .next (placeReply port
      { name := r.name, tag := r.tag, status := .done, adjusted := false,
        ignoredItem := setsAside visitorReadItems r, items := visitorItems s i.val, records := [] }
      (dropRequest port s))

/-- VISITOR_CREDIT, VISITOR_ALLOW and VISITOR_SETTLE on an entry that is not FREE write their figures and
nothing else. -/
def Obligations.VisitorFiguresAreSet : Prop :=
  ∀ (i : Fin 4096) (r : Request) (s : State), arg "INDEX" r = some (i.val : Int) →
    (s.visitor i.val).lifecycle ≠ .free →
    (∀ (v : Int) (l : Option Nat) (k : Nat), ShipHead "VISITOR_CREDIT" r s →
      arg "LIMIT" r = some v → l = limitFrom (some v) → k = lowMarkFrom l (arg "LOW_MARK" r) →
      exec (.visitorCredit .ship) s = .next (doneAt r visitorCreditItems
        (limitAdjusted (some v) || lowMarkAdjusted l (arg "LOW_MARK" r))
        [item "CREDIT" (creditCode (creditOf l k (s.visitor i.val).charged)),
         item "CHARGED" (s.visitor i.val).charged, item "LIMIT" (limitCode l), item "LOW_MARK" k] []
        ((dropRequest .ship s).setVisitor i.val { s.visitor i.val with
          limit := l, lowMark := k, credit := creditOf l k (s.visitor i.val).charged }))) ∧
    (∀ (v : Int) (n : Nat), ShipHead "VISITOR_ALLOW" r s → arg "ALLOWANCE" r = some v →
      (n : Int) = max 0 (min (2 ^ 32 - 1) v) →
      exec (.visitorAllow .ship) s = .next (doneAt r visitorAllowItems
        (decide (v < 0 ∨ 2 ^ 32 - 1 < v))
        [item "ALLOWANCE_BEFORE" (s.visitor i.val).allowance, item "ALLOWANCE" n] []
        ((dropRequest .ship s).setVisitor i.val { s.visitor i.val with allowance := n }))) ∧
    (ShipHead "VISITOR_SETTLE" r s →
      exec (.visitorSettle .ship) s = .next (doneAt r visitorSettleItems false
        [item "SETTLED" (s.visitor i.val).settled, item "SPILLED" (s.visitor i.val).spilled,
         item "CHARGED" ((s.visitor i.val).charged -
          ((s.visitor i.val).settled + (s.visitor i.val).spilled) : Nat)] []
        ((dropRequest .ship s).setVisitor i.val { s.visitor i.val with
          charged := (s.visitor i.val).charged -
            ((s.visitor i.val).settled + (s.visitor i.val).spilled)
          settled := 0, spilled := 0 })))

/-- The credit standing, and how LIMIT and LOW_MARK are read from their items. -/
def Obligations.CreditStandingRule : Prop :=
  (∀ lowMark charged : Nat,
    creditOf none lowMark charged = .clear ∧
    ∀ l : Nat,
      (l ≤ charged → creditOf (some l) lowMark charged = .exhausted) ∧
      (charged < l → lowMark ≤ charged → creditOf (some l) lowMark charged = .low) ∧
      (charged < l → charged < lowMark → creditOf (some l) lowMark charged = .clear)) ∧
  (limitFrom none = none ∧ limitFrom (some (-1)) = none ∧
    (∀ v : Int, v < -1 → limitFrom (some v) = some 0) ∧
    (∀ n : Nat, n ≤ 2 ^ 32 - 1 → limitFrom (some n) = some n) ∧
    (∀ n : Nat, 2 ^ 32 - 1 < n → limitFrom (some n) = some (2 ^ 32 - 1))) ∧
  (∀ l : Option Nat,
    lowMarkFrom l none = l.getD 0 ∧ (∀ v : Int, v < 0 → lowMarkFrom l (some v) = 0) ∧
    (∀ n : Nat, lowMarkFrom l (some n) = min n (l.getD (2 ^ 32 - 1))))

/-! ## Requests on tables, paths and settings -/

/-- TARIFF_LOAD writes one row of the standby bank, its PRICE and FEE clamped, and TARIFF_SWITCH makes the
standby bank active and review-marks every visitor that is not FREE; BANK is absent or names the standby
bank. -/
def Obligations.TariffLoadAndSwitch : Prop :=
  ∀ (r : Request) (s : State),
    (arg "BANK" r = none ∨ arg "BANK" r = some (bankCode s.rtu.activeBank.other : Int)) →
    (∀ (a : Region) (b : Fin 8) (price fee : Int), ShipHead "TARIFF_LOAD" r s →
      arg "REGION" r = some (a.val : Int) → arg "PLAN" r = some (b.val : Int) →
      arg "PRICE" r = some price → arg "FEE" r = some fee →
      ∃ t : State, exec (.tariffLoad .ship) s = .next t ∧ t.rtu.activeBank = s.rtu.activeBank ∧
        bankRows t.rtu s.rtu.activeBank = bankRows s.rtu s.rtu.activeBank ∧
        (bankRows t.rtu s.rtu.activeBank.other)[a][b] =
          { price := (max 0 (min 65535 price)).toNat, fee := (max 0 (min 4095 fee)).toNat } ∧
        (∀ (x : Region) (y : Fin 8), (x, y) ≠ (a, b) →
          (bankRows t.rtu s.rtu.activeBank.other)[x][y] =
            (bankRows s.rtu s.rtu.activeBank.other)[x][y]) ∧
        t.rtu.plans = s.rtu.plans ∧ t.rtu.partners = s.rtu.partners ∧
        t = { s with shi := t.shi, rtu := t.rtu }) ∧
    (ShipHead "TARIFF_SWITCH" r s →
      ∃ t : State, exec (.tariffSwitch .ship) s = .next t ∧
        t.rtu = { s.rtu with activeBank := s.rtu.activeBank.other } ∧
        (∀ i : Nat, (t.visitor i).lifecycle ≠ .free → (t.visitor i).reviewMark = true) ∧
        (∀ i : Nat, { t.visitor i with reviewMark := false } =
          { s.visitor i with reviewMark := false }) ∧
        t = { s with shi := t.shi, vtb := t.vtb, rtu := t.rtu, rse := t.rse })

/-- PLAN_LOAD writes one plan entry and marks every visitor; PARTNER_LOAD writes one partner entry, each absent
item left as it stands, and marks the visitors of that partner only. -/
def Obligations.PlanAndPartnerLoad : Prop :=
  ∀ (r : Request) (s : State),
    (∀ n : Fin 8, ShipHead "PLAN_LOAD" r s → arg "PLAN" r = some (n.val : Int) →
      ∃ t : State, exec (.planLoad .ship) s = .next t ∧
        t.rtu = { s.rtu with
          plans := s.rtu.plans.set n
            { terrestrial := clampedBool s.rtu.plans[n].terrestrial (arg "TERRESTRIAL" r)
              satellite := clampedBool s.rtu.plans[n].satellite (arg "SATELLITE" r) } } ∧
        (∀ i : Nat, (t.visitor i).lifecycle ≠ .free → (t.visitor i).reviewMark = true) ∧
        (∀ i : Nat, { t.visitor i with reviewMark := false } =
          { s.visitor i with reviewMark := false }) ∧
        t = { s with shi := t.shi, vtb := t.vtb, rtu := t.rtu, rse := t.rse }) ∧
    (∀ n : Fin 128, ShipHead "PARTNER_LOAD" r s → arg "PARTNER" r = some (n.val : Int) →
      (∀ k : Region, policyBad r k = false) →
      ∃ (t : State) (x : Partner), exec (.partnerLoad .ship) s = .next t ∧
        t.rtu = { s.rtu with partners := s.rtu.partners.set n x } ∧
        (arg "MULT" r = none → x.mult = s.rtu.partners[n].mult) ∧
        (∀ v : Int, arg "MULT" r = some v → (x.mult : Int) = max 256 (min 1023 v)) ∧
        (∀ k : Region, argK "POLICY_" k.val r = none → x.policy[k] = s.rtu.partners[n].policy[k]) ∧
        (∀ (k : Region) (y : Roaming), argK "POLICY_" k.val r = some (roamingCode y : Int) →
          x.policy[k] = y) ∧
        (∀ i : Nat, (t.visitor i).lifecycle ≠ .free → (t.visitor i).partner = n →
          (t.visitor i).reviewMark = true) ∧
        (arg "HOME_CODE" r = none → x.homeCode = s.rtu.partners[n].homeCode) ∧
        (∀ v : Int, arg "HOME_CODE" r = some v → (x.homeCode : Int) = max 0 (min 16777215 v)) ∧
        (∀ i : Nat, (s.visitor i).partner ≠ n → t.visitor i = s.visitor i) ∧
        t = { s with shi := t.shi, vtb := t.vtb, rtu := t.rtu, rse := t.rse })

/-- PATH_CONFIG writes the path's configuration, each present item clamped to its range, PRESCALE brought to 1, 4 or
16, and each absent one left, and review-marks every visitor exactly when the path is active and its S changes.
PATH_ENABLE of a DISABLED or TEST path puts it into service as the port's carrier has it, and changes nothing on a
path already enabled. That a PROBE still due when PATH_ENABLE leaves TEST stays due is the model's reading (log
entry 13). -/
def Obligations.PathConfigAndEnable : Prop :=
  (∀ (r : Request) (c : PathConfig),
    (arg "KIND" r = none → (configWritten r c).kind = c.kind) ∧
    (arg "KIND" r = some 0 → (configWritten r c).kind = .terrestrial) ∧
    (arg "KIND" r = some 1 → (configWritten r c).kind = .satellite) ∧
    (∀ v : Int, kindBad (some v) = true ↔ v ≠ 0 ∧ v ≠ 1) ∧
    (configWritten r c).surcharge = clampedNat 0 1023 c.surcharge (arg "S" r) ∧
    (configWritten r c).settle = clampedNat 1 255 c.settle (arg "SETTLE" r) ∧
    (arg "PRESCALE" r = none → (configWritten r c).prescale = c.prescale) ∧
    (∀ v : Int, arg "PRESCALE" r = some v →
      (v ≤ 1 → (configWritten r c).prescale = 1) ∧
      (2 ≤ v → v ≤ 4 → (configWritten r c).prescale = 4) ∧
      (5 ≤ v → (configWritten r c).prescale = 16)) ∧
    (configWritten r c).postscale = clampedNat 1 16 c.postscale (arg "POSTSCALE" r) ∧
    (configWritten r c).probeTimeout = clampedNat 1 8 c.probeTimeout (arg "PROBE_TIMEOUT" r) ∧
    (configWritten r c).surveyPass = clampedNat 1 8 c.surveyPass (arg "SURVEY_PASS" r) ∧
    (configWritten r c).surveyLimit = clampedNat 1 4095 c.surveyLimit (arg "SURVEY_LIMIT" r) ∧
    (configWritten r c).drain = clampedNat 10 2550 c.drain (arg "DRAIN" r)) ∧
  ∀ (p : Path) (r : Request) (s : State), arg "PATH" r = some (p.num : Int) →
    (ShipHead "PATH_CONFIG" r s → kindBad (arg "KIND" r) = false →
      ∃ t : State, exec (.pathConfig .ship) s = .next t ∧
        t.path p = { s.path p with config := configWritten r (s.path p).config } ∧
        (∀ q : Path, q ≠ p → t.path q = s.path q) ∧
        (s.psl.active ≠ some p ∨
            (configWritten r (s.path p).config).surcharge = (s.path p).config.surcharge →
          t.vtb = s.vtb ∧ t.rse = s.rse) ∧
        (s.psl.active = some p →
          (configWritten r (s.path p).config).surcharge ≠ (s.path p).config.surcharge →
          ∀ i : Nat, (t.visitor i).lifecycle ≠ .free → (t.visitor i).reviewMark = true) ∧
        (∀ i : Nat, { t.visitor i with reviewMark := false } =
          { s.visitor i with reviewMark := false }) ∧
        t = { s with shi := t.shi, vtb := t.vtb, rse := t.rse, psv := t.psv }) ∧
    (ShipHead "PATH_ENABLE" r s → (s.path p).state = .disabled →
      exec (.pathEnable .ship) s = .next (doneAt r pathItem false
        [item "STATE" (if (s.port p).carrier then 2 else 1)] []
        ((dropRequest .ship s).setPath p
          (if (s.port p).carrier then
            { s.path p with
              state := .settling, settleTimer := some ((s.path p).config.settle * 100) }
          else { s.path p with state := .down })))) ∧
    (ShipHead "PATH_ENABLE" r s → (s.path p).state = .test →
      ∃ t : State, exec (.pathEnable .ship) s = .next t ∧
        (t.path p).state = (if (s.port p).carrier then .settling else .down) ∧
        (t.path p).outstanding = [] ∧ (t.path p).probeTimer = none ∧
        (t.path p).losses = (s.path p).losses ∧
        (t.path p).surveyRecord = (s.path p).surveyRecord ∧
        (∀ q : Path, q ≠ p → t.path q = s.path q) ∧
        t = { s with shi := t.shi, psv := t.psv }) ∧
    (ShipHead "PATH_ENABLE" r s → (s.path p).state ≠ .disabled → (s.path p).state ≠ .test →
      exec (.pathEnable .ship) s = .next (doneAt r pathItem false
        [item "STATE" (pathStateCode (s.path p).state)] [] (dropRequest .ship s)))

/-- PATH_SURVEY on an UP path starts a survey, defers it while a recovery gap runs, or answers BUSY with one in
flight; in any other state it is refused. PATH_TEST takes a DISABLED or DOWN path to TEST with its probe timer
started and its survey record cleared, and is refused from SETTLING to UP. -/
def Obligations.PathSurveyAndTest : Prop :=
  ∀ (p : Path) (r : Request) (s : State), arg "PATH" r = some (p.num : Int) →
    (ShipHead "PATH_SURVEY" r s → (s.path p).state = .up → surveyInFlight (s.path p) = false →
      (s.path p).gap = none →
      exec (.pathSurvey .ship) s = .next (doneAt r pathItem false [item "DEFERRED" 0] []
        (((dropRequest .ship s).setPath p { s.path p with
          survey := .inFlight
            { entries := List.replicate 8 .unsent, dueCount := 1, spacing := some 10 } }).setPort p
          { s.port p with due := (s.port p).due ++ [.surveyProbe 0] }))) ∧
    (ShipHead "PATH_SURVEY" r s → (s.path p).state = .up → surveyInFlight (s.path p) = false →
      (s.path p).gap ≠ none →
      exec (.pathSurvey .ship) s = .next (doneAt r pathItem false [item "DEFERRED" 1] []
        ((dropRequest .ship s).setPath p { s.path p with survey := .deferred }))) ∧
    (ShipHead "PATH_SURVEY" r s → (s.path p).state = .up → surveyInFlight (s.path p) = true →
      exec (.pathSurvey .ship) s = .next (refusedAt r pathItem .busy s)) ∧
    (ShipHead "PATH_SURVEY" r s → (s.path p).state ≠ .up →
      exec (.pathSurvey .ship) s = .next (refusedAt r pathItem .refusedState s)) ∧
    (ShipHead "PATH_TEST" r s → ((s.path p).state = .disabled ∨ (s.path p).state = .down) →
      exec (.pathTest .ship) s = .next (doneAt r pathItem false [item "STATE" 6] []
        ((dropRequest .ship s).setPath p { s.path p with
          state := .test, outstanding := [],
          surveyRecord := { echoed := 0, minRtt := 0, maxRtt := 0, pass := false },
          probeTimer :=
            some (10 * (s.path p).config.prescale * (s.path p).config.postscale) }))) ∧
    (ShipHead "PATH_TEST" r s → (s.path p).state = .test →
      exec (.pathTest .ship) s = .next (doneAt r pathItem false [item "STATE" 6] []
        (dropRequest .ship s))) ∧
    (ShipHead "PATH_TEST" r s → ((s.path p).state = .settling ∨ (s.path p).state = .opening ∨
        (s.path p).state = .surveying ∨ (s.path p).state = .up) →
      exec (.pathTest .ship) s = .next (refusedAt r pathItem .refusedState s))

/-- SELECT_CONFIG writes each present setting, clamped to its range, leaves each absent one, and clears the count
when CONFIRM is present; PATH_PIN sets or clears PIN without a swap; RESEQ_CONFIG writes GAP_HOLD for the next start
of the gap timer, and its RESYNC in LOCKED delivers every held packet and returns the resequencer to HUNT. -/
def Obligations.SelectorAndResequencerSettings : Prop :=
  (∀ (r : Request) (x : SelectSettings), settingsWritten r x =
    { lossWeight := ((arg "LOSS_WEIGHT" r).map (fun v => (max 0 (min 255 v)).toNat)).getD x.lossWeight
      rankStep := ((arg "RANK_STEP" r).map (fun v => (max 0 (min 255 v)).toNat)).getD x.rankStep
      hysteresis := ((arg "HYSTERESIS" r).map (fun v => (max 0 (min 1023 v)).toNat)).getD x.hysteresis
      confirm := ((arg "CONFIRM" r).map (fun v => (max 1 (min 8 v)).toNat)).getD x.confirm
      holdDown := ((arg "HOLD_DOWN" r).map (fun v => (max 1 (min 255 v)).toNat)).getD x.holdDown
      period := ((arg "PERIOD" r).map (fun v => (max 100 (min 2550 v)).toNat)).getD x.period }) ∧
  ∀ (r : Request) (s : State),
    (ShipHead "SELECT_CONFIG" r s →
      exec (.selectConfig .ship) s = .next (doneAt r selectConfigItems (settingsAdjusted r)
        (settingsItems (settingsWritten r s.psl.settings)) []
        ((dropRequest .ship s).setPsl { s.psl with
          settings := settingsWritten r s.psl.settings
          confirmCount := if (arg "CONFIRM" r).isSome then 0 else s.psl.confirmCount
          confirmFor := if (arg "CONFIRM" r).isSome then none else s.psl.confirmFor }))) ∧
    (∀ pin : Option Path, ShipHead "PATH_PIN" r s → arg "PATH" r = some (pathCode pin) →
      exec (.pathPin .ship) s = .next (doneAt r pathItem false
        [item "PIN" (pathCode pin), item "ACTIVE" (pathCode s.psl.active)] []
        ((dropRequest .ship s).setPsl { s.psl with
          pin := pin
          confirmCount := if s.psl.pin = pin then s.psl.confirmCount else 0
          confirmFor := if s.psl.pin = pin then s.psl.confirmFor else none }))) ∧
    (ShipHead "RESEQ_CONFIG" r s →
      (arg "RESYNC" r = none ∨ arg "RESYNC" r = some 0 ∨ s.drs.locked = false →
        exec (.reseqConfig .ship) s = .next (doneAt r reseqConfigItems
          (outside 1 255 (arg "GAP_HOLD" r) || outsideBool (arg "RESYNC" r))
          [item "GAP_HOLD" (clampedNat 1 255 s.drs.gapHold (arg "GAP_HOLD" r)),
           item "DRS_STATE" (boolCode s.drs.locked), itemC "NEXT_EXPECTED" s.drs.nextExpected] []
          ((dropRequest .ship s).setDrs { s.drs with
            gapHold := clampedNat 1 255 s.drs.gapHold (arg "GAP_HOLD" r) }))) ∧
      (arg "RESYNC" r = some 1 → s.drs.locked = true →
        ∃ t : State, exec (.reseqConfig .ship) s = .next t ∧ t.drs.locked = false ∧
          t.drs.nextExpected = 0 ∧ t.drs.slots = [] ∧ t.drs.gapTimer = none ∧
          t.drs.gapHold = clampedNat 1 255 s.drs.gapHold (arg "GAP_HOLD" r) ∧
          t.drs.resyncs = s.drs.resyncs + 1 ∧
          t.drs.delivered = s.drs.delivered + BitVec.ofNat 32 s.drs.slots.length ∧
          t = { s with
            shi := t.shi, shore := t.shore, freeBuffers := t.freeBuffers, vtb := t.vtb,
            rcq := t.rcq, rse := t.rse, drs := t.drs, cvu := t.cvu, ntu := t.ntu }))

/-- CELL_CONFIG writes the configuration of one cell head, makes one that it disables ABSENT at level 0, leaves
the service of one it does not disable, and leaves every level within the law. GRANT_CONFIG writes its settings
and leaves the running timers. -/
def Obligations.CellAndGrantConfig : Prop :=
  ∀ (r : Request) (s : State),
    (∀ c : Cell, ShipHead "CELL_CONFIG" r s → arg "CELL" r = some (c.val : Int) →
      backupBad (arg "BACKUP" r) = false →
      ∃ t : State, exec (.cellConfig .ship) s = .next t ∧
        (t.cell c).enable = clampedBool (s.cell c).enable (arg "ENABLE" r) ∧
        (t.cell c).base = clampedNat 0 63 (s.cell c).base (arg "BASE" r) ∧
        (t.cell c).boost = clampedNat 0 63 (s.cell c).boost (arg "BOOST" r) ∧
        (t.cell c).join = clampedNat 1 8 (s.cell c).join (arg "JOIN" r) ∧
        (arg "BACKUP" r = none → (t.cell c).backup = (s.cell c).backup) ∧
        (∀ b : Option Cell, arg "BACKUP" r = some (cellCode b) →
          (t.cell c).backup = if b = some c then none else b) ∧
        ((s.cell c).enable = true → (t.cell c).enable = false →
          (t.cell c).state = .absent ∧ (t.cell c).hbTimer = none ∧ (t.cell c).joinCount = 0 ∧
          (t.cell c).activeLevel = 0 ∧
          ((s.cell c).state = .serving → 0 < (s.cell c).activeLevel →
            (t.cell c).grantOwed = true)) ∧
        ((s.cell c).enable = false ∨ (t.cell c).enable = true →
          (t.cell c).state = (s.cell c).state ∧ (t.cell c).hbTimer = (s.cell c).hbTimer ∧
          (t.cell c).joinCount = (s.cell c).joinCount) ∧
        CoverageLaw t ∧ (∀ d : Cell, d ≠ c → (t.cell d).state = (s.cell d).state) ∧
        t = { s with shi := t.shi, cvu := t.cvu }) ∧
    (ShipHead "GRANT_CONFIG" r s →
      exec (.grantConfig .ship) s = .next (doneAt r grantConfigItems
        (outside 2 255 (arg "HB_TIMEOUT" r) || outside 100 2550 (arg "GRANT_PERIOD" r))
        [item "HB_TIMEOUT" (clampedNat 2 255 s.cvu.hbTimeout (arg "HB_TIMEOUT" r)),
         item "GRANT_PERIOD" (clampedNat 100 2550 s.cvu.grantPeriod (arg "GRANT_PERIOD" r))] []
        ((dropRequest .ship s).setCvu { s.cvu with
          hbTimeout := clampedNat 2 255 s.cvu.hbTimeout (arg "HB_TIMEOUT" r)
          grantPeriod := clampedNat 100 2550 s.cvu.grantPeriod (arg "GRANT_PERIOD" r) })))

/-! ## The Control Frame Unit and the Notice Unit -/

/-- The voyage clock rises by one, and CLOCK_SET replaces it, clamped to 32 bits, and starts its tick count
again. -/
def Obligations.VoyageClockRisesAndIsSet : Prop :=
  ∀ (r : Request) (s : State),
    exec .voyageClockRise s =
      .next (s.setCfu { s.cfu with clock := s.cfu.clock + 1, clockTicks := 0 }) ∧
    (∀ (v : Int) (c : BitVec 32), ShipHead "CLOCK_SET" r s → arg "SECONDS" r = some v →
      (c.toNat : Int) = max 0 (min (2 ^ 32 - 1) v) →
      exec (.clockSet .ship) s = .next (doneAt r clockSetItems (decide (v < 0 ∨ 2 ^ 32 - 1 < v))
        [itemC "CLOCK_BEFORE" s.cfu.clock, itemC "CLOCK" c] []
        ((dropRequest .ship s).setCfu { s.cfu with clock := c, clockTicks := 0 })))

/-- STATUS_READ reports the summary and the items of its group, an absent GROUP read as 0; from the ship port it
then clears every LOST_LATCH, and from a shore port it leaves them set. The item names of group 33 (log entry 8),
that REQUEST_QUEUE leaves out the request being executed (log entry 15), and that COST_n is 65535 with no computation
standing (log entry 25) are the model's own. -/
def Obligations.StatusReadAndLostLatch : Prop :=
  ∀ (g : Fin 34) (port : Port) (r : Request) (s : State), headRequest s port = some r →
    portFree s port = true → r.name = nm "STATUS_READ" →
    hasRepeat (r.items.map (fun x => x.name)) = false →
    (arg "GROUP" r).getD 0 = (g.val : Int) →
    ∃ t : State, exec (.statusRead port) s = .next t ∧
      t = placeReply port
        { name := r.name, tag := r.tag, status := .done, adjusted := false,
          ignoredItem := setsAside statusReadItems r,
          items := summaryItems s ++ groupItems (dropRequest port s) g.val, records := [] }
        ((dropRequest port s).setPsv t.psv) ∧
      (port = .ship → ∀ p : Path, t.path p = { s.path p with lostLatch := false }) ∧
      (port ≠ .ship → t.psv = s.psv)

/-- NOTICE_ARM writes ARMED and NOTICE_CLEAR clears PENDING of the sources named, CREDIT's only with the list
empty and no overflow; no other flag changes. CREDIT_LIST_READ returns and removes the head of the credit
notice list, clears the overflow flag, and leaves CREDIT not pending when the list is empty. Besides these, each takes
its request from the queue, places its reply, and changes nothing. -/
def Obligations.NoticeRequestsWriteFlags : Prop :=
  ∀ (r : Request) (s : State),
    (ShipHead "NOTICE_ARM" r s →
      ∃ t : State, exec (.noticeArm .ship) s = .next t ∧
        (∀ x : Source, noticeGet t.ntu x =
          { noticeGet s.ntu x with
            armed := clampedBool (noticeGet s.ntu x).armed (sourceItem r x) }) ∧
        t.ntu.noticeSeq = s.ntu.noticeSeq ∧ t.ntu.surveyPath = s.ntu.surveyPath ∧
        t.ntu.creditList = s.ntu.creditList ∧ t.ntu.creditOverflow = s.ntu.creditOverflow ∧
        t.ntu.creditDrops = s.ntu.creditDrops ∧
        t = doneAt r noticeNames (sourcesAdjusted r)
          [item "PENDING" (pendingSet t.ntu), item "ARMED" (armedSet t.ntu)] []
          ((dropRequest .ship s).setNtu t.ntu)) ∧
    (ShipHead "NOTICE_CLEAR" r s →
      ∃ t : State, exec (.noticeClear .ship) s = .next t ∧
        (∀ x : Source, noticeGet t.ntu x =
          { noticeGet s.ntu x with
            pending := (noticeGet s.ntu x).pending &&
              !(clampedBool false (sourceItem r x) &&
                (x != .credit || (s.ntu.creditList.isEmpty && !s.ntu.creditOverflow))) }) ∧
        t.ntu.noticeSeq = s.ntu.noticeSeq ∧ t.ntu.surveyPath = s.ntu.surveyPath ∧
        t.ntu.creditList = s.ntu.creditList ∧ t.ntu.creditOverflow = s.ntu.creditOverflow ∧
        t.ntu.creditDrops = s.ntu.creditDrops ∧
        t = doneAt r noticeNames (sourcesAdjusted r)
          [item "PENDING" (pendingSet t.ntu), item "ARMED" (armedSet t.ntu)] []
          ((dropRequest .ship s).setNtu t.ntu)) ∧
    (∀ n : Nat, ShipHead "CREDIT_LIST_READ" r s →
      (n : Int) = max 1 (min 16 ((arg "COUNT" r).getD 16)) →
      ∃ t : State, exec (.creditListRead .ship) s = .next t ∧
        t.ntu.creditList = s.ntu.creditList.drop n ∧ t.ntu.creditOverflow = false ∧
        t.ntu.creditDrops = s.ntu.creditDrops ∧ t.ntu.noticeSeq = s.ntu.noticeSeq ∧
        t.ntu.surveyPath = s.ntu.surveyPath ∧
        (s.ntu.creditList.length ≤ n → t.ntu.credit = { s.ntu.credit with pending := false }) ∧
        (n < s.ntu.creditList.length → t.ntu.credit = s.ntu.credit) ∧
        (∀ x : Source, x ≠ .credit → noticeGet t.ntu x = noticeGet s.ntu x) ∧
        t = doneAt r creditListReadItems (outside 1 16 (arg "COUNT" r))
          ([item "RETURNED" (min n s.ntu.creditList.length : Nat),
            item "REMAINING" (s.ntu.creditList.length - n : Nat),
            item "OVERFLOW" (boolCode s.ntu.creditOverflow), itemC "CREDIT_DROPS" s.ntu.creditDrops] ++
            creditReadItems s (s.ntu.creditList.take n)) []
          ((dropRequest .ship s).setNtu t.ntu))

/-- A request with an unknown name from the ship port is answered MALFORMED, with its fault recorded and
CONTROL_FAULT pending. From a shore port every request but STATUS_READ and VISITOR_READ, one with an unknown
name among them, is answered NOT_PERMITTED and changes nothing else. -/
def Obligations.UnknownAndForeignRequests : Prop :=
  ∀ (r : Request) (s : State),
    (headRequest s .ship = some r → portFree s .ship = true → r.name ∉ requestNames →
      ∃ t : State, exec (.unknownRequest .ship) s = .next t ∧
        t.shi.reply = some {
          name := r.name, tag := r.tag, status := .malformed, adjusted := false,
          ignoredItem := false, items := [], records := [] } ∧
        t.cfu = { s.cfu with
          faults := s.cfu.faults + 1
          faultRecord :=
            { port := .ship, tag := r.tag, name := r.name, reason := .unknownRequest } } ∧
        t.ntu.controlFault.pending = true ∧
        (∀ x : Source, x ≠ .controlFault → noticeGet t.ntu x = noticeGet s.ntu x) ∧
        t = { s with shi := t.shi, cfu := t.cfu, ntu := t.ntu }) ∧
    (∀ p : Path, headRequest s (.shore p) = some r → portFree s (.shore p) = true →
      (∀ e ∈ shipOnly p, r.name = nm e.1 →
        exec e.2 s = .next (placeReply (.shore p) (plainReply r .notPermitted false)
          (dropRequest (.shore p) s))) ∧
      (r.name ∉ requestNames →
        exec (.unknownRequest (.shore p)) s = .next (placeReply (.shore p)
          (plainReply r .notPermitted false) (dropRequest (.shore p) s))))

/-! ## Restart -/

/-- PART_RESTART up to its sixth stage: notices cleared and disarmed; held packets back in the pool and the
resequencer in HUNT; each path cleaned up, DISABLED, or DOWN with LOST_LATCH and then SETTLING where carrier stands;
no active path, pin, candidate, costs, hold-down or drain window, with every visitor marked; the cell heads ABSENT
at level 0; the zone's candidate cleared and the position timer started again while FRESH. Every table, the record
queue and the money are kept. -/
def Obligations.PartRestartStages : Prop :=
  ∀ (r : Request) (s : State), ShipHead "PART_RESTART" r s → BufferLaw s →
    ∃ t : State, exec (.partRestart .ship) s = .next t ∧ t.freeBuffers = 3072 ∧ t.uplinkSeq = 0 ∧
      (∀ p : Path, (t.port p).txQueue = [] ∧ (t.path p).state ≠ .up ∧ (t.path p).gap = none) ∧
      (∀ p : Path, t.port p = { s.port p with
        txQueue := []
        due := if (s.path p).state = .disabled then (s.port p).due.filter (fun d => !isPathSwap d)
          else [] }) ∧
      (∀ p : Path, (s.path p).state = .disabled → t.path p = { s.path p with gap := none }) ∧
      (∀ p : Path, (s.path p).state = .test → t.path p = { s.path p with
        state := .disabled, settleTimer := none, openTimer := none, probeTimer := none
        idleTimer := none, gap := none, outstanding := [], survey := .idle }) ∧
      (∀ p : Path, (s.path p).state ≠ .disabled → (s.path p).state ≠ .test →
        t.path p = { s.path p with
          state := if (s.port p).carrier then .settling else .down
          settleTimer := if (s.port p).carrier then some ((s.path p).config.settle * 100) else none
          lostLatch := true, openTimer := none, probeTimer := none, idleTimer := none, gap := none
          outstanding := [], survey := .idle }) ∧
      t.shi.egress = [] ∧
      t.drs = { s.drs with locked := false, nextExpected := 0, slots := [], gapTimer := none } ∧
      t.psl = { s.psl with
        active := none, pin := none, candidate := none, confirmFor := none, confirmCount := 0
        costs := { sp0 := none, sp1 := none, sp2 := none, sp3 := none }
        drain := { sp0 := none, sp1 := none, sp2 := none, sp3 := none }
        holdDown := none, period := some s.psl.settings.period } ∧
      (∀ c : Cell, t.cell c = { s.cell c with
        state := .absent, hbTimer := none, joinCount := 0, target := 0, pendingLevel := 0
        activeLevel := 0, reportedLevel := 0, grantOwed := false }) ∧
      t.cvu = { s.cvu with cells := t.cvu.cells, grantTimer := some s.cvu.grantPeriod } ∧
      t.znu = { s.znu with
        candidate := none, candidateCount := 0
        positionTimer :=
          if s.znu.positionState = .fresh then some (s.znu.timeout * 1000) else none } ∧
      (∀ x : Source, noticeGet t.ntu x =
        { noticeGet s.ntu x with pending := false, armed := false }) ∧
      t.ntu.creditList = [] ∧ t.ntu.creditOverflow = false ∧
      t.ntu.creditDrops = s.ntu.creditDrops ∧ t.ntu.noticeSeq = s.ntu.noticeSeq ∧
      t.ntu.surveyPath = s.ntu.surveyPath ∧
      t.cfu = { s.cfu with restarts := s.cfu.restarts + 1, restart := t.cfu.restart } ∧
      t.cfu.restart = some { nextIndex := 0, tag := r.tag, ignoredItem := setsAside [] r
                             queued := 0, spilled := 0 } ∧
      t.shi = { s.shi with requests := s.shi.requests.tail, egress := [] } ∧
      t.shi.reply = none ∧ t.rtu = s.rtu ∧ t.rcq = s.rcq ∧ t.znu.zones = s.znu.zones ∧
      (∀ i : Nat, { t.visitor i with reviewMark := false } =
        { s.visitor i with reviewMark := false }) ∧
      (∀ i : Nat, (t.visitor i).lifecycle ≠ .free → (t.visitor i).reviewMark = true) ∧
      { t.vtb with entries := s.vtb.entries } = s.vtb ∧
      { t.rse with running := false, runs := 0 } = { s.rse with running := false, runs := 0 } ∧
      t.clocks = s.clocks ∧ t.pending = s.pending

/-- The restart's pass: the step of a PROVISIONED entry evaluates its ROAMING and clears its marks, the step of an
entry with an open record leaves it a new record with the current snapshot and no marks, and the end of the pass
starts the interval timer and places the reply. A record that agrees with the conditions closes with RESTART, and is
queued or spilled and counted so; one that differs has closed in its review, with the review's reason, and the empty
record after it is counted nowhere: the model's reading (log entry 10). -/
def Obligations.RestartPassAndEnd : Prop :=
  ∀ (x : RestartRun) (s : State), s.cfu.restart = some x →
    (∀ i : Nat, nextRestartEntry x.nextIndex s = some i → (s.visitor i).lifecycle = .provisioned →
      (s.visitor i).openRecord = none →
      ∃ t : State, exec .restartEntryStep s = .next t ∧
        t.visitor i = { s.visitor i with
          roaming := roamingNow s (s.visitor i).partner, reviewMark := false, closeMark := false } ∧
        (∀ j : Nat, j ≠ i → t.visitor j = s.visitor j) ∧
        t.cfu.restart = some { x with nextIndex := i + 1 } ∧
        t.rse.reviews = s.rse.reviews + 1 ∧
        t = { s with vtb := t.vtb, rse := t.rse, cfu := t.cfu }) ∧
    (∀ (i : Nat) (o : OpenRecord), nextRestartEntry x.nextIndex s = some i →
      lifecycleOpen (s.visitor i).lifecycle = true → (s.visitor i).openRecord = some o →
      ∃ t : State, exec .restartEntryStep s = .next t ∧
        (t.visitor i).openRecord = some
          (openNow s { s.visitor i with roaming := roamingNow s (s.visitor i).partner }) ∧
        (t.visitor i).reviewMark = false ∧ (t.visitor i).closeMark = false ∧
        (t.visitor i).lifecycle = (s.visitor i).lifecycle ∧
        (t.visitor i).charged = (s.visitor i).charged ∧
        (∀ j : Nat, j ≠ i → t.visitor j = s.visitor j) ∧
        t.cfu.restart.map (fun y => y.nextIndex) = some (i + 1) ∧
        t = { s with vtb := t.vtb, rcq := t.rcq, rse := t.rse, cfu := t.cfu, ntu := t.ntu }) ∧
    (∀ (i : Nat) (o : OpenRecord) (v : Visitor), nextRestartEntry x.nextIndex s = some i →
      lifecycleOpen (s.visitor i).lifecycle = true → (s.visitor i).openRecord = some o →
      v = { s.visitor i with roaming := roamingNow s (s.visitor i).partner } →
      (o.zone = s.znu.current → o.path = s.psl.active → o.priceEff = priceNow s v →
        (holdsTraffic o = true → held s.rcq < 1024 →
          ∃ t : State, exec .restartEntryStep s = .next t ∧
            t.rcq = { s.rcq with
              nextSeq := s.rcq.nextSeq + 1
              records := s.rcq.records ++
                [{ seq := s.rcq.nextSeq, index := i, tag := (s.visitor i).tag, reason := .restart
                   closeTime := s.cfu.clock, contents := o }] } ∧
            t.cfu = { s.cfu with restart := some { x with
              nextIndex := i + 1, queued := x.queued + 1 } }) ∧
        (holdsTraffic o = true → 1024 ≤ held s.rcq →
          ∃ t : State, exec .restartEntryStep s = .next t ∧
            t.rcq = { s.rcq with spills := s.rcq.spills + 1 } ∧
            (t.visitor i).spilled = (s.visitor i).spilled + o.charge + o.feeCharged ∧
            t.ntu.recordSpill.pending = true ∧
            t.cfu = { s.cfu with restart := some { x with
              nextIndex := i + 1, spilled := x.spilled + 1 } }) ∧
        (holdsTraffic o = false →
          ∃ t : State, exec .restartEntryStep s = .next t ∧ t.rcq = s.rcq ∧
            t.cfu = { s.cfu with restart := some { x with nextIndex := i + 1 } })) ∧
      (∀ why : CloseReason,
        (o.zone ≠ s.znu.current ∧ why = .zone ∨
          o.zone = s.znu.current ∧ o.path ≠ s.psl.active ∧ why = .path ∨
          o.zone = s.znu.current ∧ o.path = s.psl.active ∧ o.priceEff ≠ priceNow s v ∧
            why = .tariff) →
        ∃ t : State, exec .restartEntryStep s = .next t ∧
          t.rcq = (closeRecord i why s).1.rcq ∧
          t.cfu = { s.cfu with restart := some { x with nextIndex := i + 1 } })) ∧
    (nextRestartEntry x.nextIndex s = none →
      exec .restartIntervalTimer s = .next (placeReply .ship
        { name := nm "PART_RESTART", tag := x.tag, status := .done, adjusted := false,
          ignoredItem := x.ignoredItem,
          items := [itemC "RESTARTS" s.cfu.restarts, item "QUEUED" x.queued,
            item "SPILLED" x.spilled, itemC "NEXT_SEQ" s.rcq.nextSeq],
          records := [] }
        ((s.setRse { s.rse with
            intervalTimer :=
              if s.rse.interval = 0 then none else some (s.rse.interval * 60000) }).setCfu
          { s.cfu with restart := none })))
end

