-- ==== Sys2Proof/Laws/State.lean ====
section
/-! SUPPORT. One lemma per field per update of the state, and the reads of one path, port, cell head or visitor
after an update. -/

namespace Sys2Proof.Machine

/-! ## One value per path -/

@[simp] theorem perPath_get_set_self {α : Type} (t : PerPath α) (p : Path) (x : α) :
    (t.set p x).get p = x := by cases p <;> rfl

@[simp] theorem perPath_get_set_ne {α : Type} (t : PerPath α) {p q : Path} (x : α) (h : q ≠ p) :
    (t.set p x).get q = t.get q := by cases p <;> cases q <;> first | rfl | exact absurd rfl h

theorem perPath_get_set {α : Type} (t : PerPath α) (p q : Path) (x : α) :
    (t.set p x).get q = if q = p then x else t.get q := by cases p <;> cases q <;> rfl

@[simp] theorem perPath_set_get {α : Type} (t : PerPath α) (p : Path) : t.set p (t.get p) = t := by
  cases p <;> rfl

@[simp] theorem perPath_set_set {α : Type} (t : PerPath α) (p : Path) (x y : α) :
    (t.set p x).set p y = t.set p y := by cases p <;> rfl

@[simp] theorem perPath_get_tabulate {α : Type} (f : Path → α) (p : Path) :
    (PerPath.tabulate f).get p = f p := by cases p <;> rfl

@[simp] theorem perPath_get_const {α : Type} (x : α) (p : Path) : (PerPath.const x).get p = x := by
  cases p <;> rfl

theorem perPath_ext {α : Type} {t u : PerPath α} (h : ∀ p : Path, t.get p = u.get p) : t = u := by
  cases t; cases u
  have h0 := h .sp0; have h1 := h .sp1; have h2 := h .sp2; have h3 := h .sp3
  simp_all [PerPath.get]

/-! ## One field per update -/

@[simp] theorem State.setShi_shi (s : State) (x : Shi) : (s.setShi x).shi = x := rfl
@[simp] theorem State.setShi_shore (s : State) (x : Shi) : (s.setShi x).shore = s.shore := rfl
@[simp] theorem State.setShi_freeBuffers (s : State) (x : Shi) : (s.setShi x).freeBuffers = s.freeBuffers := rfl
@[simp] theorem State.setShi_uplinkSeq (s : State) (x : Shi) : (s.setShi x).uplinkSeq = s.uplinkSeq := rfl
@[simp] theorem State.setShi_vtb (s : State) (x : Shi) : (s.setShi x).vtb = s.vtb := rfl
@[simp] theorem State.setShi_rtu (s : State) (x : Shi) : (s.setShi x).rtu = s.rtu := rfl
@[simp] theorem State.setShi_rcq (s : State) (x : Shi) : (s.setShi x).rcq = s.rcq := rfl
@[simp] theorem State.setShi_rse (s : State) (x : Shi) : (s.setShi x).rse = s.rse := rfl
@[simp] theorem State.setShi_znu (s : State) (x : Shi) : (s.setShi x).znu = s.znu := rfl
@[simp] theorem State.setShi_psv (s : State) (x : Shi) : (s.setShi x).psv = s.psv := rfl
@[simp] theorem State.setShi_psl (s : State) (x : Shi) : (s.setShi x).psl = s.psl := rfl
@[simp] theorem State.setShi_drs (s : State) (x : Shi) : (s.setShi x).drs = s.drs := rfl
@[simp] theorem State.setShi_cvu (s : State) (x : Shi) : (s.setShi x).cvu = s.cvu := rfl
@[simp] theorem State.setShi_cfu (s : State) (x : Shi) : (s.setShi x).cfu = s.cfu := rfl
@[simp] theorem State.setShi_ntu (s : State) (x : Shi) : (s.setShi x).ntu = s.ntu := rfl
@[simp] theorem State.setShi_clocks (s : State) (x : Shi) : (s.setShi x).clocks = s.clocks := rfl
@[simp] theorem State.setShi_pending (s : State) (x : Shi) : (s.setShi x).pending = s.pending := rfl
@[simp] theorem State.setShi_setShi (s : State) (x y : Shi) :
    (s.setShi x).setShi y = s.setShi y := rfl
@[simp] theorem State.setShi_self (s : State) : s.setShi s.shi = s := rfl

@[simp] theorem State.setShore_shi (s : State) (x : PerPath ShorePort) : (s.setShore x).shi = s.shi := rfl
@[simp] theorem State.setShore_shore (s : State) (x : PerPath ShorePort) : (s.setShore x).shore = x := rfl
@[simp] theorem State.setShore_freeBuffers (s : State) (x : PerPath ShorePort) : (s.setShore x).freeBuffers = s.freeBuffers := rfl
@[simp] theorem State.setShore_uplinkSeq (s : State) (x : PerPath ShorePort) : (s.setShore x).uplinkSeq = s.uplinkSeq := rfl
@[simp] theorem State.setShore_vtb (s : State) (x : PerPath ShorePort) : (s.setShore x).vtb = s.vtb := rfl
@[simp] theorem State.setShore_rtu (s : State) (x : PerPath ShorePort) : (s.setShore x).rtu = s.rtu := rfl
@[simp] theorem State.setShore_rcq (s : State) (x : PerPath ShorePort) : (s.setShore x).rcq = s.rcq := rfl
@[simp] theorem State.setShore_rse (s : State) (x : PerPath ShorePort) : (s.setShore x).rse = s.rse := rfl
@[simp] theorem State.setShore_znu (s : State) (x : PerPath ShorePort) : (s.setShore x).znu = s.znu := rfl
@[simp] theorem State.setShore_psv (s : State) (x : PerPath ShorePort) : (s.setShore x).psv = s.psv := rfl
@[simp] theorem State.setShore_psl (s : State) (x : PerPath ShorePort) : (s.setShore x).psl = s.psl := rfl
@[simp] theorem State.setShore_drs (s : State) (x : PerPath ShorePort) : (s.setShore x).drs = s.drs := rfl
@[simp] theorem State.setShore_cvu (s : State) (x : PerPath ShorePort) : (s.setShore x).cvu = s.cvu := rfl
@[simp] theorem State.setShore_cfu (s : State) (x : PerPath ShorePort) : (s.setShore x).cfu = s.cfu := rfl
@[simp] theorem State.setShore_ntu (s : State) (x : PerPath ShorePort) : (s.setShore x).ntu = s.ntu := rfl
@[simp] theorem State.setShore_clocks (s : State) (x : PerPath ShorePort) : (s.setShore x).clocks = s.clocks := rfl
@[simp] theorem State.setShore_pending (s : State) (x : PerPath ShorePort) : (s.setShore x).pending = s.pending := rfl
@[simp] theorem State.setShore_setShore (s : State) (x y : PerPath ShorePort) :
    (s.setShore x).setShore y = s.setShore y := rfl
@[simp] theorem State.setShore_self (s : State) : s.setShore s.shore = s := rfl

@[simp] theorem State.setFreeBuffers_shi (s : State) (x : Nat) : (s.setFreeBuffers x).shi = s.shi := rfl
@[simp] theorem State.setFreeBuffers_shore (s : State) (x : Nat) : (s.setFreeBuffers x).shore = s.shore := rfl
@[simp] theorem State.setFreeBuffers_freeBuffers (s : State) (x : Nat) : (s.setFreeBuffers x).freeBuffers = x := rfl
@[simp] theorem State.setFreeBuffers_uplinkSeq (s : State) (x : Nat) : (s.setFreeBuffers x).uplinkSeq = s.uplinkSeq := rfl
@[simp] theorem State.setFreeBuffers_vtb (s : State) (x : Nat) : (s.setFreeBuffers x).vtb = s.vtb := rfl
@[simp] theorem State.setFreeBuffers_rtu (s : State) (x : Nat) : (s.setFreeBuffers x).rtu = s.rtu := rfl
@[simp] theorem State.setFreeBuffers_rcq (s : State) (x : Nat) : (s.setFreeBuffers x).rcq = s.rcq := rfl
@[simp] theorem State.setFreeBuffers_rse (s : State) (x : Nat) : (s.setFreeBuffers x).rse = s.rse := rfl
@[simp] theorem State.setFreeBuffers_znu (s : State) (x : Nat) : (s.setFreeBuffers x).znu = s.znu := rfl
@[simp] theorem State.setFreeBuffers_psv (s : State) (x : Nat) : (s.setFreeBuffers x).psv = s.psv := rfl
@[simp] theorem State.setFreeBuffers_psl (s : State) (x : Nat) : (s.setFreeBuffers x).psl = s.psl := rfl
@[simp] theorem State.setFreeBuffers_drs (s : State) (x : Nat) : (s.setFreeBuffers x).drs = s.drs := rfl
@[simp] theorem State.setFreeBuffers_cvu (s : State) (x : Nat) : (s.setFreeBuffers x).cvu = s.cvu := rfl
@[simp] theorem State.setFreeBuffers_cfu (s : State) (x : Nat) : (s.setFreeBuffers x).cfu = s.cfu := rfl
@[simp] theorem State.setFreeBuffers_ntu (s : State) (x : Nat) : (s.setFreeBuffers x).ntu = s.ntu := rfl
@[simp] theorem State.setFreeBuffers_clocks (s : State) (x : Nat) : (s.setFreeBuffers x).clocks = s.clocks := rfl
@[simp] theorem State.setFreeBuffers_pending (s : State) (x : Nat) : (s.setFreeBuffers x).pending = s.pending := rfl
@[simp] theorem State.setFreeBuffers_setFreeBuffers (s : State) (x y : Nat) :
    (s.setFreeBuffers x).setFreeBuffers y = s.setFreeBuffers y := rfl
@[simp] theorem State.setFreeBuffers_self (s : State) : s.setFreeBuffers s.freeBuffers = s := rfl

@[simp] theorem State.setUplinkSeq_shi (s : State) (x : BitVec 16) : (s.setUplinkSeq x).shi = s.shi := rfl
@[simp] theorem State.setUplinkSeq_shore (s : State) (x : BitVec 16) : (s.setUplinkSeq x).shore = s.shore := rfl
@[simp] theorem State.setUplinkSeq_freeBuffers (s : State) (x : BitVec 16) : (s.setUplinkSeq x).freeBuffers = s.freeBuffers := rfl
@[simp] theorem State.setUplinkSeq_uplinkSeq (s : State) (x : BitVec 16) : (s.setUplinkSeq x).uplinkSeq = x := rfl
@[simp] theorem State.setUplinkSeq_vtb (s : State) (x : BitVec 16) : (s.setUplinkSeq x).vtb = s.vtb := rfl
@[simp] theorem State.setUplinkSeq_rtu (s : State) (x : BitVec 16) : (s.setUplinkSeq x).rtu = s.rtu := rfl
@[simp] theorem State.setUplinkSeq_rcq (s : State) (x : BitVec 16) : (s.setUplinkSeq x).rcq = s.rcq := rfl
@[simp] theorem State.setUplinkSeq_rse (s : State) (x : BitVec 16) : (s.setUplinkSeq x).rse = s.rse := rfl
@[simp] theorem State.setUplinkSeq_znu (s : State) (x : BitVec 16) : (s.setUplinkSeq x).znu = s.znu := rfl
@[simp] theorem State.setUplinkSeq_psv (s : State) (x : BitVec 16) : (s.setUplinkSeq x).psv = s.psv := rfl
@[simp] theorem State.setUplinkSeq_psl (s : State) (x : BitVec 16) : (s.setUplinkSeq x).psl = s.psl := rfl
@[simp] theorem State.setUplinkSeq_drs (s : State) (x : BitVec 16) : (s.setUplinkSeq x).drs = s.drs := rfl
@[simp] theorem State.setUplinkSeq_cvu (s : State) (x : BitVec 16) : (s.setUplinkSeq x).cvu = s.cvu := rfl
@[simp] theorem State.setUplinkSeq_cfu (s : State) (x : BitVec 16) : (s.setUplinkSeq x).cfu = s.cfu := rfl
@[simp] theorem State.setUplinkSeq_ntu (s : State) (x : BitVec 16) : (s.setUplinkSeq x).ntu = s.ntu := rfl
@[simp] theorem State.setUplinkSeq_clocks (s : State) (x : BitVec 16) : (s.setUplinkSeq x).clocks = s.clocks := rfl
@[simp] theorem State.setUplinkSeq_pending (s : State) (x : BitVec 16) : (s.setUplinkSeq x).pending = s.pending := rfl
@[simp] theorem State.setUplinkSeq_setUplinkSeq (s : State) (x y : BitVec 16) :
    (s.setUplinkSeq x).setUplinkSeq y = s.setUplinkSeq y := rfl
@[simp] theorem State.setUplinkSeq_self (s : State) : s.setUplinkSeq s.uplinkSeq = s := rfl

@[simp] theorem State.setVtb_shi (s : State) (x : Vtb) : (s.setVtb x).shi = s.shi := rfl
@[simp] theorem State.setVtb_shore (s : State) (x : Vtb) : (s.setVtb x).shore = s.shore := rfl
@[simp] theorem State.setVtb_freeBuffers (s : State) (x : Vtb) : (s.setVtb x).freeBuffers = s.freeBuffers := rfl
@[simp] theorem State.setVtb_uplinkSeq (s : State) (x : Vtb) : (s.setVtb x).uplinkSeq = s.uplinkSeq := rfl
@[simp] theorem State.setVtb_vtb (s : State) (x : Vtb) : (s.setVtb x).vtb = x := rfl
@[simp] theorem State.setVtb_rtu (s : State) (x : Vtb) : (s.setVtb x).rtu = s.rtu := rfl
@[simp] theorem State.setVtb_rcq (s : State) (x : Vtb) : (s.setVtb x).rcq = s.rcq := rfl
@[simp] theorem State.setVtb_rse (s : State) (x : Vtb) : (s.setVtb x).rse = s.rse := rfl
@[simp] theorem State.setVtb_znu (s : State) (x : Vtb) : (s.setVtb x).znu = s.znu := rfl
@[simp] theorem State.setVtb_psv (s : State) (x : Vtb) : (s.setVtb x).psv = s.psv := rfl
@[simp] theorem State.setVtb_psl (s : State) (x : Vtb) : (s.setVtb x).psl = s.psl := rfl
@[simp] theorem State.setVtb_drs (s : State) (x : Vtb) : (s.setVtb x).drs = s.drs := rfl
@[simp] theorem State.setVtb_cvu (s : State) (x : Vtb) : (s.setVtb x).cvu = s.cvu := rfl
@[simp] theorem State.setVtb_cfu (s : State) (x : Vtb) : (s.setVtb x).cfu = s.cfu := rfl
@[simp] theorem State.setVtb_ntu (s : State) (x : Vtb) : (s.setVtb x).ntu = s.ntu := rfl
@[simp] theorem State.setVtb_clocks (s : State) (x : Vtb) : (s.setVtb x).clocks = s.clocks := rfl
@[simp] theorem State.setVtb_pending (s : State) (x : Vtb) : (s.setVtb x).pending = s.pending := rfl
@[simp] theorem State.setVtb_setVtb (s : State) (x y : Vtb) :
    (s.setVtb x).setVtb y = s.setVtb y := rfl
@[simp] theorem State.setVtb_self (s : State) : s.setVtb s.vtb = s := rfl

@[simp] theorem State.setRtu_shi (s : State) (x : Rtu) : (s.setRtu x).shi = s.shi := rfl
@[simp] theorem State.setRtu_shore (s : State) (x : Rtu) : (s.setRtu x).shore = s.shore := rfl
@[simp] theorem State.setRtu_freeBuffers (s : State) (x : Rtu) : (s.setRtu x).freeBuffers = s.freeBuffers := rfl
@[simp] theorem State.setRtu_uplinkSeq (s : State) (x : Rtu) : (s.setRtu x).uplinkSeq = s.uplinkSeq := rfl
@[simp] theorem State.setRtu_vtb (s : State) (x : Rtu) : (s.setRtu x).vtb = s.vtb := rfl
@[simp] theorem State.setRtu_rtu (s : State) (x : Rtu) : (s.setRtu x).rtu = x := rfl
@[simp] theorem State.setRtu_rcq (s : State) (x : Rtu) : (s.setRtu x).rcq = s.rcq := rfl
@[simp] theorem State.setRtu_rse (s : State) (x : Rtu) : (s.setRtu x).rse = s.rse := rfl
@[simp] theorem State.setRtu_znu (s : State) (x : Rtu) : (s.setRtu x).znu = s.znu := rfl
@[simp] theorem State.setRtu_psv (s : State) (x : Rtu) : (s.setRtu x).psv = s.psv := rfl
@[simp] theorem State.setRtu_psl (s : State) (x : Rtu) : (s.setRtu x).psl = s.psl := rfl
@[simp] theorem State.setRtu_drs (s : State) (x : Rtu) : (s.setRtu x).drs = s.drs := rfl
@[simp] theorem State.setRtu_cvu (s : State) (x : Rtu) : (s.setRtu x).cvu = s.cvu := rfl
@[simp] theorem State.setRtu_cfu (s : State) (x : Rtu) : (s.setRtu x).cfu = s.cfu := rfl
@[simp] theorem State.setRtu_ntu (s : State) (x : Rtu) : (s.setRtu x).ntu = s.ntu := rfl
@[simp] theorem State.setRtu_clocks (s : State) (x : Rtu) : (s.setRtu x).clocks = s.clocks := rfl
@[simp] theorem State.setRtu_pending (s : State) (x : Rtu) : (s.setRtu x).pending = s.pending := rfl
@[simp] theorem State.setRtu_setRtu (s : State) (x y : Rtu) :
    (s.setRtu x).setRtu y = s.setRtu y := rfl
@[simp] theorem State.setRtu_self (s : State) : s.setRtu s.rtu = s := rfl

@[simp] theorem State.setRcq_shi (s : State) (x : Rcq) : (s.setRcq x).shi = s.shi := rfl
@[simp] theorem State.setRcq_shore (s : State) (x : Rcq) : (s.setRcq x).shore = s.shore := rfl
@[simp] theorem State.setRcq_freeBuffers (s : State) (x : Rcq) : (s.setRcq x).freeBuffers = s.freeBuffers := rfl
@[simp] theorem State.setRcq_uplinkSeq (s : State) (x : Rcq) : (s.setRcq x).uplinkSeq = s.uplinkSeq := rfl
@[simp] theorem State.setRcq_vtb (s : State) (x : Rcq) : (s.setRcq x).vtb = s.vtb := rfl
@[simp] theorem State.setRcq_rtu (s : State) (x : Rcq) : (s.setRcq x).rtu = s.rtu := rfl
@[simp] theorem State.setRcq_rcq (s : State) (x : Rcq) : (s.setRcq x).rcq = x := rfl
@[simp] theorem State.setRcq_rse (s : State) (x : Rcq) : (s.setRcq x).rse = s.rse := rfl
@[simp] theorem State.setRcq_znu (s : State) (x : Rcq) : (s.setRcq x).znu = s.znu := rfl
@[simp] theorem State.setRcq_psv (s : State) (x : Rcq) : (s.setRcq x).psv = s.psv := rfl
@[simp] theorem State.setRcq_psl (s : State) (x : Rcq) : (s.setRcq x).psl = s.psl := rfl
@[simp] theorem State.setRcq_drs (s : State) (x : Rcq) : (s.setRcq x).drs = s.drs := rfl
@[simp] theorem State.setRcq_cvu (s : State) (x : Rcq) : (s.setRcq x).cvu = s.cvu := rfl
@[simp] theorem State.setRcq_cfu (s : State) (x : Rcq) : (s.setRcq x).cfu = s.cfu := rfl
@[simp] theorem State.setRcq_ntu (s : State) (x : Rcq) : (s.setRcq x).ntu = s.ntu := rfl
@[simp] theorem State.setRcq_clocks (s : State) (x : Rcq) : (s.setRcq x).clocks = s.clocks := rfl
@[simp] theorem State.setRcq_pending (s : State) (x : Rcq) : (s.setRcq x).pending = s.pending := rfl
@[simp] theorem State.setRcq_setRcq (s : State) (x y : Rcq) :
    (s.setRcq x).setRcq y = s.setRcq y := rfl
@[simp] theorem State.setRcq_self (s : State) : s.setRcq s.rcq = s := rfl

@[simp] theorem State.setRse_shi (s : State) (x : Rse) : (s.setRse x).shi = s.shi := rfl
@[simp] theorem State.setRse_shore (s : State) (x : Rse) : (s.setRse x).shore = s.shore := rfl
@[simp] theorem State.setRse_freeBuffers (s : State) (x : Rse) : (s.setRse x).freeBuffers = s.freeBuffers := rfl
@[simp] theorem State.setRse_uplinkSeq (s : State) (x : Rse) : (s.setRse x).uplinkSeq = s.uplinkSeq := rfl
@[simp] theorem State.setRse_vtb (s : State) (x : Rse) : (s.setRse x).vtb = s.vtb := rfl
@[simp] theorem State.setRse_rtu (s : State) (x : Rse) : (s.setRse x).rtu = s.rtu := rfl
@[simp] theorem State.setRse_rcq (s : State) (x : Rse) : (s.setRse x).rcq = s.rcq := rfl
@[simp] theorem State.setRse_rse (s : State) (x : Rse) : (s.setRse x).rse = x := rfl
@[simp] theorem State.setRse_znu (s : State) (x : Rse) : (s.setRse x).znu = s.znu := rfl
@[simp] theorem State.setRse_psv (s : State) (x : Rse) : (s.setRse x).psv = s.psv := rfl
@[simp] theorem State.setRse_psl (s : State) (x : Rse) : (s.setRse x).psl = s.psl := rfl
@[simp] theorem State.setRse_drs (s : State) (x : Rse) : (s.setRse x).drs = s.drs := rfl
@[simp] theorem State.setRse_cvu (s : State) (x : Rse) : (s.setRse x).cvu = s.cvu := rfl
@[simp] theorem State.setRse_cfu (s : State) (x : Rse) : (s.setRse x).cfu = s.cfu := rfl
@[simp] theorem State.setRse_ntu (s : State) (x : Rse) : (s.setRse x).ntu = s.ntu := rfl
@[simp] theorem State.setRse_clocks (s : State) (x : Rse) : (s.setRse x).clocks = s.clocks := rfl
@[simp] theorem State.setRse_pending (s : State) (x : Rse) : (s.setRse x).pending = s.pending := rfl
@[simp] theorem State.setRse_setRse (s : State) (x y : Rse) :
    (s.setRse x).setRse y = s.setRse y := rfl
@[simp] theorem State.setRse_self (s : State) : s.setRse s.rse = s := rfl

@[simp] theorem State.setZnu_shi (s : State) (x : Znu) : (s.setZnu x).shi = s.shi := rfl
@[simp] theorem State.setZnu_shore (s : State) (x : Znu) : (s.setZnu x).shore = s.shore := rfl
@[simp] theorem State.setZnu_freeBuffers (s : State) (x : Znu) : (s.setZnu x).freeBuffers = s.freeBuffers := rfl
@[simp] theorem State.setZnu_uplinkSeq (s : State) (x : Znu) : (s.setZnu x).uplinkSeq = s.uplinkSeq := rfl
@[simp] theorem State.setZnu_vtb (s : State) (x : Znu) : (s.setZnu x).vtb = s.vtb := rfl
@[simp] theorem State.setZnu_rtu (s : State) (x : Znu) : (s.setZnu x).rtu = s.rtu := rfl
@[simp] theorem State.setZnu_rcq (s : State) (x : Znu) : (s.setZnu x).rcq = s.rcq := rfl
@[simp] theorem State.setZnu_rse (s : State) (x : Znu) : (s.setZnu x).rse = s.rse := rfl
@[simp] theorem State.setZnu_znu (s : State) (x : Znu) : (s.setZnu x).znu = x := rfl
@[simp] theorem State.setZnu_psv (s : State) (x : Znu) : (s.setZnu x).psv = s.psv := rfl
@[simp] theorem State.setZnu_psl (s : State) (x : Znu) : (s.setZnu x).psl = s.psl := rfl
@[simp] theorem State.setZnu_drs (s : State) (x : Znu) : (s.setZnu x).drs = s.drs := rfl
@[simp] theorem State.setZnu_cvu (s : State) (x : Znu) : (s.setZnu x).cvu = s.cvu := rfl
@[simp] theorem State.setZnu_cfu (s : State) (x : Znu) : (s.setZnu x).cfu = s.cfu := rfl
@[simp] theorem State.setZnu_ntu (s : State) (x : Znu) : (s.setZnu x).ntu = s.ntu := rfl
@[simp] theorem State.setZnu_clocks (s : State) (x : Znu) : (s.setZnu x).clocks = s.clocks := rfl
@[simp] theorem State.setZnu_pending (s : State) (x : Znu) : (s.setZnu x).pending = s.pending := rfl
@[simp] theorem State.setZnu_setZnu (s : State) (x y : Znu) :
    (s.setZnu x).setZnu y = s.setZnu y := rfl
@[simp] theorem State.setZnu_self (s : State) : s.setZnu s.znu = s := rfl

@[simp] theorem State.setPsv_shi (s : State) (x : PerPath Psv) : (s.setPsv x).shi = s.shi := rfl
@[simp] theorem State.setPsv_shore (s : State) (x : PerPath Psv) : (s.setPsv x).shore = s.shore := rfl
@[simp] theorem State.setPsv_freeBuffers (s : State) (x : PerPath Psv) : (s.setPsv x).freeBuffers = s.freeBuffers := rfl
@[simp] theorem State.setPsv_uplinkSeq (s : State) (x : PerPath Psv) : (s.setPsv x).uplinkSeq = s.uplinkSeq := rfl
@[simp] theorem State.setPsv_vtb (s : State) (x : PerPath Psv) : (s.setPsv x).vtb = s.vtb := rfl
@[simp] theorem State.setPsv_rtu (s : State) (x : PerPath Psv) : (s.setPsv x).rtu = s.rtu := rfl
@[simp] theorem State.setPsv_rcq (s : State) (x : PerPath Psv) : (s.setPsv x).rcq = s.rcq := rfl
@[simp] theorem State.setPsv_rse (s : State) (x : PerPath Psv) : (s.setPsv x).rse = s.rse := rfl
@[simp] theorem State.setPsv_znu (s : State) (x : PerPath Psv) : (s.setPsv x).znu = s.znu := rfl
@[simp] theorem State.setPsv_psv (s : State) (x : PerPath Psv) : (s.setPsv x).psv = x := rfl
@[simp] theorem State.setPsv_psl (s : State) (x : PerPath Psv) : (s.setPsv x).psl = s.psl := rfl
@[simp] theorem State.setPsv_drs (s : State) (x : PerPath Psv) : (s.setPsv x).drs = s.drs := rfl
@[simp] theorem State.setPsv_cvu (s : State) (x : PerPath Psv) : (s.setPsv x).cvu = s.cvu := rfl
@[simp] theorem State.setPsv_cfu (s : State) (x : PerPath Psv) : (s.setPsv x).cfu = s.cfu := rfl
@[simp] theorem State.setPsv_ntu (s : State) (x : PerPath Psv) : (s.setPsv x).ntu = s.ntu := rfl
@[simp] theorem State.setPsv_clocks (s : State) (x : PerPath Psv) : (s.setPsv x).clocks = s.clocks := rfl
@[simp] theorem State.setPsv_pending (s : State) (x : PerPath Psv) : (s.setPsv x).pending = s.pending := rfl
@[simp] theorem State.setPsv_setPsv (s : State) (x y : PerPath Psv) :
    (s.setPsv x).setPsv y = s.setPsv y := rfl
@[simp] theorem State.setPsv_self (s : State) : s.setPsv s.psv = s := rfl

@[simp] theorem State.setPsl_shi (s : State) (x : Psl) : (s.setPsl x).shi = s.shi := rfl
@[simp] theorem State.setPsl_shore (s : State) (x : Psl) : (s.setPsl x).shore = s.shore := rfl
@[simp] theorem State.setPsl_freeBuffers (s : State) (x : Psl) : (s.setPsl x).freeBuffers = s.freeBuffers := rfl
@[simp] theorem State.setPsl_uplinkSeq (s : State) (x : Psl) : (s.setPsl x).uplinkSeq = s.uplinkSeq := rfl
@[simp] theorem State.setPsl_vtb (s : State) (x : Psl) : (s.setPsl x).vtb = s.vtb := rfl
@[simp] theorem State.setPsl_rtu (s : State) (x : Psl) : (s.setPsl x).rtu = s.rtu := rfl
@[simp] theorem State.setPsl_rcq (s : State) (x : Psl) : (s.setPsl x).rcq = s.rcq := rfl
@[simp] theorem State.setPsl_rse (s : State) (x : Psl) : (s.setPsl x).rse = s.rse := rfl
@[simp] theorem State.setPsl_znu (s : State) (x : Psl) : (s.setPsl x).znu = s.znu := rfl
@[simp] theorem State.setPsl_psv (s : State) (x : Psl) : (s.setPsl x).psv = s.psv := rfl
@[simp] theorem State.setPsl_psl (s : State) (x : Psl) : (s.setPsl x).psl = x := rfl
@[simp] theorem State.setPsl_drs (s : State) (x : Psl) : (s.setPsl x).drs = s.drs := rfl
@[simp] theorem State.setPsl_cvu (s : State) (x : Psl) : (s.setPsl x).cvu = s.cvu := rfl
@[simp] theorem State.setPsl_cfu (s : State) (x : Psl) : (s.setPsl x).cfu = s.cfu := rfl
@[simp] theorem State.setPsl_ntu (s : State) (x : Psl) : (s.setPsl x).ntu = s.ntu := rfl
@[simp] theorem State.setPsl_clocks (s : State) (x : Psl) : (s.setPsl x).clocks = s.clocks := rfl
@[simp] theorem State.setPsl_pending (s : State) (x : Psl) : (s.setPsl x).pending = s.pending := rfl
@[simp] theorem State.setPsl_setPsl (s : State) (x y : Psl) :
    (s.setPsl x).setPsl y = s.setPsl y := rfl
@[simp] theorem State.setPsl_self (s : State) : s.setPsl s.psl = s := rfl

@[simp] theorem State.setDrs_shi (s : State) (x : Drs) : (s.setDrs x).shi = s.shi := rfl
@[simp] theorem State.setDrs_shore (s : State) (x : Drs) : (s.setDrs x).shore = s.shore := rfl
@[simp] theorem State.setDrs_freeBuffers (s : State) (x : Drs) : (s.setDrs x).freeBuffers = s.freeBuffers := rfl
@[simp] theorem State.setDrs_uplinkSeq (s : State) (x : Drs) : (s.setDrs x).uplinkSeq = s.uplinkSeq := rfl
@[simp] theorem State.setDrs_vtb (s : State) (x : Drs) : (s.setDrs x).vtb = s.vtb := rfl
@[simp] theorem State.setDrs_rtu (s : State) (x : Drs) : (s.setDrs x).rtu = s.rtu := rfl
@[simp] theorem State.setDrs_rcq (s : State) (x : Drs) : (s.setDrs x).rcq = s.rcq := rfl
@[simp] theorem State.setDrs_rse (s : State) (x : Drs) : (s.setDrs x).rse = s.rse := rfl
@[simp] theorem State.setDrs_znu (s : State) (x : Drs) : (s.setDrs x).znu = s.znu := rfl
@[simp] theorem State.setDrs_psv (s : State) (x : Drs) : (s.setDrs x).psv = s.psv := rfl
@[simp] theorem State.setDrs_psl (s : State) (x : Drs) : (s.setDrs x).psl = s.psl := rfl
@[simp] theorem State.setDrs_drs (s : State) (x : Drs) : (s.setDrs x).drs = x := rfl
@[simp] theorem State.setDrs_cvu (s : State) (x : Drs) : (s.setDrs x).cvu = s.cvu := rfl
@[simp] theorem State.setDrs_cfu (s : State) (x : Drs) : (s.setDrs x).cfu = s.cfu := rfl
@[simp] theorem State.setDrs_ntu (s : State) (x : Drs) : (s.setDrs x).ntu = s.ntu := rfl
@[simp] theorem State.setDrs_clocks (s : State) (x : Drs) : (s.setDrs x).clocks = s.clocks := rfl
@[simp] theorem State.setDrs_pending (s : State) (x : Drs) : (s.setDrs x).pending = s.pending := rfl
@[simp] theorem State.setDrs_setDrs (s : State) (x y : Drs) :
    (s.setDrs x).setDrs y = s.setDrs y := rfl
@[simp] theorem State.setDrs_self (s : State) : s.setDrs s.drs = s := rfl

@[simp] theorem State.setCvu_shi (s : State) (x : Cvu) : (s.setCvu x).shi = s.shi := rfl
@[simp] theorem State.setCvu_shore (s : State) (x : Cvu) : (s.setCvu x).shore = s.shore := rfl
@[simp] theorem State.setCvu_freeBuffers (s : State) (x : Cvu) : (s.setCvu x).freeBuffers = s.freeBuffers := rfl
@[simp] theorem State.setCvu_uplinkSeq (s : State) (x : Cvu) : (s.setCvu x).uplinkSeq = s.uplinkSeq := rfl
@[simp] theorem State.setCvu_vtb (s : State) (x : Cvu) : (s.setCvu x).vtb = s.vtb := rfl
@[simp] theorem State.setCvu_rtu (s : State) (x : Cvu) : (s.setCvu x).rtu = s.rtu := rfl
@[simp] theorem State.setCvu_rcq (s : State) (x : Cvu) : (s.setCvu x).rcq = s.rcq := rfl
@[simp] theorem State.setCvu_rse (s : State) (x : Cvu) : (s.setCvu x).rse = s.rse := rfl
@[simp] theorem State.setCvu_znu (s : State) (x : Cvu) : (s.setCvu x).znu = s.znu := rfl
@[simp] theorem State.setCvu_psv (s : State) (x : Cvu) : (s.setCvu x).psv = s.psv := rfl
@[simp] theorem State.setCvu_psl (s : State) (x : Cvu) : (s.setCvu x).psl = s.psl := rfl
@[simp] theorem State.setCvu_drs (s : State) (x : Cvu) : (s.setCvu x).drs = s.drs := rfl
@[simp] theorem State.setCvu_cvu (s : State) (x : Cvu) : (s.setCvu x).cvu = x := rfl
@[simp] theorem State.setCvu_cfu (s : State) (x : Cvu) : (s.setCvu x).cfu = s.cfu := rfl
@[simp] theorem State.setCvu_ntu (s : State) (x : Cvu) : (s.setCvu x).ntu = s.ntu := rfl
@[simp] theorem State.setCvu_clocks (s : State) (x : Cvu) : (s.setCvu x).clocks = s.clocks := rfl
@[simp] theorem State.setCvu_pending (s : State) (x : Cvu) : (s.setCvu x).pending = s.pending := rfl
@[simp] theorem State.setCvu_setCvu (s : State) (x y : Cvu) :
    (s.setCvu x).setCvu y = s.setCvu y := rfl
@[simp] theorem State.setCvu_self (s : State) : s.setCvu s.cvu = s := rfl

@[simp] theorem State.setCfu_shi (s : State) (x : Cfu) : (s.setCfu x).shi = s.shi := rfl
@[simp] theorem State.setCfu_shore (s : State) (x : Cfu) : (s.setCfu x).shore = s.shore := rfl
@[simp] theorem State.setCfu_freeBuffers (s : State) (x : Cfu) : (s.setCfu x).freeBuffers = s.freeBuffers := rfl
@[simp] theorem State.setCfu_uplinkSeq (s : State) (x : Cfu) : (s.setCfu x).uplinkSeq = s.uplinkSeq := rfl
@[simp] theorem State.setCfu_vtb (s : State) (x : Cfu) : (s.setCfu x).vtb = s.vtb := rfl
@[simp] theorem State.setCfu_rtu (s : State) (x : Cfu) : (s.setCfu x).rtu = s.rtu := rfl
@[simp] theorem State.setCfu_rcq (s : State) (x : Cfu) : (s.setCfu x).rcq = s.rcq := rfl
@[simp] theorem State.setCfu_rse (s : State) (x : Cfu) : (s.setCfu x).rse = s.rse := rfl
@[simp] theorem State.setCfu_znu (s : State) (x : Cfu) : (s.setCfu x).znu = s.znu := rfl
@[simp] theorem State.setCfu_psv (s : State) (x : Cfu) : (s.setCfu x).psv = s.psv := rfl
@[simp] theorem State.setCfu_psl (s : State) (x : Cfu) : (s.setCfu x).psl = s.psl := rfl
@[simp] theorem State.setCfu_drs (s : State) (x : Cfu) : (s.setCfu x).drs = s.drs := rfl
@[simp] theorem State.setCfu_cvu (s : State) (x : Cfu) : (s.setCfu x).cvu = s.cvu := rfl
@[simp] theorem State.setCfu_cfu (s : State) (x : Cfu) : (s.setCfu x).cfu = x := rfl
@[simp] theorem State.setCfu_ntu (s : State) (x : Cfu) : (s.setCfu x).ntu = s.ntu := rfl
@[simp] theorem State.setCfu_clocks (s : State) (x : Cfu) : (s.setCfu x).clocks = s.clocks := rfl
@[simp] theorem State.setCfu_pending (s : State) (x : Cfu) : (s.setCfu x).pending = s.pending := rfl
@[simp] theorem State.setCfu_setCfu (s : State) (x y : Cfu) :
    (s.setCfu x).setCfu y = s.setCfu y := rfl
@[simp] theorem State.setCfu_self (s : State) : s.setCfu s.cfu = s := rfl

@[simp] theorem State.setNtu_shi (s : State) (x : Ntu) : (s.setNtu x).shi = s.shi := rfl
@[simp] theorem State.setNtu_shore (s : State) (x : Ntu) : (s.setNtu x).shore = s.shore := rfl
@[simp] theorem State.setNtu_freeBuffers (s : State) (x : Ntu) : (s.setNtu x).freeBuffers = s.freeBuffers := rfl
@[simp] theorem State.setNtu_uplinkSeq (s : State) (x : Ntu) : (s.setNtu x).uplinkSeq = s.uplinkSeq := rfl
@[simp] theorem State.setNtu_vtb (s : State) (x : Ntu) : (s.setNtu x).vtb = s.vtb := rfl
@[simp] theorem State.setNtu_rtu (s : State) (x : Ntu) : (s.setNtu x).rtu = s.rtu := rfl
@[simp] theorem State.setNtu_rcq (s : State) (x : Ntu) : (s.setNtu x).rcq = s.rcq := rfl
@[simp] theorem State.setNtu_rse (s : State) (x : Ntu) : (s.setNtu x).rse = s.rse := rfl
@[simp] theorem State.setNtu_znu (s : State) (x : Ntu) : (s.setNtu x).znu = s.znu := rfl
@[simp] theorem State.setNtu_psv (s : State) (x : Ntu) : (s.setNtu x).psv = s.psv := rfl
@[simp] theorem State.setNtu_psl (s : State) (x : Ntu) : (s.setNtu x).psl = s.psl := rfl
@[simp] theorem State.setNtu_drs (s : State) (x : Ntu) : (s.setNtu x).drs = s.drs := rfl
@[simp] theorem State.setNtu_cvu (s : State) (x : Ntu) : (s.setNtu x).cvu = s.cvu := rfl
@[simp] theorem State.setNtu_cfu (s : State) (x : Ntu) : (s.setNtu x).cfu = s.cfu := rfl
@[simp] theorem State.setNtu_ntu (s : State) (x : Ntu) : (s.setNtu x).ntu = x := rfl
@[simp] theorem State.setNtu_clocks (s : State) (x : Ntu) : (s.setNtu x).clocks = s.clocks := rfl
@[simp] theorem State.setNtu_pending (s : State) (x : Ntu) : (s.setNtu x).pending = s.pending := rfl
@[simp] theorem State.setNtu_setNtu (s : State) (x y : Ntu) :
    (s.setNtu x).setNtu y = s.setNtu y := rfl
@[simp] theorem State.setNtu_self (s : State) : s.setNtu s.ntu = s := rfl

@[simp] theorem State.setClocks_shi (s : State) (x : Clocks) : (s.setClocks x).shi = s.shi := rfl
@[simp] theorem State.setClocks_shore (s : State) (x : Clocks) : (s.setClocks x).shore = s.shore := rfl
@[simp] theorem State.setClocks_freeBuffers (s : State) (x : Clocks) : (s.setClocks x).freeBuffers = s.freeBuffers := rfl
@[simp] theorem State.setClocks_uplinkSeq (s : State) (x : Clocks) : (s.setClocks x).uplinkSeq = s.uplinkSeq := rfl
@[simp] theorem State.setClocks_vtb (s : State) (x : Clocks) : (s.setClocks x).vtb = s.vtb := rfl
@[simp] theorem State.setClocks_rtu (s : State) (x : Clocks) : (s.setClocks x).rtu = s.rtu := rfl
@[simp] theorem State.setClocks_rcq (s : State) (x : Clocks) : (s.setClocks x).rcq = s.rcq := rfl
@[simp] theorem State.setClocks_rse (s : State) (x : Clocks) : (s.setClocks x).rse = s.rse := rfl
@[simp] theorem State.setClocks_znu (s : State) (x : Clocks) : (s.setClocks x).znu = s.znu := rfl
@[simp] theorem State.setClocks_psv (s : State) (x : Clocks) : (s.setClocks x).psv = s.psv := rfl
@[simp] theorem State.setClocks_psl (s : State) (x : Clocks) : (s.setClocks x).psl = s.psl := rfl
@[simp] theorem State.setClocks_drs (s : State) (x : Clocks) : (s.setClocks x).drs = s.drs := rfl
@[simp] theorem State.setClocks_cvu (s : State) (x : Clocks) : (s.setClocks x).cvu = s.cvu := rfl
@[simp] theorem State.setClocks_cfu (s : State) (x : Clocks) : (s.setClocks x).cfu = s.cfu := rfl
@[simp] theorem State.setClocks_ntu (s : State) (x : Clocks) : (s.setClocks x).ntu = s.ntu := rfl
@[simp] theorem State.setClocks_clocks (s : State) (x : Clocks) : (s.setClocks x).clocks = x := rfl
@[simp] theorem State.setClocks_pending (s : State) (x : Clocks) : (s.setClocks x).pending = s.pending := rfl
@[simp] theorem State.setClocks_setClocks (s : State) (x y : Clocks) :
    (s.setClocks x).setClocks y = s.setClocks y := rfl
@[simp] theorem State.setClocks_self (s : State) : s.setClocks s.clocks = s := rfl

@[simp] theorem State.setPending_shi (s : State) (x : List Instr) : (s.setPending x).shi = s.shi := rfl
@[simp] theorem State.setPending_shore (s : State) (x : List Instr) : (s.setPending x).shore = s.shore := rfl
@[simp] theorem State.setPending_freeBuffers (s : State) (x : List Instr) : (s.setPending x).freeBuffers = s.freeBuffers := rfl
@[simp] theorem State.setPending_uplinkSeq (s : State) (x : List Instr) : (s.setPending x).uplinkSeq = s.uplinkSeq := rfl
@[simp] theorem State.setPending_vtb (s : State) (x : List Instr) : (s.setPending x).vtb = s.vtb := rfl
@[simp] theorem State.setPending_rtu (s : State) (x : List Instr) : (s.setPending x).rtu = s.rtu := rfl
@[simp] theorem State.setPending_rcq (s : State) (x : List Instr) : (s.setPending x).rcq = s.rcq := rfl
@[simp] theorem State.setPending_rse (s : State) (x : List Instr) : (s.setPending x).rse = s.rse := rfl
@[simp] theorem State.setPending_znu (s : State) (x : List Instr) : (s.setPending x).znu = s.znu := rfl
@[simp] theorem State.setPending_psv (s : State) (x : List Instr) : (s.setPending x).psv = s.psv := rfl
@[simp] theorem State.setPending_psl (s : State) (x : List Instr) : (s.setPending x).psl = s.psl := rfl
@[simp] theorem State.setPending_drs (s : State) (x : List Instr) : (s.setPending x).drs = s.drs := rfl
@[simp] theorem State.setPending_cvu (s : State) (x : List Instr) : (s.setPending x).cvu = s.cvu := rfl
@[simp] theorem State.setPending_cfu (s : State) (x : List Instr) : (s.setPending x).cfu = s.cfu := rfl
@[simp] theorem State.setPending_ntu (s : State) (x : List Instr) : (s.setPending x).ntu = s.ntu := rfl
@[simp] theorem State.setPending_clocks (s : State) (x : List Instr) : (s.setPending x).clocks = s.clocks := rfl
@[simp] theorem State.setPending_pending (s : State) (x : List Instr) : (s.setPending x).pending = x := rfl
@[simp] theorem State.setPending_setPending (s : State) (x y : List Instr) :
    (s.setPending x).setPending y = s.setPending y := rfl
@[simp] theorem State.setPending_self (s : State) : s.setPending s.pending = s := rfl

/-! ## One port, path, cell head or visitor -/

@[simp] theorem State.setShi_port (s : State) (x : Shi) (p : Path) :
    (s.setShi x).port p = s.port p := rfl
@[simp] theorem State.setShi_path (s : State) (x : Shi) (p : Path) :
    (s.setShi x).path p = s.path p := rfl
@[simp] theorem State.setShi_cell (s : State) (x : Shi) (c : Cell) :
    (s.setShi x).cell c = s.cell c := rfl
@[simp] theorem State.setShi_visitor (s : State) (x : Shi) (i : Nat) :
    (s.setShi x).visitor i = s.visitor i := rfl
@[simp] theorem State.setShore_path (s : State) (x : PerPath ShorePort) (p : Path) :
    (s.setShore x).path p = s.path p := rfl
@[simp] theorem State.setShore_cell (s : State) (x : PerPath ShorePort) (c : Cell) :
    (s.setShore x).cell c = s.cell c := rfl
@[simp] theorem State.setShore_visitor (s : State) (x : PerPath ShorePort) (i : Nat) :
    (s.setShore x).visitor i = s.visitor i := rfl
@[simp] theorem State.setFreeBuffers_port (s : State) (x : Nat) (p : Path) :
    (s.setFreeBuffers x).port p = s.port p := rfl
@[simp] theorem State.setFreeBuffers_path (s : State) (x : Nat) (p : Path) :
    (s.setFreeBuffers x).path p = s.path p := rfl
@[simp] theorem State.setFreeBuffers_cell (s : State) (x : Nat) (c : Cell) :
    (s.setFreeBuffers x).cell c = s.cell c := rfl
@[simp] theorem State.setFreeBuffers_visitor (s : State) (x : Nat) (i : Nat) :
    (s.setFreeBuffers x).visitor i = s.visitor i := rfl
@[simp] theorem State.setUplinkSeq_port (s : State) (x : BitVec 16) (p : Path) :
    (s.setUplinkSeq x).port p = s.port p := rfl
@[simp] theorem State.setUplinkSeq_path (s : State) (x : BitVec 16) (p : Path) :
    (s.setUplinkSeq x).path p = s.path p := rfl
@[simp] theorem State.setUplinkSeq_cell (s : State) (x : BitVec 16) (c : Cell) :
    (s.setUplinkSeq x).cell c = s.cell c := rfl
@[simp] theorem State.setUplinkSeq_visitor (s : State) (x : BitVec 16) (i : Nat) :
    (s.setUplinkSeq x).visitor i = s.visitor i := rfl
@[simp] theorem State.setVtb_port (s : State) (x : Vtb) (p : Path) :
    (s.setVtb x).port p = s.port p := rfl
@[simp] theorem State.setVtb_path (s : State) (x : Vtb) (p : Path) :
    (s.setVtb x).path p = s.path p := rfl
@[simp] theorem State.setVtb_cell (s : State) (x : Vtb) (c : Cell) :
    (s.setVtb x).cell c = s.cell c := rfl
@[simp] theorem State.setRtu_port (s : State) (x : Rtu) (p : Path) :
    (s.setRtu x).port p = s.port p := rfl
@[simp] theorem State.setRtu_path (s : State) (x : Rtu) (p : Path) :
    (s.setRtu x).path p = s.path p := rfl
@[simp] theorem State.setRtu_cell (s : State) (x : Rtu) (c : Cell) :
    (s.setRtu x).cell c = s.cell c := rfl
@[simp] theorem State.setRtu_visitor (s : State) (x : Rtu) (i : Nat) :
    (s.setRtu x).visitor i = s.visitor i := rfl
@[simp] theorem State.setRcq_port (s : State) (x : Rcq) (p : Path) :
    (s.setRcq x).port p = s.port p := rfl
@[simp] theorem State.setRcq_path (s : State) (x : Rcq) (p : Path) :
    (s.setRcq x).path p = s.path p := rfl
@[simp] theorem State.setRcq_cell (s : State) (x : Rcq) (c : Cell) :
    (s.setRcq x).cell c = s.cell c := rfl
@[simp] theorem State.setRcq_visitor (s : State) (x : Rcq) (i : Nat) :
    (s.setRcq x).visitor i = s.visitor i := rfl
@[simp] theorem State.setRse_port (s : State) (x : Rse) (p : Path) :
    (s.setRse x).port p = s.port p := rfl
@[simp] theorem State.setRse_path (s : State) (x : Rse) (p : Path) :
    (s.setRse x).path p = s.path p := rfl
@[simp] theorem State.setRse_cell (s : State) (x : Rse) (c : Cell) :
    (s.setRse x).cell c = s.cell c := rfl
@[simp] theorem State.setRse_visitor (s : State) (x : Rse) (i : Nat) :
    (s.setRse x).visitor i = s.visitor i := rfl
@[simp] theorem State.setZnu_port (s : State) (x : Znu) (p : Path) :
    (s.setZnu x).port p = s.port p := rfl
@[simp] theorem State.setZnu_path (s : State) (x : Znu) (p : Path) :
    (s.setZnu x).path p = s.path p := rfl
@[simp] theorem State.setZnu_cell (s : State) (x : Znu) (c : Cell) :
    (s.setZnu x).cell c = s.cell c := rfl
@[simp] theorem State.setZnu_visitor (s : State) (x : Znu) (i : Nat) :
    (s.setZnu x).visitor i = s.visitor i := rfl
@[simp] theorem State.setPsv_port (s : State) (x : PerPath Psv) (p : Path) :
    (s.setPsv x).port p = s.port p := rfl
@[simp] theorem State.setPsv_cell (s : State) (x : PerPath Psv) (c : Cell) :
    (s.setPsv x).cell c = s.cell c := rfl
@[simp] theorem State.setPsv_visitor (s : State) (x : PerPath Psv) (i : Nat) :
    (s.setPsv x).visitor i = s.visitor i := rfl
@[simp] theorem State.setPsl_port (s : State) (x : Psl) (p : Path) :
    (s.setPsl x).port p = s.port p := rfl
@[simp] theorem State.setPsl_path (s : State) (x : Psl) (p : Path) :
    (s.setPsl x).path p = s.path p := rfl
@[simp] theorem State.setPsl_cell (s : State) (x : Psl) (c : Cell) :
    (s.setPsl x).cell c = s.cell c := rfl
@[simp] theorem State.setPsl_visitor (s : State) (x : Psl) (i : Nat) :
    (s.setPsl x).visitor i = s.visitor i := rfl
@[simp] theorem State.setDrs_port (s : State) (x : Drs) (p : Path) :
    (s.setDrs x).port p = s.port p := rfl
@[simp] theorem State.setDrs_path (s : State) (x : Drs) (p : Path) :
    (s.setDrs x).path p = s.path p := rfl
@[simp] theorem State.setDrs_cell (s : State) (x : Drs) (c : Cell) :
    (s.setDrs x).cell c = s.cell c := rfl
@[simp] theorem State.setDrs_visitor (s : State) (x : Drs) (i : Nat) :
    (s.setDrs x).visitor i = s.visitor i := rfl
@[simp] theorem State.setCvu_port (s : State) (x : Cvu) (p : Path) :
    (s.setCvu x).port p = s.port p := rfl
@[simp] theorem State.setCvu_path (s : State) (x : Cvu) (p : Path) :
    (s.setCvu x).path p = s.path p := rfl
@[simp] theorem State.setCvu_visitor (s : State) (x : Cvu) (i : Nat) :
    (s.setCvu x).visitor i = s.visitor i := rfl
@[simp] theorem State.setCfu_port (s : State) (x : Cfu) (p : Path) :
    (s.setCfu x).port p = s.port p := rfl
@[simp] theorem State.setCfu_path (s : State) (x : Cfu) (p : Path) :
    (s.setCfu x).path p = s.path p := rfl
@[simp] theorem State.setCfu_cell (s : State) (x : Cfu) (c : Cell) :
    (s.setCfu x).cell c = s.cell c := rfl
@[simp] theorem State.setCfu_visitor (s : State) (x : Cfu) (i : Nat) :
    (s.setCfu x).visitor i = s.visitor i := rfl
@[simp] theorem State.setNtu_port (s : State) (x : Ntu) (p : Path) :
    (s.setNtu x).port p = s.port p := rfl
@[simp] theorem State.setNtu_path (s : State) (x : Ntu) (p : Path) :
    (s.setNtu x).path p = s.path p := rfl
@[simp] theorem State.setNtu_cell (s : State) (x : Ntu) (c : Cell) :
    (s.setNtu x).cell c = s.cell c := rfl
@[simp] theorem State.setNtu_visitor (s : State) (x : Ntu) (i : Nat) :
    (s.setNtu x).visitor i = s.visitor i := rfl
@[simp] theorem State.setClocks_port (s : State) (x : Clocks) (p : Path) :
    (s.setClocks x).port p = s.port p := rfl
@[simp] theorem State.setClocks_path (s : State) (x : Clocks) (p : Path) :
    (s.setClocks x).path p = s.path p := rfl
@[simp] theorem State.setClocks_cell (s : State) (x : Clocks) (c : Cell) :
    (s.setClocks x).cell c = s.cell c := rfl
@[simp] theorem State.setClocks_visitor (s : State) (x : Clocks) (i : Nat) :
    (s.setClocks x).visitor i = s.visitor i := rfl
@[simp] theorem State.setPending_port (s : State) (x : List Instr) (p : Path) :
    (s.setPending x).port p = s.port p := rfl
@[simp] theorem State.setPending_path (s : State) (x : List Instr) (p : Path) :
    (s.setPending x).path p = s.path p := rfl
@[simp] theorem State.setPending_cell (s : State) (x : List Instr) (c : Cell) :
    (s.setPending x).cell c = s.cell c := rfl
@[simp] theorem State.setPending_visitor (s : State) (x : List Instr) (i : Nat) :
    (s.setPending x).visitor i = s.visitor i := rfl

@[simp] theorem State.setPort_shi (s : State) (p : Path) (x : ShorePort) :
    (s.setPort p x).shi = s.shi := rfl
@[simp] theorem State.setPort_freeBuffers (s : State) (p : Path) (x : ShorePort) :
    (s.setPort p x).freeBuffers = s.freeBuffers := rfl
@[simp] theorem State.setPort_uplinkSeq (s : State) (p : Path) (x : ShorePort) :
    (s.setPort p x).uplinkSeq = s.uplinkSeq := rfl
@[simp] theorem State.setPort_vtb (s : State) (p : Path) (x : ShorePort) :
    (s.setPort p x).vtb = s.vtb := rfl
@[simp] theorem State.setPort_rtu (s : State) (p : Path) (x : ShorePort) :
    (s.setPort p x).rtu = s.rtu := rfl
@[simp] theorem State.setPort_rcq (s : State) (p : Path) (x : ShorePort) :
    (s.setPort p x).rcq = s.rcq := rfl
@[simp] theorem State.setPort_rse (s : State) (p : Path) (x : ShorePort) :
    (s.setPort p x).rse = s.rse := rfl
@[simp] theorem State.setPort_znu (s : State) (p : Path) (x : ShorePort) :
    (s.setPort p x).znu = s.znu := rfl
@[simp] theorem State.setPort_psv (s : State) (p : Path) (x : ShorePort) :
    (s.setPort p x).psv = s.psv := rfl
@[simp] theorem State.setPort_psl (s : State) (p : Path) (x : ShorePort) :
    (s.setPort p x).psl = s.psl := rfl
@[simp] theorem State.setPort_drs (s : State) (p : Path) (x : ShorePort) :
    (s.setPort p x).drs = s.drs := rfl
@[simp] theorem State.setPort_cvu (s : State) (p : Path) (x : ShorePort) :
    (s.setPort p x).cvu = s.cvu := rfl
@[simp] theorem State.setPort_cfu (s : State) (p : Path) (x : ShorePort) :
    (s.setPort p x).cfu = s.cfu := rfl
@[simp] theorem State.setPort_ntu (s : State) (p : Path) (x : ShorePort) :
    (s.setPort p x).ntu = s.ntu := rfl
@[simp] theorem State.setPort_clocks (s : State) (p : Path) (x : ShorePort) :
    (s.setPort p x).clocks = s.clocks := rfl
@[simp] theorem State.setPort_pending (s : State) (p : Path) (x : ShorePort) :
    (s.setPort p x).pending = s.pending := rfl
@[simp] theorem State.setPort_path (s : State) (p : Path) (x : ShorePort) (q : Path) :
    (s.setPort p x).path q = s.path q := rfl
@[simp] theorem State.setPort_cell (s : State) (p : Path) (x : ShorePort) (c : Cell) :
    (s.setPort p x).cell c = s.cell c := rfl
@[simp] theorem State.setPort_visitor (s : State) (p : Path) (x : ShorePort) (i : Nat) :
    (s.setPort p x).visitor i = s.visitor i := rfl

@[simp] theorem State.setPath_shi (s : State) (p : Path) (x : Psv) :
    (s.setPath p x).shi = s.shi := rfl
@[simp] theorem State.setPath_shore (s : State) (p : Path) (x : Psv) :
    (s.setPath p x).shore = s.shore := rfl
@[simp] theorem State.setPath_freeBuffers (s : State) (p : Path) (x : Psv) :
    (s.setPath p x).freeBuffers = s.freeBuffers := rfl
@[simp] theorem State.setPath_uplinkSeq (s : State) (p : Path) (x : Psv) :
    (s.setPath p x).uplinkSeq = s.uplinkSeq := rfl
@[simp] theorem State.setPath_vtb (s : State) (p : Path) (x : Psv) :
    (s.setPath p x).vtb = s.vtb := rfl
@[simp] theorem State.setPath_rtu (s : State) (p : Path) (x : Psv) :
    (s.setPath p x).rtu = s.rtu := rfl
@[simp] theorem State.setPath_rcq (s : State) (p : Path) (x : Psv) :
    (s.setPath p x).rcq = s.rcq := rfl
@[simp] theorem State.setPath_rse (s : State) (p : Path) (x : Psv) :
    (s.setPath p x).rse = s.rse := rfl
@[simp] theorem State.setPath_znu (s : State) (p : Path) (x : Psv) :
    (s.setPath p x).znu = s.znu := rfl
@[simp] theorem State.setPath_psl (s : State) (p : Path) (x : Psv) :
    (s.setPath p x).psl = s.psl := rfl
@[simp] theorem State.setPath_drs (s : State) (p : Path) (x : Psv) :
    (s.setPath p x).drs = s.drs := rfl
@[simp] theorem State.setPath_cvu (s : State) (p : Path) (x : Psv) :
    (s.setPath p x).cvu = s.cvu := rfl
@[simp] theorem State.setPath_cfu (s : State) (p : Path) (x : Psv) :
    (s.setPath p x).cfu = s.cfu := rfl
@[simp] theorem State.setPath_ntu (s : State) (p : Path) (x : Psv) :
    (s.setPath p x).ntu = s.ntu := rfl
@[simp] theorem State.setPath_clocks (s : State) (p : Path) (x : Psv) :
    (s.setPath p x).clocks = s.clocks := rfl
@[simp] theorem State.setPath_pending (s : State) (p : Path) (x : Psv) :
    (s.setPath p x).pending = s.pending := rfl
@[simp] theorem State.setPath_port (s : State) (p : Path) (x : Psv) (q : Path) :
    (s.setPath p x).port q = s.port q := rfl
@[simp] theorem State.setPath_cell (s : State) (p : Path) (x : Psv) (c : Cell) :
    (s.setPath p x).cell c = s.cell c := rfl
@[simp] theorem State.setPath_visitor (s : State) (p : Path) (x : Psv) (i : Nat) :
    (s.setPath p x).visitor i = s.visitor i := rfl

@[simp] theorem State.setCell_shi (s : State) (c : Cell) (x : CellHead) :
    (s.setCell c x).shi = s.shi := rfl
@[simp] theorem State.setCell_shore (s : State) (c : Cell) (x : CellHead) :
    (s.setCell c x).shore = s.shore := rfl
@[simp] theorem State.setCell_freeBuffers (s : State) (c : Cell) (x : CellHead) :
    (s.setCell c x).freeBuffers = s.freeBuffers := rfl
@[simp] theorem State.setCell_uplinkSeq (s : State) (c : Cell) (x : CellHead) :
    (s.setCell c x).uplinkSeq = s.uplinkSeq := rfl
@[simp] theorem State.setCell_vtb (s : State) (c : Cell) (x : CellHead) :
    (s.setCell c x).vtb = s.vtb := rfl
@[simp] theorem State.setCell_rtu (s : State) (c : Cell) (x : CellHead) :
    (s.setCell c x).rtu = s.rtu := rfl
@[simp] theorem State.setCell_rcq (s : State) (c : Cell) (x : CellHead) :
    (s.setCell c x).rcq = s.rcq := rfl
@[simp] theorem State.setCell_rse (s : State) (c : Cell) (x : CellHead) :
    (s.setCell c x).rse = s.rse := rfl
@[simp] theorem State.setCell_znu (s : State) (c : Cell) (x : CellHead) :
    (s.setCell c x).znu = s.znu := rfl
@[simp] theorem State.setCell_psv (s : State) (c : Cell) (x : CellHead) :
    (s.setCell c x).psv = s.psv := rfl
@[simp] theorem State.setCell_psl (s : State) (c : Cell) (x : CellHead) :
    (s.setCell c x).psl = s.psl := rfl
@[simp] theorem State.setCell_drs (s : State) (c : Cell) (x : CellHead) :
    (s.setCell c x).drs = s.drs := rfl
@[simp] theorem State.setCell_cfu (s : State) (c : Cell) (x : CellHead) :
    (s.setCell c x).cfu = s.cfu := rfl
@[simp] theorem State.setCell_ntu (s : State) (c : Cell) (x : CellHead) :
    (s.setCell c x).ntu = s.ntu := rfl
@[simp] theorem State.setCell_clocks (s : State) (c : Cell) (x : CellHead) :
    (s.setCell c x).clocks = s.clocks := rfl
@[simp] theorem State.setCell_pending (s : State) (c : Cell) (x : CellHead) :
    (s.setCell c x).pending = s.pending := rfl
@[simp] theorem State.setCell_port (s : State) (c : Cell) (x : CellHead) (p : Path) :
    (s.setCell c x).port p = s.port p := rfl
@[simp] theorem State.setCell_path (s : State) (c : Cell) (x : CellHead) (p : Path) :
    (s.setCell c x).path p = s.path p := rfl
@[simp] theorem State.setCell_visitor (s : State) (c : Cell) (x : CellHead) (i : Nat) :
    (s.setCell c x).visitor i = s.visitor i := rfl

@[simp] theorem State.setVisitor_shi (s : State) (i : Nat) (x : Visitor) :
    (s.setVisitor i x).shi = s.shi := rfl
@[simp] theorem State.setVisitor_shore (s : State) (i : Nat) (x : Visitor) :
    (s.setVisitor i x).shore = s.shore := rfl
@[simp] theorem State.setVisitor_freeBuffers (s : State) (i : Nat) (x : Visitor) :
    (s.setVisitor i x).freeBuffers = s.freeBuffers := rfl
@[simp] theorem State.setVisitor_uplinkSeq (s : State) (i : Nat) (x : Visitor) :
    (s.setVisitor i x).uplinkSeq = s.uplinkSeq := rfl
@[simp] theorem State.setVisitor_rtu (s : State) (i : Nat) (x : Visitor) :
    (s.setVisitor i x).rtu = s.rtu := rfl
@[simp] theorem State.setVisitor_rcq (s : State) (i : Nat) (x : Visitor) :
    (s.setVisitor i x).rcq = s.rcq := rfl
@[simp] theorem State.setVisitor_rse (s : State) (i : Nat) (x : Visitor) :
    (s.setVisitor i x).rse = s.rse := rfl
@[simp] theorem State.setVisitor_znu (s : State) (i : Nat) (x : Visitor) :
    (s.setVisitor i x).znu = s.znu := rfl
@[simp] theorem State.setVisitor_psv (s : State) (i : Nat) (x : Visitor) :
    (s.setVisitor i x).psv = s.psv := rfl
@[simp] theorem State.setVisitor_psl (s : State) (i : Nat) (x : Visitor) :
    (s.setVisitor i x).psl = s.psl := rfl
@[simp] theorem State.setVisitor_drs (s : State) (i : Nat) (x : Visitor) :
    (s.setVisitor i x).drs = s.drs := rfl
@[simp] theorem State.setVisitor_cvu (s : State) (i : Nat) (x : Visitor) :
    (s.setVisitor i x).cvu = s.cvu := rfl
@[simp] theorem State.setVisitor_cfu (s : State) (i : Nat) (x : Visitor) :
    (s.setVisitor i x).cfu = s.cfu := rfl
@[simp] theorem State.setVisitor_ntu (s : State) (i : Nat) (x : Visitor) :
    (s.setVisitor i x).ntu = s.ntu := rfl
@[simp] theorem State.setVisitor_clocks (s : State) (i : Nat) (x : Visitor) :
    (s.setVisitor i x).clocks = s.clocks := rfl
@[simp] theorem State.setVisitor_pending (s : State) (i : Nat) (x : Visitor) :
    (s.setVisitor i x).pending = s.pending := rfl
@[simp] theorem State.setVisitor_port (s : State) (i : Nat) (x : Visitor) (p : Path) :
    (s.setVisitor i x).port p = s.port p := rfl
@[simp] theorem State.setVisitor_path (s : State) (i : Nat) (x : Visitor) (p : Path) :
    (s.setVisitor i x).path p = s.path p := rfl
@[simp] theorem State.setVisitor_cell (s : State) (i : Nat) (x : Visitor) (c : Cell) :
    (s.setVisitor i x).cell c = s.cell c := rfl

@[simp] theorem State.setPort_port_self (s : State) (p : Path) (x : ShorePort) :
    (s.setPort p x).port p = x := perPath_get_set_self s.shore p x

@[simp] theorem State.setPort_port_ne (s : State) {p q : Path} (x : ShorePort) (h : q ≠ p) :
    (s.setPort p x).port q = s.port q := perPath_get_set_ne s.shore x h

theorem State.setPort_port (s : State) (p q : Path) (x : ShorePort) :
    (s.setPort p x).port q = if q = p then x else s.port q := perPath_get_set s.shore p q x

@[simp] theorem State.setPort_port_get (s : State) (p : Path) : s.setPort p (s.port p) = s := by
  cases p <;> rfl

@[simp] theorem State.setPort_setPort (s : State) (p : Path) (x y : ShorePort) :
    (s.setPort p x).setPort p y = s.setPort p y := by cases p <;> rfl

theorem State.setPort_shore (s : State) (p : Path) (x : ShorePort) :
    (s.setPort p x).shore = s.shore.set p x := rfl

@[simp] theorem State.setPath_path_self (s : State) (p : Path) (x : Psv) :
    (s.setPath p x).path p = x := perPath_get_set_self s.psv p x

@[simp] theorem State.setPath_path_ne (s : State) {p q : Path} (x : Psv) (h : q ≠ p) :
    (s.setPath p x).path q = s.path q := perPath_get_set_ne s.psv x h

theorem State.setPath_path (s : State) (p q : Path) (x : Psv) :
    (s.setPath p x).path q = if q = p then x else s.path q := perPath_get_set s.psv p q x

@[simp] theorem State.setPath_path_get (s : State) (p : Path) : s.setPath p (s.path p) = s := by
  cases p <;> rfl

@[simp] theorem State.setPath_setPath (s : State) (p : Path) (x y : Psv) :
    (s.setPath p x).setPath p y = s.setPath p y := by cases p <;> rfl

theorem State.setPath_psv (s : State) (p : Path) (x : Psv) :
    (s.setPath p x).psv = s.psv.set p x := rfl

theorem State.setPort_setPath (s : State) (p q : Path) (x : ShorePort) (y : Psv) :
    (s.setPort p x).setPath q y = (s.setPath q y).setPort p x := rfl

theorem State.setShi_setPort (s : State) (p : Path) (x : Shi) (y : ShorePort) :
    (s.setShi x).setPort p y = (s.setPort p y).setShi x := rfl

theorem State.setShi_setPath (s : State) (p : Path) (x : Shi) (y : Psv) :
    (s.setShi x).setPath p y = (s.setPath p y).setShi x := rfl

@[simp] theorem State.setCell_cell_self (s : State) (c : Cell) (x : CellHead) :
    (s.setCell c x).cell c = x := by simp [State.setCell, State.cell, State.setCvu]

@[simp] theorem State.setCell_cell_ne (s : State) {c d : Cell} (x : CellHead) (h : d ≠ c) :
    (s.setCell c x).cell d = s.cell d := by
  have hn : c.val ≠ d.val := fun e => h (Fin.ext e.symm)
  simp [State.setCell, State.cell, State.setCvu, Vector.getElem_set_ne, hn]

theorem State.setCell_cell (s : State) (c d : Cell) (x : CellHead) :
    (s.setCell c x).cell d = if d = c then x else s.cell d := by
  by_cases h : d = c
  · subst h; simp
  · simp [h]

@[simp] theorem State.setCell_setCell (s : State) (c : Cell) (x y : CellHead) :
    (s.setCell c x).setCell c y = s.setCell c y := by
  simp [State.setCell, State.setCvu]

end Sys2Proof.Machine
end

