-- ==== Sys2Proof/Laws/Table.lean ====
section
/-! SUPPORT. Tables by number: what a write and a map do to every number's value, that both keep the canonical
form, and the visitor entries after a write. -/

namespace Sys2Proof.Machine

variable {α : Type}

theorem tableRead_write_ne [DecidableEq α] (d v : α) {j k : Nat} (h : j ≠ k) :
    ∀ t : Table α, tableRead d (tableWrite d t k v) j = tableRead d t j
  | [] => by by_cases hv : v = d <;> simp [tableWrite, tableRead, hv, h]
  | (a, w) :: r => by
    have ih := tableRead_write_ne d v h r
    by_cases h1 : k < a
    · by_cases hv : v = d <;> simp [tableWrite, tableRead, h1, hv, h]
    · by_cases h2 : k = a
      · subst h2
        by_cases hv : v = d <;> simp [tableWrite, tableRead, hv, h]
      · simp only [tableWrite, h1, h2, if_false, tableRead, ih]

theorem tableRead_write_self_of_ne [DecidableEq α] {d v : α} (hv : v ≠ d) (k : Nat) :
    ∀ t : Table α, tableRead d (tableWrite d t k v) k = v
  | [] => by simp [tableWrite, tableRead, hv]
  | (a, w) :: r => by
    have ih := tableRead_write_self_of_ne hv k r
    by_cases h1 : k < a
    · simp [tableWrite, tableRead, h1, hv]
    · by_cases h2 : k = a
      · subst h2; simp [tableWrite, tableRead, hv]
      · simp only [tableWrite, h1, h2, if_false, tableRead, ih]

theorem tableRead_of_forall_ne (d : α) (k : Nat) :
    ∀ t : Table α, (∀ e ∈ t, e.1 ≠ k) → tableRead d t k = d
  | [], _ => rfl
  | (a, w) :: r, h => by
    have h1 : k ≠ a := fun e => h (a, w) (by simp) e.symm
    simp only [tableRead, h1, if_false]
    exact tableRead_of_forall_ne d k r (fun e he => h e (by simp [he]))

/-- In canonical form a write is read back, whatever its value. -/
theorem tableRead_write_self [DecidableEq α] (d v : α) (k : Nat) :
    ∀ t : Table α, tableWf d t → tableRead d (tableWrite d t k v) k = v
  | [], _ => by by_cases hv : v = d <;> simp [tableWrite, tableRead, hv]
  | (a, w) :: r, h => by
    obtain ⟨hp, hd⟩ := h
    rw [List.pairwise_cons] at hp
    have ih := tableRead_write_self d v k r ⟨hp.2, fun e he => hd e (by simp [he])⟩
    have hgt : ∀ e ∈ r, a < e.1 := hp.1
    by_cases hv : v = d
    · by_cases h1 : k < a
      · have hk : k ≠ a := by omega
        simp only [tableWrite, h1, hv, if_true, tableRead, hk, if_false]
        exact tableRead_of_forall_ne d k r (fun e he => by have := hgt e he; omega)
      · by_cases h2 : k = a
        · subst h2
          simp only [tableWrite, h1, if_false, hv, if_true]
          exact tableRead_of_forall_ne d k r (fun e he => by have := hgt e he; omega)
        · simp only [tableWrite, h1, h2, if_false, tableRead, ih]
    · exact tableRead_write_self_of_ne hv k _

theorem tableWrite_mem [DecidableEq α] {d v : α} {k : Nat} {e : Nat × α} :
    ∀ {t : Table α}, e ∈ tableWrite d t k v → e ∈ t ∨ (e = (k, v) ∧ v ≠ d)
  | [], h => by by_cases hv : v = d <;> simp_all [tableWrite]
  | (a, w) :: r, h => by
    by_cases h1 : k < a
    · by_cases hv : v = d
      · simp only [tableWrite, h1, hv, if_true] at h; exact .inl h
      · simp only [tableWrite, h1, hv, if_true, if_false, List.mem_cons] at h
        rcases h with h | h
        · exact .inr ⟨h, hv⟩
        · exact .inl (by simpa using h)
    · by_cases h2 : k = a
      · subst h2
        by_cases hv : v = d
        · simp only [tableWrite, h1, hv, if_true, if_false] at h; exact .inl (by simp [h])
        · simp only [tableWrite, h1, hv, if_true, if_false, List.mem_cons] at h
          rcases h with h | h
          · exact .inr ⟨h, hv⟩
          · exact .inl (by simp [h])
      · simp only [tableWrite, h1, h2, if_false, List.mem_cons] at h
        rcases h with h | h
        · exact .inl (by simp [h])
        · rcases tableWrite_mem h with h | h
          · exact .inl (by simp [h])
          · exact .inr h

/-- A write keeps the canonical form. -/
theorem tableWrite_wf [DecidableEq α] (d v : α) (k : Nat) :
    ∀ t : Table α, tableWf d t → tableWf d (tableWrite d t k v)
  | [], _ => by by_cases hv : v = d <;> simp [tableWrite, tableWf, hv]
  | (a, w) :: r, h => by
    have h' := h
    obtain ⟨hp, hd⟩ := h
    rw [List.pairwise_cons] at hp
    have hr : tableWf d r := ⟨hp.2, fun e he => hd e (by simp [he])⟩
    have hgt : ∀ e ∈ r, a < e.1 := hp.1
    by_cases h1 : k < a
    · by_cases hv : v = d
      · simpa only [tableWrite, h1, hv, if_true] using h'
      · simp only [tableWrite, h1, hv, if_true, if_false]
        refine ⟨List.pairwise_cons.2 ⟨fun e he => ?_, h'.1⟩, fun e he => ?_⟩
        · rcases List.mem_cons.1 he with rfl | he
          · exact h1
          · have := hgt e he; show k < e.1; omega
        · rcases List.mem_cons.1 he with rfl | he
          · exact hv
          · exact hd e he
    · by_cases h2 : k = a
      · subst h2
        by_cases hv : v = d
        · simpa only [tableWrite, h1, hv, if_true, if_false] using hr
        · simp only [tableWrite, h1, hv, if_true, if_false]
          refine ⟨List.pairwise_cons.2 ⟨hgt, hp.2⟩, fun e he => ?_⟩
          rcases List.mem_cons.1 he with rfl | he
          · exact hv
          · exact hr.2 e he
      · simp only [tableWrite, h1, h2, if_false]
        have ih := tableWrite_wf d v k r hr
        refine ⟨List.pairwise_cons.2 ⟨fun e he => ?_, ih.1⟩, fun e he => ?_⟩
        · rcases tableWrite_mem he with he | ⟨rfl, _⟩
          · exact hgt e he
          · show a < k; omega
        · rcases List.mem_cons.1 he with rfl | he
          · exact hd _ (by simp)
          · exact ih.2 e he

/-- A map that keeps the unlisted value acts on every number's value. -/
theorem tableRead_map (d : α) (f : α → α) (hf : f d = d) (k : Nat) :
    ∀ t : Table α, tableRead d (tableMap f t) k = f (tableRead d t k)
  | [] => by simp [tableMap, tableRead, hf]
  | (a, w) :: r => by
    have ih := tableRead_map d f hf k r
    by_cases h : k = a
    · simp [tableMap, tableRead, h]
    · simpa [tableMap, tableRead, h] using ih

/-- A map that gives the unlisted value to no other value keeps the canonical form. -/
theorem tableMap_wf (d : α) (f : α → α) (hf : ∀ x : α, x ≠ d → f x ≠ d) (t : Table α)
    (h : tableWf d t) : tableWf d (tableMap f t) := by
  refine ⟨?_, fun e he => ?_⟩
  · rw [tableMap, List.pairwise_map]; exact h.1
  · obtain ⟨x, hx, rfl⟩ := List.mem_map.1 he
    exact hf _ (h.2 x hx)

/-! ## Visitor entries -/

theorem setVisitor_visitor_ne (s : State) {i j : Nat} (v : Visitor) (h : j ≠ i) :
    (s.setVisitor i v).visitor j = s.visitor j := tableRead_write_ne _ _ h _

theorem setVisitor_visitor_self {s : State} {i : Nat} {v : Visitor} (h : v ≠ Visitor.freeEntry) :
    (s.setVisitor i v).visitor i = v := tableRead_write_self_of_ne h _ _

theorem setVisitor_visitor_of_wf {s : State} (h : tableWf Visitor.freeEntry s.vtb.entries) (i : Nat)
    (v : Visitor) : (s.setVisitor i v).visitor i = v := tableRead_write_self _ _ _ _ h

theorem setVisitor_wf {s : State} (h : tableWf Visitor.freeEntry s.vtb.entries) (i : Nat) (v : Visitor) :
    tableWf Visitor.freeEntry (s.setVisitor i v).vtb.entries := tableWrite_wf _ _ _ _ h

theorem ne_freeEntry_of_lifecycle {v : Visitor} (h : v.lifecycle ≠ .free) : v ≠ Visitor.freeEntry :=
  fun e => h (e ▸ rfl)

theorem reset_table_wf : tableWf Visitor.freeEntry State.reset.vtb.entries := by decide

end Sys2Proof.Machine
end

