-- ==== Sys2Proof/Laws/Ops.lean ====
section
/-! SUPPORT. What each shared operation can do, said once: notice sources, marks and the sweep engine, the taking
of a request, targets and levels, a record's close, the selector's steps and the delivery of a packet. -/

namespace Sys2Proof.Machine

/-! ## Notice sources -/

@[simp] theorem noticeGet_set_self (n : Ntu) (x : Source) (f : NoticeFlags) :
    noticeGet (noticeSet n x f) x = f := by cases x <;> rfl

@[simp] theorem noticeGet_set_ne (n : Ntu) {x y : Source} (f : NoticeFlags) (h : y ≠ x) :
    noticeGet (noticeSet n x f) y = noticeGet n y := by
  cases x <;> cases y <;> first | rfl | exact absurd rfl h

@[simp] theorem raiseFlags_pending (f : NoticeFlags) : (raiseFlags f).pending = true := by
  unfold raiseFlags; split <;> simp_all

theorem raiseNotice_eq (x : Source) (s : State) :
    raiseNotice x s = s.setNtu (noticeSet s.ntu x (raiseFlags (noticeGet s.ntu x))) := rfl

theorem raiseNotice_sets (x : Source) (s : State) :
    (noticeGet (raiseNotice x s).ntu x).pending = true := by simp [raiseNotice]

theorem raiseNotice_other {x y : Source} (s : State) (h : y ≠ x) :
    noticeGet (raiseNotice x s).ntu y = noticeGet s.ntu y := by simp [raiseNotice, h]

/-- A raised notice touches the Notice Unit alone. -/
theorem raiseNotice_frame (x : Source) (s : State) :
    raiseNotice x s = { s with ntu := (raiseNotice x s).ntu } := rfl

theorem refreshCredit_frame (s : State) : refreshCredit s = { s with ntu := (refreshCredit s).ntu } := by
  unfold refreshCredit; split <;> rfl

theorem offerCredit_frame (i : Nat) (s : State) :
    offerCredit i s = { s with ntu := (offerCredit i s).ntu } := by
  unfold offerCredit
  split
  · rfl
  · split <;> (rw [refreshCredit_frame]; rfl)

theorem dropCredit_frame (i : Nat) (s : State) :
    dropCredit i s = { s with ntu := (dropCredit i s).ntu } := by
  unfold dropCredit
  split
  · rw [refreshCredit_frame]; rfl
  · rfl

/-! ## Marks and the sweep engine -/

theorem refreshEngine_frame (s : State) : refreshEngine s = { s with rse := (refreshEngine s).rse } := by
  unfold refreshEngine; split <;> rfl

@[simp] theorem refreshEngine_vtb (s : State) : (refreshEngine s).vtb = s.vtb := by
  rw [refreshEngine_frame]

@[simp] theorem refreshEngine_visitor (s : State) (i : Nat) :
    (refreshEngine s).visitor i = s.visitor i := by
  rw [refreshEngine_frame]; rfl

/-- After a refresh the engine runs exactly while a mark is set (R89). -/
theorem refreshEngine_running (s : State) : (refreshEngine s).rse.running = marksOwed (refreshEngine s) := by
  have h : marksOwed (refreshEngine s) = marksOwed s := by unfold marksOwed; rw [refreshEngine_vtb]
  rw [h]
  unfold refreshEngine
  cases h1 : s.rse.running <;> cases h2 : marksOwed s <;> simp [h1]

theorem bulkReview_frame (s : State) :
    bulkReview s = { s with vtb := (bulkReview s).vtb, rse := (bulkReview s).rse } := by
  unfold bulkReview; rw [refreshEngine_frame]; rfl

theorem bulkReview_visitor (s : State) (i : Nat) :
    (bulkReview s).visitor i = setReviewMark (s.visitor i) := by
  unfold bulkReview; rw [refreshEngine_visitor]; exact tableRead_map _ _ rfl _ _

theorem setReviewMark_marked (v : Visitor) (h : (setReviewMark v).lifecycle ≠ .free) :
    (setReviewMark v).reviewMark = true := by
  unfold setReviewMark at *; split <;> simp_all

theorem setReviewMark_rest (v : Visitor) :
    { setReviewMark v with reviewMark := false } = { v with reviewMark := false } := by
  unfold setReviewMark; split <;> rfl

theorem bulkClose_frame (s : State) :
    bulkClose s = { s with vtb := (bulkClose s).vtb, rse := (bulkClose s).rse } := by
  unfold bulkClose; rw [refreshEngine_frame]; rfl

theorem bulkClose_visitor (s : State) (i : Nat) :
    (bulkClose s).visitor i = setCloseMark (s.visitor i) := by
  unfold bulkClose; rw [refreshEngine_visitor]; exact tableRead_map _ _ rfl _ _

theorem partnerReview_visitor (n : Fin 128) (s : State) (i : Nat) :
    (partnerReview n s).visitor i = setPartnerReviewMark n (s.visitor i) := by
  unfold partnerReview; rw [refreshEngine_visitor]; exact tableRead_map _ _ rfl _ _

/-! ## Requests -/

theorem takeNamed_of_head {port : Port} {fits : Name → Bool} {run : Request → State → State} {s : State}
    {r : Request} (h : headRequest s port = some r) (hf : fits r.name = true)
    (hp : portFree s port = true) : takeNamed port fits run s = run r (dropRequest port s) := by
  simp [takeNamed, h, hf, hp]

/-- A step that takes nothing leaves the state as it is. -/
theorem takeNamed_of_none {port : Port} {fits : Name → Bool} {run : Request → State → State} {s : State}
    (h : headRequest s port = none) : takeNamed port fits run s = s := by simp [takeNamed, h]

theorem generalCheck_ship {r : Request} (hn : r.name ∈ requestNames)
    (hr : hasRepeat (r.items.map (fun i => i.name)) = false) : generalCheck .ship r = none := by
  simp [generalCheck, hn, hr]

/-- A request at the head of the ship queue that its body executes. -/
theorem request_ship_done {name : String} {taken : List Name} {body : Request → State → Answer}
    {s t : State} {r : Request} {adjusted : Bool} {items : List Item} {records : List Record}
    (h : ShipHead name r s) (hn : nm name ∈ requestNames)
    (hb : body r (dropRequest .ship s) = .done adjusted items records t) :
    request .ship name taken body s = .next (doneAt r taken adjusted items records t) := by
  obtain ⟨h1, h2, h3, h4⟩ := h
  have hg : generalCheck .ship r = none := generalCheck_ship (h2 ▸ hn) h3
  simp [request, takeNamed, h1, h2, h4, execute, answer, hg, hb, settle, examined, doneAt]

/-- A request at the head of the ship queue that its body refuses. -/
theorem request_ship_refused {name : String} {taken : List Name} {body : Request → State → Answer}
    {s : State} {r : Request} {status : Status} (h : ShipHead name r s) (hn : nm name ∈ requestNames)
    (hs : status ≠ .notPermitted) (hb : body r (dropRequest .ship s) = .refused status) :
    request .ship name taken body s = .next (refusedAt r taken status s) := by
  obtain ⟨h1, h2, h3, h4⟩ := h
  have hg : generalCheck .ship r = none := generalCheck_ship (h2 ▸ hn) h3
  have he : (status != .notPermitted) = true := by cases status <;> first | rfl | exact absurd rfl hs
  simp [request, takeNamed, h1, h2, h4, execute, answer, hg, hb, settle, examined, refusedAt, he]

/-! ## Targets and levels -/

theorem retarget_frame (s : State) : retarget s = { s with cvu := (retarget s).cvu } := rfl

theorem retarget_cell (s : State) (c : Cell) :
    (retarget s).cell c = applyTarget (targetOf (currentTerms s).cap s.cvu c) (s.cell c) := by
  simp [retarget, State.cell, State.setCvu, retargetUnder]

theorem targetOf_le_cap (cap : Nat) (u : Cvu) (c : Cell) : targetOf cap u c ≤ cap := by
  unfold targetOf; dsimp only; split <;> omega

theorem applyTarget_levels (t : Nat) (h : CellHead) :
    (applyTarget t h).pendingLevel = t ∧ (applyTarget t h).target = t ∧
      (applyTarget t h).activeLevel ≤ t := by
  unfold applyTarget; split
  · simp
  · simp; omega

theorem applyTarget_state (t : Nat) (h : CellHead) : (applyTarget t h).state = h.state := by
  unfold applyTarget; split <;> rfl

/-- After a retarget every cell head's levels obey the law under the current cap (R162, R165). -/
theorem retarget_levelLaw (s : State) (c : Cell) :
    LevelLaw (currentTerms s).cap ((retarget s).cell c) := by
  rw [retarget_cell]
  obtain ⟨h1, h2, h3⟩ := applyTarget_levels (targetOf (currentTerms s).cap s.cvu c) (s.cell c)
  refine ⟨by rw [h1, h2], by omega, by rw [h2]; exact targetOf_le_cap _ _ _, fun h => ?_⟩
  rw [applyTarget_state] at h
  rw [h2]
  unfold targetOf
  exact if_neg h

/-! ## Records -/

theorem reopen_frame (i : Nat) (s : State) : reopen i s = { s with vtb := (reopen i s).vtb } := rfl

theorem joinQueue_frame (i : Nat) (tag : Tag) (why : CloseReason) (r : OpenRecord) (s : State) :
    joinQueue i tag why r s =
      { s with rcq := (joinQueue i tag why r s).rcq, ntu := (joinQueue i tag why r s).ntu } := by
  unfold joinQueue; dsimp only; split <;> rfl

theorem spillRecord_frame (i : Nat) (r : OpenRecord) (s : State) :
    spillRecord i r s = { s with
      vtb := (spillRecord i r s).vtb, rcq := (spillRecord i r s).rcq,
      ntu := (spillRecord i r s).ntu } := rfl

/-- A close touches the visitor table, the record queue and the notice sources alone. -/
theorem closeRecord_frame (i : Nat) (why : CloseReason) (s : State) :
    (closeRecord i why s).1 = { s with
      vtb := (closeRecord i why s).1.vtb, rcq := (closeRecord i why s).1.rcq,
      ntu := (closeRecord i why s).1.ntu } := by
  unfold closeRecord
  split
  · rfl
  · split
    · rfl
    · split
      · show reopen i (joinQueue _ _ _ _ _) = _
        rw [reopen_frame, joinQueue_frame]
      · rfl

/-! ## The selector's steps -/

theorem openDrain_frame (p : Path) (s : State) : openDrain p s = { s with psl := (openDrain p s).psl } := rfl

theorem closeDrain_frame (p : Path) (s : State) :
    closeDrain p s = { s with psl := (closeDrain p s).psl } := rfl

theorem drainIfUp_frame (p : Path) (s : State) : drainIfUp p s = { s with psl := (drainIfUp p s).psl } := by
  unfold drainIfUp; split
  · exact openDrain_frame p s
  · rfl

theorem makeDue_frame (p : Path) (d : Due) (s : State) :
    makeDue p d s = { s with shore := (makeDue p d s).shore } := rfl

theorem withdrawDue_frame (p : Path) (f : Due → Bool) (s : State) :
    withdrawDue p f s = { s with shore := (withdrawDue p f s).shore } := rfl

theorem withdrawPathSwap_frame (s : State) :
    withdrawPathSwap s = { s with shore := (withdrawPathSwap s).shore } := rfl

theorem splice_frame (a b : Path) (s : State) :
    splice a b s = { s with shore := (splice a b s).shore } := rfl

/-! ## The delivery of a packet -/

theorem blockPacket_frame (i : Nat) (why : Refused) (s : State) :
    blockPacket i why s = { s with vtb := (blockPacket i why s).vtb } := rfl

theorem writeCharge_frame (i n : Nat) (d : Direction) (v : Visitor) (r : OpenRecord) (s : State) :
    writeCharge i n d v r s =
      { s with vtb := (writeCharge i n d v r s).vtb, ntu := (writeCharge i n d v r s).ntu } := by
  unfold writeCharge; dsimp only; split
  · rw [offerCredit_frame]; rfl
  · rfl

end Sys2Proof.Machine
end

