-- ==== Sys2Proof/Laws/Frames.lean ====
section
/-! SUPPORT. The fields of the state that each shared operation leaves as they stand, one lemma per operation and
field, and the resequencer's own part in a delivery. -/

namespace Sys2Proof.Machine

@[simp] theorem refreshEngine_shi (s : State) : (refreshEngine s).shi = s.shi := by rw [refreshEngine_frame]
@[simp] theorem refreshEngine_shore (s : State) : (refreshEngine s).shore = s.shore := by rw [refreshEngine_frame]
@[simp] theorem refreshEngine_freeBuffers (s : State) : (refreshEngine s).freeBuffers = s.freeBuffers := by rw [refreshEngine_frame]
@[simp] theorem refreshEngine_uplinkSeq (s : State) : (refreshEngine s).uplinkSeq = s.uplinkSeq := by rw [refreshEngine_frame]
@[simp] theorem refreshEngine_rtu (s : State) : (refreshEngine s).rtu = s.rtu := by rw [refreshEngine_frame]
@[simp] theorem refreshEngine_rcq (s : State) : (refreshEngine s).rcq = s.rcq := by rw [refreshEngine_frame]
@[simp] theorem refreshEngine_znu (s : State) : (refreshEngine s).znu = s.znu := by rw [refreshEngine_frame]
@[simp] theorem refreshEngine_psv (s : State) : (refreshEngine s).psv = s.psv := by rw [refreshEngine_frame]
@[simp] theorem refreshEngine_psl (s : State) : (refreshEngine s).psl = s.psl := by rw [refreshEngine_frame]
@[simp] theorem refreshEngine_drs (s : State) : (refreshEngine s).drs = s.drs := by rw [refreshEngine_frame]
@[simp] theorem refreshEngine_cvu (s : State) : (refreshEngine s).cvu = s.cvu := by rw [refreshEngine_frame]
@[simp] theorem refreshEngine_cfu (s : State) : (refreshEngine s).cfu = s.cfu := by rw [refreshEngine_frame]
@[simp] theorem refreshEngine_ntu (s : State) : (refreshEngine s).ntu = s.ntu := by rw [refreshEngine_frame]
@[simp] theorem refreshEngine_clocks (s : State) : (refreshEngine s).clocks = s.clocks := by rw [refreshEngine_frame]
@[simp] theorem refreshEngine_pending (s : State) : (refreshEngine s).pending = s.pending := by rw [refreshEngine_frame]

@[simp] theorem bulkReview_shi (s : State) : (bulkReview s).shi = s.shi := by rw [bulkReview_frame]
@[simp] theorem bulkReview_shore (s : State) : (bulkReview s).shore = s.shore := by rw [bulkReview_frame]
@[simp] theorem bulkReview_freeBuffers (s : State) : (bulkReview s).freeBuffers = s.freeBuffers := by rw [bulkReview_frame]
@[simp] theorem bulkReview_uplinkSeq (s : State) : (bulkReview s).uplinkSeq = s.uplinkSeq := by rw [bulkReview_frame]
@[simp] theorem bulkReview_rtu (s : State) : (bulkReview s).rtu = s.rtu := by rw [bulkReview_frame]
@[simp] theorem bulkReview_rcq (s : State) : (bulkReview s).rcq = s.rcq := by rw [bulkReview_frame]
@[simp] theorem bulkReview_znu (s : State) : (bulkReview s).znu = s.znu := by rw [bulkReview_frame]
@[simp] theorem bulkReview_psv (s : State) : (bulkReview s).psv = s.psv := by rw [bulkReview_frame]
@[simp] theorem bulkReview_psl (s : State) : (bulkReview s).psl = s.psl := by rw [bulkReview_frame]
@[simp] theorem bulkReview_drs (s : State) : (bulkReview s).drs = s.drs := by rw [bulkReview_frame]
@[simp] theorem bulkReview_cvu (s : State) : (bulkReview s).cvu = s.cvu := by rw [bulkReview_frame]
@[simp] theorem bulkReview_cfu (s : State) : (bulkReview s).cfu = s.cfu := by rw [bulkReview_frame]
@[simp] theorem bulkReview_ntu (s : State) : (bulkReview s).ntu = s.ntu := by rw [bulkReview_frame]
@[simp] theorem bulkReview_clocks (s : State) : (bulkReview s).clocks = s.clocks := by rw [bulkReview_frame]
@[simp] theorem bulkReview_pending (s : State) : (bulkReview s).pending = s.pending := by rw [bulkReview_frame]

@[simp] theorem bulkClose_shi (s : State) : (bulkClose s).shi = s.shi := by rw [bulkClose_frame]
@[simp] theorem bulkClose_shore (s : State) : (bulkClose s).shore = s.shore := by rw [bulkClose_frame]
@[simp] theorem bulkClose_freeBuffers (s : State) : (bulkClose s).freeBuffers = s.freeBuffers := by rw [bulkClose_frame]
@[simp] theorem bulkClose_uplinkSeq (s : State) : (bulkClose s).uplinkSeq = s.uplinkSeq := by rw [bulkClose_frame]
@[simp] theorem bulkClose_rtu (s : State) : (bulkClose s).rtu = s.rtu := by rw [bulkClose_frame]
@[simp] theorem bulkClose_rcq (s : State) : (bulkClose s).rcq = s.rcq := by rw [bulkClose_frame]
@[simp] theorem bulkClose_znu (s : State) : (bulkClose s).znu = s.znu := by rw [bulkClose_frame]
@[simp] theorem bulkClose_psv (s : State) : (bulkClose s).psv = s.psv := by rw [bulkClose_frame]
@[simp] theorem bulkClose_psl (s : State) : (bulkClose s).psl = s.psl := by rw [bulkClose_frame]
@[simp] theorem bulkClose_drs (s : State) : (bulkClose s).drs = s.drs := by rw [bulkClose_frame]
@[simp] theorem bulkClose_cvu (s : State) : (bulkClose s).cvu = s.cvu := by rw [bulkClose_frame]
@[simp] theorem bulkClose_cfu (s : State) : (bulkClose s).cfu = s.cfu := by rw [bulkClose_frame]
@[simp] theorem bulkClose_ntu (s : State) : (bulkClose s).ntu = s.ntu := by rw [bulkClose_frame]
@[simp] theorem bulkClose_clocks (s : State) : (bulkClose s).clocks = s.clocks := by rw [bulkClose_frame]
@[simp] theorem bulkClose_pending (s : State) : (bulkClose s).pending = s.pending := by rw [bulkClose_frame]

@[simp] theorem partnerReview_shi (n : Fin 128) (s : State) : (partnerReview n s).shi = s.shi := by unfold partnerReview; simp
@[simp] theorem partnerReview_shore (n : Fin 128) (s : State) : (partnerReview n s).shore = s.shore := by unfold partnerReview; simp
@[simp] theorem partnerReview_freeBuffers (n : Fin 128) (s : State) : (partnerReview n s).freeBuffers = s.freeBuffers := by unfold partnerReview; simp
@[simp] theorem partnerReview_uplinkSeq (n : Fin 128) (s : State) : (partnerReview n s).uplinkSeq = s.uplinkSeq := by unfold partnerReview; simp
@[simp] theorem partnerReview_rtu (n : Fin 128) (s : State) : (partnerReview n s).rtu = s.rtu := by unfold partnerReview; simp
@[simp] theorem partnerReview_rcq (n : Fin 128) (s : State) : (partnerReview n s).rcq = s.rcq := by unfold partnerReview; simp
@[simp] theorem partnerReview_znu (n : Fin 128) (s : State) : (partnerReview n s).znu = s.znu := by unfold partnerReview; simp
@[simp] theorem partnerReview_psv (n : Fin 128) (s : State) : (partnerReview n s).psv = s.psv := by unfold partnerReview; simp
@[simp] theorem partnerReview_psl (n : Fin 128) (s : State) : (partnerReview n s).psl = s.psl := by unfold partnerReview; simp
@[simp] theorem partnerReview_drs (n : Fin 128) (s : State) : (partnerReview n s).drs = s.drs := by unfold partnerReview; simp
@[simp] theorem partnerReview_cvu (n : Fin 128) (s : State) : (partnerReview n s).cvu = s.cvu := by unfold partnerReview; simp
@[simp] theorem partnerReview_cfu (n : Fin 128) (s : State) : (partnerReview n s).cfu = s.cfu := by unfold partnerReview; simp
@[simp] theorem partnerReview_ntu (n : Fin 128) (s : State) : (partnerReview n s).ntu = s.ntu := by unfold partnerReview; simp
@[simp] theorem partnerReview_clocks (n : Fin 128) (s : State) : (partnerReview n s).clocks = s.clocks := by unfold partnerReview; simp
@[simp] theorem partnerReview_pending (n : Fin 128) (s : State) : (partnerReview n s).pending = s.pending := by unfold partnerReview; simp

@[simp] theorem raiseNotice_shi (x : Source) (s : State) : (raiseNotice x s).shi = s.shi := rfl
@[simp] theorem raiseNotice_shore (x : Source) (s : State) : (raiseNotice x s).shore = s.shore := rfl
@[simp] theorem raiseNotice_freeBuffers (x : Source) (s : State) : (raiseNotice x s).freeBuffers = s.freeBuffers := rfl
@[simp] theorem raiseNotice_uplinkSeq (x : Source) (s : State) : (raiseNotice x s).uplinkSeq = s.uplinkSeq := rfl
@[simp] theorem raiseNotice_vtb (x : Source) (s : State) : (raiseNotice x s).vtb = s.vtb := rfl
@[simp] theorem raiseNotice_rtu (x : Source) (s : State) : (raiseNotice x s).rtu = s.rtu := rfl
@[simp] theorem raiseNotice_rcq (x : Source) (s : State) : (raiseNotice x s).rcq = s.rcq := rfl
@[simp] theorem raiseNotice_rse (x : Source) (s : State) : (raiseNotice x s).rse = s.rse := rfl
@[simp] theorem raiseNotice_znu (x : Source) (s : State) : (raiseNotice x s).znu = s.znu := rfl
@[simp] theorem raiseNotice_psv (x : Source) (s : State) : (raiseNotice x s).psv = s.psv := rfl
@[simp] theorem raiseNotice_psl (x : Source) (s : State) : (raiseNotice x s).psl = s.psl := rfl
@[simp] theorem raiseNotice_drs (x : Source) (s : State) : (raiseNotice x s).drs = s.drs := rfl
@[simp] theorem raiseNotice_cvu (x : Source) (s : State) : (raiseNotice x s).cvu = s.cvu := rfl
@[simp] theorem raiseNotice_cfu (x : Source) (s : State) : (raiseNotice x s).cfu = s.cfu := rfl
@[simp] theorem raiseNotice_clocks (x : Source) (s : State) : (raiseNotice x s).clocks = s.clocks := rfl
@[simp] theorem raiseNotice_pending (x : Source) (s : State) : (raiseNotice x s).pending = s.pending := rfl

@[simp] theorem offerCredit_shi (i : Nat) (s : State) : (offerCredit i s).shi = s.shi := by rw [offerCredit_frame]
@[simp] theorem offerCredit_shore (i : Nat) (s : State) : (offerCredit i s).shore = s.shore := by rw [offerCredit_frame]
@[simp] theorem offerCredit_freeBuffers (i : Nat) (s : State) : (offerCredit i s).freeBuffers = s.freeBuffers := by rw [offerCredit_frame]
@[simp] theorem offerCredit_uplinkSeq (i : Nat) (s : State) : (offerCredit i s).uplinkSeq = s.uplinkSeq := by rw [offerCredit_frame]
@[simp] theorem offerCredit_vtb (i : Nat) (s : State) : (offerCredit i s).vtb = s.vtb := by rw [offerCredit_frame]
@[simp] theorem offerCredit_rtu (i : Nat) (s : State) : (offerCredit i s).rtu = s.rtu := by rw [offerCredit_frame]
@[simp] theorem offerCredit_rcq (i : Nat) (s : State) : (offerCredit i s).rcq = s.rcq := by rw [offerCredit_frame]
@[simp] theorem offerCredit_rse (i : Nat) (s : State) : (offerCredit i s).rse = s.rse := by rw [offerCredit_frame]
@[simp] theorem offerCredit_znu (i : Nat) (s : State) : (offerCredit i s).znu = s.znu := by rw [offerCredit_frame]
@[simp] theorem offerCredit_psv (i : Nat) (s : State) : (offerCredit i s).psv = s.psv := by rw [offerCredit_frame]
@[simp] theorem offerCredit_psl (i : Nat) (s : State) : (offerCredit i s).psl = s.psl := by rw [offerCredit_frame]
@[simp] theorem offerCredit_drs (i : Nat) (s : State) : (offerCredit i s).drs = s.drs := by rw [offerCredit_frame]
@[simp] theorem offerCredit_cvu (i : Nat) (s : State) : (offerCredit i s).cvu = s.cvu := by rw [offerCredit_frame]
@[simp] theorem offerCredit_cfu (i : Nat) (s : State) : (offerCredit i s).cfu = s.cfu := by rw [offerCredit_frame]
@[simp] theorem offerCredit_clocks (i : Nat) (s : State) : (offerCredit i s).clocks = s.clocks := by rw [offerCredit_frame]
@[simp] theorem offerCredit_pending (i : Nat) (s : State) : (offerCredit i s).pending = s.pending := by rw [offerCredit_frame]

@[simp] theorem dropCredit_shi (i : Nat) (s : State) : (dropCredit i s).shi = s.shi := by rw [dropCredit_frame]
@[simp] theorem dropCredit_shore (i : Nat) (s : State) : (dropCredit i s).shore = s.shore := by rw [dropCredit_frame]
@[simp] theorem dropCredit_freeBuffers (i : Nat) (s : State) : (dropCredit i s).freeBuffers = s.freeBuffers := by rw [dropCredit_frame]
@[simp] theorem dropCredit_uplinkSeq (i : Nat) (s : State) : (dropCredit i s).uplinkSeq = s.uplinkSeq := by rw [dropCredit_frame]
@[simp] theorem dropCredit_vtb (i : Nat) (s : State) : (dropCredit i s).vtb = s.vtb := by rw [dropCredit_frame]
@[simp] theorem dropCredit_rtu (i : Nat) (s : State) : (dropCredit i s).rtu = s.rtu := by rw [dropCredit_frame]
@[simp] theorem dropCredit_rcq (i : Nat) (s : State) : (dropCredit i s).rcq = s.rcq := by rw [dropCredit_frame]
@[simp] theorem dropCredit_rse (i : Nat) (s : State) : (dropCredit i s).rse = s.rse := by rw [dropCredit_frame]
@[simp] theorem dropCredit_znu (i : Nat) (s : State) : (dropCredit i s).znu = s.znu := by rw [dropCredit_frame]
@[simp] theorem dropCredit_psv (i : Nat) (s : State) : (dropCredit i s).psv = s.psv := by rw [dropCredit_frame]
@[simp] theorem dropCredit_psl (i : Nat) (s : State) : (dropCredit i s).psl = s.psl := by rw [dropCredit_frame]
@[simp] theorem dropCredit_drs (i : Nat) (s : State) : (dropCredit i s).drs = s.drs := by rw [dropCredit_frame]
@[simp] theorem dropCredit_cvu (i : Nat) (s : State) : (dropCredit i s).cvu = s.cvu := by rw [dropCredit_frame]
@[simp] theorem dropCredit_cfu (i : Nat) (s : State) : (dropCredit i s).cfu = s.cfu := by rw [dropCredit_frame]
@[simp] theorem dropCredit_clocks (i : Nat) (s : State) : (dropCredit i s).clocks = s.clocks := by rw [dropCredit_frame]
@[simp] theorem dropCredit_pending (i : Nat) (s : State) : (dropCredit i s).pending = s.pending := by rw [dropCredit_frame]

@[simp] theorem countShip_shore (f : ShipCounters → ShipCounters) (s : State) : (s.countShip f).shore = s.shore := rfl
@[simp] theorem countShip_freeBuffers (f : ShipCounters → ShipCounters) (s : State) : (s.countShip f).freeBuffers = s.freeBuffers := rfl
@[simp] theorem countShip_uplinkSeq (f : ShipCounters → ShipCounters) (s : State) : (s.countShip f).uplinkSeq = s.uplinkSeq := rfl
@[simp] theorem countShip_vtb (f : ShipCounters → ShipCounters) (s : State) : (s.countShip f).vtb = s.vtb := rfl
@[simp] theorem countShip_rtu (f : ShipCounters → ShipCounters) (s : State) : (s.countShip f).rtu = s.rtu := rfl
@[simp] theorem countShip_rcq (f : ShipCounters → ShipCounters) (s : State) : (s.countShip f).rcq = s.rcq := rfl
@[simp] theorem countShip_rse (f : ShipCounters → ShipCounters) (s : State) : (s.countShip f).rse = s.rse := rfl
@[simp] theorem countShip_znu (f : ShipCounters → ShipCounters) (s : State) : (s.countShip f).znu = s.znu := rfl
@[simp] theorem countShip_psv (f : ShipCounters → ShipCounters) (s : State) : (s.countShip f).psv = s.psv := rfl
@[simp] theorem countShip_psl (f : ShipCounters → ShipCounters) (s : State) : (s.countShip f).psl = s.psl := rfl
@[simp] theorem countShip_drs (f : ShipCounters → ShipCounters) (s : State) : (s.countShip f).drs = s.drs := rfl
@[simp] theorem countShip_cvu (f : ShipCounters → ShipCounters) (s : State) : (s.countShip f).cvu = s.cvu := rfl
@[simp] theorem countShip_cfu (f : ShipCounters → ShipCounters) (s : State) : (s.countShip f).cfu = s.cfu := rfl
@[simp] theorem countShip_ntu (f : ShipCounters → ShipCounters) (s : State) : (s.countShip f).ntu = s.ntu := rfl
@[simp] theorem countShip_clocks (f : ShipCounters → ShipCounters) (s : State) : (s.countShip f).clocks = s.clocks := rfl
@[simp] theorem countShip_pending (f : ShipCounters → ShipCounters) (s : State) : (s.countShip f).pending = s.pending := rfl

@[simp] theorem countShore_shi (p : Path) (f : ShoreCounters → ShoreCounters) (s : State) : (s.countShore p f).shi = s.shi := rfl
@[simp] theorem countShore_freeBuffers (p : Path) (f : ShoreCounters → ShoreCounters) (s : State) : (s.countShore p f).freeBuffers = s.freeBuffers := rfl
@[simp] theorem countShore_uplinkSeq (p : Path) (f : ShoreCounters → ShoreCounters) (s : State) : (s.countShore p f).uplinkSeq = s.uplinkSeq := rfl
@[simp] theorem countShore_vtb (p : Path) (f : ShoreCounters → ShoreCounters) (s : State) : (s.countShore p f).vtb = s.vtb := rfl
@[simp] theorem countShore_rtu (p : Path) (f : ShoreCounters → ShoreCounters) (s : State) : (s.countShore p f).rtu = s.rtu := rfl
@[simp] theorem countShore_rcq (p : Path) (f : ShoreCounters → ShoreCounters) (s : State) : (s.countShore p f).rcq = s.rcq := rfl
@[simp] theorem countShore_rse (p : Path) (f : ShoreCounters → ShoreCounters) (s : State) : (s.countShore p f).rse = s.rse := rfl
@[simp] theorem countShore_znu (p : Path) (f : ShoreCounters → ShoreCounters) (s : State) : (s.countShore p f).znu = s.znu := rfl
@[simp] theorem countShore_psv (p : Path) (f : ShoreCounters → ShoreCounters) (s : State) : (s.countShore p f).psv = s.psv := rfl
@[simp] theorem countShore_psl (p : Path) (f : ShoreCounters → ShoreCounters) (s : State) : (s.countShore p f).psl = s.psl := rfl
@[simp] theorem countShore_drs (p : Path) (f : ShoreCounters → ShoreCounters) (s : State) : (s.countShore p f).drs = s.drs := rfl
@[simp] theorem countShore_cvu (p : Path) (f : ShoreCounters → ShoreCounters) (s : State) : (s.countShore p f).cvu = s.cvu := rfl
@[simp] theorem countShore_cfu (p : Path) (f : ShoreCounters → ShoreCounters) (s : State) : (s.countShore p f).cfu = s.cfu := rfl
@[simp] theorem countShore_ntu (p : Path) (f : ShoreCounters → ShoreCounters) (s : State) : (s.countShore p f).ntu = s.ntu := rfl
@[simp] theorem countShore_clocks (p : Path) (f : ShoreCounters → ShoreCounters) (s : State) : (s.countShore p f).clocks = s.clocks := rfl
@[simp] theorem countShore_pending (p : Path) (f : ShoreCounters → ShoreCounters) (s : State) : (s.countShore p f).pending = s.pending := rfl

@[simp] theorem returnBuffers_shi (n : Nat) (s : State) : (s.returnBuffers n).shi = s.shi := rfl
@[simp] theorem returnBuffers_shore (n : Nat) (s : State) : (s.returnBuffers n).shore = s.shore := rfl
@[simp] theorem returnBuffers_uplinkSeq (n : Nat) (s : State) : (s.returnBuffers n).uplinkSeq = s.uplinkSeq := rfl
@[simp] theorem returnBuffers_vtb (n : Nat) (s : State) : (s.returnBuffers n).vtb = s.vtb := rfl
@[simp] theorem returnBuffers_rtu (n : Nat) (s : State) : (s.returnBuffers n).rtu = s.rtu := rfl
@[simp] theorem returnBuffers_rcq (n : Nat) (s : State) : (s.returnBuffers n).rcq = s.rcq := rfl
@[simp] theorem returnBuffers_rse (n : Nat) (s : State) : (s.returnBuffers n).rse = s.rse := rfl
@[simp] theorem returnBuffers_znu (n : Nat) (s : State) : (s.returnBuffers n).znu = s.znu := rfl
@[simp] theorem returnBuffers_psv (n : Nat) (s : State) : (s.returnBuffers n).psv = s.psv := rfl
@[simp] theorem returnBuffers_psl (n : Nat) (s : State) : (s.returnBuffers n).psl = s.psl := rfl
@[simp] theorem returnBuffers_drs (n : Nat) (s : State) : (s.returnBuffers n).drs = s.drs := rfl
@[simp] theorem returnBuffers_cvu (n : Nat) (s : State) : (s.returnBuffers n).cvu = s.cvu := rfl
@[simp] theorem returnBuffers_cfu (n : Nat) (s : State) : (s.returnBuffers n).cfu = s.cfu := rfl
@[simp] theorem returnBuffers_ntu (n : Nat) (s : State) : (s.returnBuffers n).ntu = s.ntu := rfl
@[simp] theorem returnBuffers_clocks (n : Nat) (s : State) : (s.returnBuffers n).clocks = s.clocks := rfl
@[simp] theorem returnBuffers_pending (n : Nat) (s : State) : (s.returnBuffers n).pending = s.pending := rfl

@[simp] theorem takeBuffer_shi (s : State) : (s.takeBuffer).shi = s.shi := rfl
@[simp] theorem takeBuffer_shore (s : State) : (s.takeBuffer).shore = s.shore := rfl
@[simp] theorem takeBuffer_uplinkSeq (s : State) : (s.takeBuffer).uplinkSeq = s.uplinkSeq := rfl
@[simp] theorem takeBuffer_vtb (s : State) : (s.takeBuffer).vtb = s.vtb := rfl
@[simp] theorem takeBuffer_rtu (s : State) : (s.takeBuffer).rtu = s.rtu := rfl
@[simp] theorem takeBuffer_rcq (s : State) : (s.takeBuffer).rcq = s.rcq := rfl
@[simp] theorem takeBuffer_rse (s : State) : (s.takeBuffer).rse = s.rse := rfl
@[simp] theorem takeBuffer_znu (s : State) : (s.takeBuffer).znu = s.znu := rfl
@[simp] theorem takeBuffer_psv (s : State) : (s.takeBuffer).psv = s.psv := rfl
@[simp] theorem takeBuffer_psl (s : State) : (s.takeBuffer).psl = s.psl := rfl
@[simp] theorem takeBuffer_drs (s : State) : (s.takeBuffer).drs = s.drs := rfl
@[simp] theorem takeBuffer_cvu (s : State) : (s.takeBuffer).cvu = s.cvu := rfl
@[simp] theorem takeBuffer_cfu (s : State) : (s.takeBuffer).cfu = s.cfu := rfl
@[simp] theorem takeBuffer_ntu (s : State) : (s.takeBuffer).ntu = s.ntu := rfl
@[simp] theorem takeBuffer_clocks (s : State) : (s.takeBuffer).clocks = s.clocks := rfl
@[simp] theorem takeBuffer_pending (s : State) : (s.takeBuffer).pending = s.pending := rfl

@[simp] theorem modPath_shi (p : Path) (f : Psv → Psv) (s : State) : (s.modPath p f).shi = s.shi := rfl
@[simp] theorem modPath_shore (p : Path) (f : Psv → Psv) (s : State) : (s.modPath p f).shore = s.shore := rfl
@[simp] theorem modPath_freeBuffers (p : Path) (f : Psv → Psv) (s : State) : (s.modPath p f).freeBuffers = s.freeBuffers := rfl
@[simp] theorem modPath_uplinkSeq (p : Path) (f : Psv → Psv) (s : State) : (s.modPath p f).uplinkSeq = s.uplinkSeq := rfl
@[simp] theorem modPath_vtb (p : Path) (f : Psv → Psv) (s : State) : (s.modPath p f).vtb = s.vtb := rfl
@[simp] theorem modPath_rtu (p : Path) (f : Psv → Psv) (s : State) : (s.modPath p f).rtu = s.rtu := rfl
@[simp] theorem modPath_rcq (p : Path) (f : Psv → Psv) (s : State) : (s.modPath p f).rcq = s.rcq := rfl
@[simp] theorem modPath_rse (p : Path) (f : Psv → Psv) (s : State) : (s.modPath p f).rse = s.rse := rfl
@[simp] theorem modPath_znu (p : Path) (f : Psv → Psv) (s : State) : (s.modPath p f).znu = s.znu := rfl
@[simp] theorem modPath_psl (p : Path) (f : Psv → Psv) (s : State) : (s.modPath p f).psl = s.psl := rfl
@[simp] theorem modPath_drs (p : Path) (f : Psv → Psv) (s : State) : (s.modPath p f).drs = s.drs := rfl
@[simp] theorem modPath_cvu (p : Path) (f : Psv → Psv) (s : State) : (s.modPath p f).cvu = s.cvu := rfl
@[simp] theorem modPath_cfu (p : Path) (f : Psv → Psv) (s : State) : (s.modPath p f).cfu = s.cfu := rfl
@[simp] theorem modPath_ntu (p : Path) (f : Psv → Psv) (s : State) : (s.modPath p f).ntu = s.ntu := rfl
@[simp] theorem modPath_clocks (p : Path) (f : Psv → Psv) (s : State) : (s.modPath p f).clocks = s.clocks := rfl
@[simp] theorem modPath_pending (p : Path) (f : Psv → Psv) (s : State) : (s.modPath p f).pending = s.pending := rfl

@[simp] theorem modPort_shi (p : Path) (f : ShorePort → ShorePort) (s : State) : (s.modPort p f).shi = s.shi := rfl
@[simp] theorem modPort_freeBuffers (p : Path) (f : ShorePort → ShorePort) (s : State) : (s.modPort p f).freeBuffers = s.freeBuffers := rfl
@[simp] theorem modPort_uplinkSeq (p : Path) (f : ShorePort → ShorePort) (s : State) : (s.modPort p f).uplinkSeq = s.uplinkSeq := rfl
@[simp] theorem modPort_vtb (p : Path) (f : ShorePort → ShorePort) (s : State) : (s.modPort p f).vtb = s.vtb := rfl
@[simp] theorem modPort_rtu (p : Path) (f : ShorePort → ShorePort) (s : State) : (s.modPort p f).rtu = s.rtu := rfl
@[simp] theorem modPort_rcq (p : Path) (f : ShorePort → ShorePort) (s : State) : (s.modPort p f).rcq = s.rcq := rfl
@[simp] theorem modPort_rse (p : Path) (f : ShorePort → ShorePort) (s : State) : (s.modPort p f).rse = s.rse := rfl
@[simp] theorem modPort_znu (p : Path) (f : ShorePort → ShorePort) (s : State) : (s.modPort p f).znu = s.znu := rfl
@[simp] theorem modPort_psv (p : Path) (f : ShorePort → ShorePort) (s : State) : (s.modPort p f).psv = s.psv := rfl
@[simp] theorem modPort_psl (p : Path) (f : ShorePort → ShorePort) (s : State) : (s.modPort p f).psl = s.psl := rfl
@[simp] theorem modPort_drs (p : Path) (f : ShorePort → ShorePort) (s : State) : (s.modPort p f).drs = s.drs := rfl
@[simp] theorem modPort_cvu (p : Path) (f : ShorePort → ShorePort) (s : State) : (s.modPort p f).cvu = s.cvu := rfl
@[simp] theorem modPort_cfu (p : Path) (f : ShorePort → ShorePort) (s : State) : (s.modPort p f).cfu = s.cfu := rfl
@[simp] theorem modPort_ntu (p : Path) (f : ShorePort → ShorePort) (s : State) : (s.modPort p f).ntu = s.ntu := rfl
@[simp] theorem modPort_clocks (p : Path) (f : ShorePort → ShorePort) (s : State) : (s.modPort p f).clocks = s.clocks := rfl
@[simp] theorem modPort_pending (p : Path) (f : ShorePort → ShorePort) (s : State) : (s.modPort p f).pending = s.pending := rfl

@[simp] theorem makeDue_shi (p : Path) (d : Due) (s : State) : (makeDue p d s).shi = s.shi := rfl
@[simp] theorem makeDue_freeBuffers (p : Path) (d : Due) (s : State) : (makeDue p d s).freeBuffers = s.freeBuffers := rfl
@[simp] theorem makeDue_uplinkSeq (p : Path) (d : Due) (s : State) : (makeDue p d s).uplinkSeq = s.uplinkSeq := rfl
@[simp] theorem makeDue_vtb (p : Path) (d : Due) (s : State) : (makeDue p d s).vtb = s.vtb := rfl
@[simp] theorem makeDue_rtu (p : Path) (d : Due) (s : State) : (makeDue p d s).rtu = s.rtu := rfl
@[simp] theorem makeDue_rcq (p : Path) (d : Due) (s : State) : (makeDue p d s).rcq = s.rcq := rfl
@[simp] theorem makeDue_rse (p : Path) (d : Due) (s : State) : (makeDue p d s).rse = s.rse := rfl
@[simp] theorem makeDue_znu (p : Path) (d : Due) (s : State) : (makeDue p d s).znu = s.znu := rfl
@[simp] theorem makeDue_psv (p : Path) (d : Due) (s : State) : (makeDue p d s).psv = s.psv := rfl
@[simp] theorem makeDue_psl (p : Path) (d : Due) (s : State) : (makeDue p d s).psl = s.psl := rfl
@[simp] theorem makeDue_drs (p : Path) (d : Due) (s : State) : (makeDue p d s).drs = s.drs := rfl
@[simp] theorem makeDue_cvu (p : Path) (d : Due) (s : State) : (makeDue p d s).cvu = s.cvu := rfl
@[simp] theorem makeDue_cfu (p : Path) (d : Due) (s : State) : (makeDue p d s).cfu = s.cfu := rfl
@[simp] theorem makeDue_ntu (p : Path) (d : Due) (s : State) : (makeDue p d s).ntu = s.ntu := rfl
@[simp] theorem makeDue_clocks (p : Path) (d : Due) (s : State) : (makeDue p d s).clocks = s.clocks := rfl
@[simp] theorem makeDue_pending (p : Path) (d : Due) (s : State) : (makeDue p d s).pending = s.pending := rfl

@[simp] theorem withdrawDue_shi (p : Path) (f : Due → Bool) (s : State) : (withdrawDue p f s).shi = s.shi := rfl
@[simp] theorem withdrawDue_freeBuffers (p : Path) (f : Due → Bool) (s : State) : (withdrawDue p f s).freeBuffers = s.freeBuffers := rfl
@[simp] theorem withdrawDue_uplinkSeq (p : Path) (f : Due → Bool) (s : State) : (withdrawDue p f s).uplinkSeq = s.uplinkSeq := rfl
@[simp] theorem withdrawDue_vtb (p : Path) (f : Due → Bool) (s : State) : (withdrawDue p f s).vtb = s.vtb := rfl
@[simp] theorem withdrawDue_rtu (p : Path) (f : Due → Bool) (s : State) : (withdrawDue p f s).rtu = s.rtu := rfl
@[simp] theorem withdrawDue_rcq (p : Path) (f : Due → Bool) (s : State) : (withdrawDue p f s).rcq = s.rcq := rfl
@[simp] theorem withdrawDue_rse (p : Path) (f : Due → Bool) (s : State) : (withdrawDue p f s).rse = s.rse := rfl
@[simp] theorem withdrawDue_znu (p : Path) (f : Due → Bool) (s : State) : (withdrawDue p f s).znu = s.znu := rfl
@[simp] theorem withdrawDue_psv (p : Path) (f : Due → Bool) (s : State) : (withdrawDue p f s).psv = s.psv := rfl
@[simp] theorem withdrawDue_psl (p : Path) (f : Due → Bool) (s : State) : (withdrawDue p f s).psl = s.psl := rfl
@[simp] theorem withdrawDue_drs (p : Path) (f : Due → Bool) (s : State) : (withdrawDue p f s).drs = s.drs := rfl
@[simp] theorem withdrawDue_cvu (p : Path) (f : Due → Bool) (s : State) : (withdrawDue p f s).cvu = s.cvu := rfl
@[simp] theorem withdrawDue_cfu (p : Path) (f : Due → Bool) (s : State) : (withdrawDue p f s).cfu = s.cfu := rfl
@[simp] theorem withdrawDue_ntu (p : Path) (f : Due → Bool) (s : State) : (withdrawDue p f s).ntu = s.ntu := rfl
@[simp] theorem withdrawDue_clocks (p : Path) (f : Due → Bool) (s : State) : (withdrawDue p f s).clocks = s.clocks := rfl
@[simp] theorem withdrawDue_pending (p : Path) (f : Due → Bool) (s : State) : (withdrawDue p f s).pending = s.pending := rfl

@[simp] theorem withdrawPathSwap_shi (s : State) : (withdrawPathSwap s).shi = s.shi := rfl
@[simp] theorem withdrawPathSwap_freeBuffers (s : State) : (withdrawPathSwap s).freeBuffers = s.freeBuffers := rfl
@[simp] theorem withdrawPathSwap_uplinkSeq (s : State) : (withdrawPathSwap s).uplinkSeq = s.uplinkSeq := rfl
@[simp] theorem withdrawPathSwap_vtb (s : State) : (withdrawPathSwap s).vtb = s.vtb := rfl
@[simp] theorem withdrawPathSwap_rtu (s : State) : (withdrawPathSwap s).rtu = s.rtu := rfl
@[simp] theorem withdrawPathSwap_rcq (s : State) : (withdrawPathSwap s).rcq = s.rcq := rfl
@[simp] theorem withdrawPathSwap_rse (s : State) : (withdrawPathSwap s).rse = s.rse := rfl
@[simp] theorem withdrawPathSwap_znu (s : State) : (withdrawPathSwap s).znu = s.znu := rfl
@[simp] theorem withdrawPathSwap_psv (s : State) : (withdrawPathSwap s).psv = s.psv := rfl
@[simp] theorem withdrawPathSwap_psl (s : State) : (withdrawPathSwap s).psl = s.psl := rfl
@[simp] theorem withdrawPathSwap_drs (s : State) : (withdrawPathSwap s).drs = s.drs := rfl
@[simp] theorem withdrawPathSwap_cvu (s : State) : (withdrawPathSwap s).cvu = s.cvu := rfl
@[simp] theorem withdrawPathSwap_cfu (s : State) : (withdrawPathSwap s).cfu = s.cfu := rfl
@[simp] theorem withdrawPathSwap_ntu (s : State) : (withdrawPathSwap s).ntu = s.ntu := rfl
@[simp] theorem withdrawPathSwap_clocks (s : State) : (withdrawPathSwap s).clocks = s.clocks := rfl
@[simp] theorem withdrawPathSwap_pending (s : State) : (withdrawPathSwap s).pending = s.pending := rfl

@[simp] theorem splice_shi (a b : Path) (s : State) : (splice a b s).shi = s.shi := rfl
@[simp] theorem splice_freeBuffers (a b : Path) (s : State) : (splice a b s).freeBuffers = s.freeBuffers := rfl
@[simp] theorem splice_uplinkSeq (a b : Path) (s : State) : (splice a b s).uplinkSeq = s.uplinkSeq := rfl
@[simp] theorem splice_vtb (a b : Path) (s : State) : (splice a b s).vtb = s.vtb := rfl
@[simp] theorem splice_rtu (a b : Path) (s : State) : (splice a b s).rtu = s.rtu := rfl
@[simp] theorem splice_rcq (a b : Path) (s : State) : (splice a b s).rcq = s.rcq := rfl
@[simp] theorem splice_rse (a b : Path) (s : State) : (splice a b s).rse = s.rse := rfl
@[simp] theorem splice_znu (a b : Path) (s : State) : (splice a b s).znu = s.znu := rfl
@[simp] theorem splice_psv (a b : Path) (s : State) : (splice a b s).psv = s.psv := rfl
@[simp] theorem splice_psl (a b : Path) (s : State) : (splice a b s).psl = s.psl := rfl
@[simp] theorem splice_drs (a b : Path) (s : State) : (splice a b s).drs = s.drs := rfl
@[simp] theorem splice_cvu (a b : Path) (s : State) : (splice a b s).cvu = s.cvu := rfl
@[simp] theorem splice_cfu (a b : Path) (s : State) : (splice a b s).cfu = s.cfu := rfl
@[simp] theorem splice_ntu (a b : Path) (s : State) : (splice a b s).ntu = s.ntu := rfl
@[simp] theorem splice_clocks (a b : Path) (s : State) : (splice a b s).clocks = s.clocks := rfl
@[simp] theorem splice_pending (a b : Path) (s : State) : (splice a b s).pending = s.pending := rfl

@[simp] theorem closeRecord_shi (i : Nat) (why : CloseReason) (s : State) : (closeRecord i why s).1.shi = s.shi := by rw [closeRecord_frame]
@[simp] theorem closeRecord_shore (i : Nat) (why : CloseReason) (s : State) : (closeRecord i why s).1.shore = s.shore := by rw [closeRecord_frame]
@[simp] theorem closeRecord_freeBuffers (i : Nat) (why : CloseReason) (s : State) : (closeRecord i why s).1.freeBuffers = s.freeBuffers := by rw [closeRecord_frame]
@[simp] theorem closeRecord_uplinkSeq (i : Nat) (why : CloseReason) (s : State) : (closeRecord i why s).1.uplinkSeq = s.uplinkSeq := by rw [closeRecord_frame]
@[simp] theorem closeRecord_rtu (i : Nat) (why : CloseReason) (s : State) : (closeRecord i why s).1.rtu = s.rtu := by rw [closeRecord_frame]
@[simp] theorem closeRecord_rse (i : Nat) (why : CloseReason) (s : State) : (closeRecord i why s).1.rse = s.rse := by rw [closeRecord_frame]
@[simp] theorem closeRecord_znu (i : Nat) (why : CloseReason) (s : State) : (closeRecord i why s).1.znu = s.znu := by rw [closeRecord_frame]
@[simp] theorem closeRecord_psv (i : Nat) (why : CloseReason) (s : State) : (closeRecord i why s).1.psv = s.psv := by rw [closeRecord_frame]
@[simp] theorem closeRecord_psl (i : Nat) (why : CloseReason) (s : State) : (closeRecord i why s).1.psl = s.psl := by rw [closeRecord_frame]
@[simp] theorem closeRecord_drs (i : Nat) (why : CloseReason) (s : State) : (closeRecord i why s).1.drs = s.drs := by rw [closeRecord_frame]
@[simp] theorem closeRecord_cvu (i : Nat) (why : CloseReason) (s : State) : (closeRecord i why s).1.cvu = s.cvu := by rw [closeRecord_frame]
@[simp] theorem closeRecord_cfu (i : Nat) (why : CloseReason) (s : State) : (closeRecord i why s).1.cfu = s.cfu := by rw [closeRecord_frame]
@[simp] theorem closeRecord_clocks (i : Nat) (why : CloseReason) (s : State) : (closeRecord i why s).1.clocks = s.clocks := by rw [closeRecord_frame]
@[simp] theorem closeRecord_pending (i : Nat) (why : CloseReason) (s : State) : (closeRecord i why s).1.pending = s.pending := by rw [closeRecord_frame]

@[simp] theorem volumeClose_shi (i n : Nat) (d : Direction) (s : State) : (volumeClose i n d s).shi = s.shi := by unfold volumeClose; (repeat' split) <;> simp
@[simp] theorem volumeClose_shore (i n : Nat) (d : Direction) (s : State) : (volumeClose i n d s).shore = s.shore := by unfold volumeClose; (repeat' split) <;> simp
@[simp] theorem volumeClose_freeBuffers (i n : Nat) (d : Direction) (s : State) : (volumeClose i n d s).freeBuffers = s.freeBuffers := by unfold volumeClose; (repeat' split) <;> simp
@[simp] theorem volumeClose_uplinkSeq (i n : Nat) (d : Direction) (s : State) : (volumeClose i n d s).uplinkSeq = s.uplinkSeq := by unfold volumeClose; (repeat' split) <;> simp
@[simp] theorem volumeClose_rtu (i n : Nat) (d : Direction) (s : State) : (volumeClose i n d s).rtu = s.rtu := by unfold volumeClose; (repeat' split) <;> simp
@[simp] theorem volumeClose_rse (i n : Nat) (d : Direction) (s : State) : (volumeClose i n d s).rse = s.rse := by unfold volumeClose; (repeat' split) <;> simp
@[simp] theorem volumeClose_znu (i n : Nat) (d : Direction) (s : State) : (volumeClose i n d s).znu = s.znu := by unfold volumeClose; (repeat' split) <;> simp
@[simp] theorem volumeClose_psv (i n : Nat) (d : Direction) (s : State) : (volumeClose i n d s).psv = s.psv := by unfold volumeClose; (repeat' split) <;> simp
@[simp] theorem volumeClose_psl (i n : Nat) (d : Direction) (s : State) : (volumeClose i n d s).psl = s.psl := by unfold volumeClose; (repeat' split) <;> simp
@[simp] theorem volumeClose_drs (i n : Nat) (d : Direction) (s : State) : (volumeClose i n d s).drs = s.drs := by unfold volumeClose; (repeat' split) <;> simp
@[simp] theorem volumeClose_cvu (i n : Nat) (d : Direction) (s : State) : (volumeClose i n d s).cvu = s.cvu := by unfold volumeClose; (repeat' split) <;> simp
@[simp] theorem volumeClose_cfu (i n : Nat) (d : Direction) (s : State) : (volumeClose i n d s).cfu = s.cfu := by unfold volumeClose; (repeat' split) <;> simp
@[simp] theorem volumeClose_clocks (i n : Nat) (d : Direction) (s : State) : (volumeClose i n d s).clocks = s.clocks := by unfold volumeClose; (repeat' split) <;> simp
@[simp] theorem volumeClose_pending (i n : Nat) (d : Direction) (s : State) : (volumeClose i n d s).pending = s.pending := by unfold volumeClose; (repeat' split) <;> simp

@[simp] theorem blockPacket_shi (i : Nat) (why : Refused) (s : State) : (blockPacket i why s).shi = s.shi := rfl
@[simp] theorem blockPacket_shore (i : Nat) (why : Refused) (s : State) : (blockPacket i why s).shore = s.shore := rfl
@[simp] theorem blockPacket_freeBuffers (i : Nat) (why : Refused) (s : State) : (blockPacket i why s).freeBuffers = s.freeBuffers := rfl
@[simp] theorem blockPacket_uplinkSeq (i : Nat) (why : Refused) (s : State) : (blockPacket i why s).uplinkSeq = s.uplinkSeq := rfl
@[simp] theorem blockPacket_rtu (i : Nat) (why : Refused) (s : State) : (blockPacket i why s).rtu = s.rtu := rfl
@[simp] theorem blockPacket_rcq (i : Nat) (why : Refused) (s : State) : (blockPacket i why s).rcq = s.rcq := rfl
@[simp] theorem blockPacket_rse (i : Nat) (why : Refused) (s : State) : (blockPacket i why s).rse = s.rse := rfl
@[simp] theorem blockPacket_znu (i : Nat) (why : Refused) (s : State) : (blockPacket i why s).znu = s.znu := rfl
@[simp] theorem blockPacket_psv (i : Nat) (why : Refused) (s : State) : (blockPacket i why s).psv = s.psv := rfl
@[simp] theorem blockPacket_psl (i : Nat) (why : Refused) (s : State) : (blockPacket i why s).psl = s.psl := rfl
@[simp] theorem blockPacket_drs (i : Nat) (why : Refused) (s : State) : (blockPacket i why s).drs = s.drs := rfl
@[simp] theorem blockPacket_cvu (i : Nat) (why : Refused) (s : State) : (blockPacket i why s).cvu = s.cvu := rfl
@[simp] theorem blockPacket_cfu (i : Nat) (why : Refused) (s : State) : (blockPacket i why s).cfu = s.cfu := rfl
@[simp] theorem blockPacket_ntu (i : Nat) (why : Refused) (s : State) : (blockPacket i why s).ntu = s.ntu := rfl
@[simp] theorem blockPacket_clocks (i : Nat) (why : Refused) (s : State) : (blockPacket i why s).clocks = s.clocks := rfl
@[simp] theorem blockPacket_pending (i : Nat) (why : Refused) (s : State) : (blockPacket i why s).pending = s.pending := rfl

@[simp] theorem writeCharge_shi (i n : Nat) (d : Direction) (v : Visitor) (r : OpenRecord) (s : State) : (writeCharge i n d v r s).shi = s.shi := by rw [writeCharge_frame]
@[simp] theorem writeCharge_shore (i n : Nat) (d : Direction) (v : Visitor) (r : OpenRecord) (s : State) : (writeCharge i n d v r s).shore = s.shore := by rw [writeCharge_frame]
@[simp] theorem writeCharge_freeBuffers (i n : Nat) (d : Direction) (v : Visitor) (r : OpenRecord) (s : State) : (writeCharge i n d v r s).freeBuffers = s.freeBuffers := by rw [writeCharge_frame]
@[simp] theorem writeCharge_uplinkSeq (i n : Nat) (d : Direction) (v : Visitor) (r : OpenRecord) (s : State) : (writeCharge i n d v r s).uplinkSeq = s.uplinkSeq := by rw [writeCharge_frame]
@[simp] theorem writeCharge_rtu (i n : Nat) (d : Direction) (v : Visitor) (r : OpenRecord) (s : State) : (writeCharge i n d v r s).rtu = s.rtu := by rw [writeCharge_frame]
@[simp] theorem writeCharge_rcq (i n : Nat) (d : Direction) (v : Visitor) (r : OpenRecord) (s : State) : (writeCharge i n d v r s).rcq = s.rcq := by rw [writeCharge_frame]
@[simp] theorem writeCharge_rse (i n : Nat) (d : Direction) (v : Visitor) (r : OpenRecord) (s : State) : (writeCharge i n d v r s).rse = s.rse := by rw [writeCharge_frame]
@[simp] theorem writeCharge_znu (i n : Nat) (d : Direction) (v : Visitor) (r : OpenRecord) (s : State) : (writeCharge i n d v r s).znu = s.znu := by rw [writeCharge_frame]
@[simp] theorem writeCharge_psv (i n : Nat) (d : Direction) (v : Visitor) (r : OpenRecord) (s : State) : (writeCharge i n d v r s).psv = s.psv := by rw [writeCharge_frame]
@[simp] theorem writeCharge_psl (i n : Nat) (d : Direction) (v : Visitor) (r : OpenRecord) (s : State) : (writeCharge i n d v r s).psl = s.psl := by rw [writeCharge_frame]
@[simp] theorem writeCharge_drs (i n : Nat) (d : Direction) (v : Visitor) (r : OpenRecord) (s : State) : (writeCharge i n d v r s).drs = s.drs := by rw [writeCharge_frame]
@[simp] theorem writeCharge_cvu (i n : Nat) (d : Direction) (v : Visitor) (r : OpenRecord) (s : State) : (writeCharge i n d v r s).cvu = s.cvu := by rw [writeCharge_frame]
@[simp] theorem writeCharge_cfu (i n : Nat) (d : Direction) (v : Visitor) (r : OpenRecord) (s : State) : (writeCharge i n d v r s).cfu = s.cfu := by rw [writeCharge_frame]
@[simp] theorem writeCharge_clocks (i n : Nat) (d : Direction) (v : Visitor) (r : OpenRecord) (s : State) : (writeCharge i n d v r s).clocks = s.clocks := by rw [writeCharge_frame]
@[simp] theorem writeCharge_pending (i n : Nat) (d : Direction) (v : Visitor) (r : OpenRecord) (s : State) : (writeCharge i n d v r s).pending = s.pending := by rw [writeCharge_frame]

@[simp] theorem charge_shi (i n : Nat) (d : Direction) (s : State) : (charge i n d s).1.shi = s.shi := by unfold charge; dsimp only; (repeat' split) <;> simp
@[simp] theorem charge_shore (i n : Nat) (d : Direction) (s : State) : (charge i n d s).1.shore = s.shore := by unfold charge; dsimp only; (repeat' split) <;> simp
@[simp] theorem charge_freeBuffers (i n : Nat) (d : Direction) (s : State) : (charge i n d s).1.freeBuffers = s.freeBuffers := by unfold charge; dsimp only; (repeat' split) <;> simp
@[simp] theorem charge_uplinkSeq (i n : Nat) (d : Direction) (s : State) : (charge i n d s).1.uplinkSeq = s.uplinkSeq := by unfold charge; dsimp only; (repeat' split) <;> simp
@[simp] theorem charge_rtu (i n : Nat) (d : Direction) (s : State) : (charge i n d s).1.rtu = s.rtu := by unfold charge; dsimp only; (repeat' split) <;> simp
@[simp] theorem charge_rse (i n : Nat) (d : Direction) (s : State) : (charge i n d s).1.rse = s.rse := by unfold charge; dsimp only; (repeat' split) <;> simp
@[simp] theorem charge_znu (i n : Nat) (d : Direction) (s : State) : (charge i n d s).1.znu = s.znu := by unfold charge; dsimp only; (repeat' split) <;> simp
@[simp] theorem charge_psv (i n : Nat) (d : Direction) (s : State) : (charge i n d s).1.psv = s.psv := by unfold charge; dsimp only; (repeat' split) <;> simp
@[simp] theorem charge_psl (i n : Nat) (d : Direction) (s : State) : (charge i n d s).1.psl = s.psl := by unfold charge; dsimp only; (repeat' split) <;> simp
@[simp] theorem charge_drs (i n : Nat) (d : Direction) (s : State) : (charge i n d s).1.drs = s.drs := by unfold charge; dsimp only; (repeat' split) <;> simp
@[simp] theorem charge_cvu (i n : Nat) (d : Direction) (s : State) : (charge i n d s).1.cvu = s.cvu := by unfold charge; dsimp only; (repeat' split) <;> simp
@[simp] theorem charge_cfu (i n : Nat) (d : Direction) (s : State) : (charge i n d s).1.cfu = s.cfu := by unfold charge; dsimp only; (repeat' split) <;> simp
@[simp] theorem charge_clocks (i n : Nat) (d : Direction) (s : State) : (charge i n d s).1.clocks = s.clocks := by unfold charge; dsimp only; (repeat' split) <;> simp
@[simp] theorem charge_pending (i n : Nat) (d : Direction) (s : State) : (charge i n d s).1.pending = s.pending := by unfold charge; dsimp only; (repeat' split) <;> simp

@[simp] theorem review_shi (i : Nat) (s : State) : (review i s).shi = s.shi := by unfold review; dsimp only; (repeat' split) <;> simp
@[simp] theorem review_shore (i : Nat) (s : State) : (review i s).shore = s.shore := by unfold review; dsimp only; (repeat' split) <;> simp
@[simp] theorem review_freeBuffers (i : Nat) (s : State) : (review i s).freeBuffers = s.freeBuffers := by unfold review; dsimp only; (repeat' split) <;> simp
@[simp] theorem review_uplinkSeq (i : Nat) (s : State) : (review i s).uplinkSeq = s.uplinkSeq := by unfold review; dsimp only; (repeat' split) <;> simp
@[simp] theorem review_rtu (i : Nat) (s : State) : (review i s).rtu = s.rtu := by unfold review; dsimp only; (repeat' split) <;> simp
@[simp] theorem review_znu (i : Nat) (s : State) : (review i s).znu = s.znu := by unfold review; dsimp only; (repeat' split) <;> simp
@[simp] theorem review_psv (i : Nat) (s : State) : (review i s).psv = s.psv := by unfold review; dsimp only; (repeat' split) <;> simp
@[simp] theorem review_psl (i : Nat) (s : State) : (review i s).psl = s.psl := by unfold review; dsimp only; (repeat' split) <;> simp
@[simp] theorem review_drs (i : Nat) (s : State) : (review i s).drs = s.drs := by unfold review; dsimp only; (repeat' split) <;> simp
@[simp] theorem review_cvu (i : Nat) (s : State) : (review i s).cvu = s.cvu := by unfold review; dsimp only; (repeat' split) <;> simp
@[simp] theorem review_cfu (i : Nat) (s : State) : (review i s).cfu = s.cfu := by unfold review; dsimp only; (repeat' split) <;> simp
@[simp] theorem review_clocks (i : Nat) (s : State) : (review i s).clocks = s.clocks := by unfold review; dsimp only; (repeat' split) <;> simp
@[simp] theorem review_pending (i : Nat) (s : State) : (review i s).pending = s.pending := by unfold review; dsimp only; (repeat' split) <;> simp

@[simp] theorem clearMarks_shi (i : Nat) (s : State) : (clearMarks i s).shi = s.shi := rfl
@[simp] theorem clearMarks_shore (i : Nat) (s : State) : (clearMarks i s).shore = s.shore := rfl
@[simp] theorem clearMarks_freeBuffers (i : Nat) (s : State) : (clearMarks i s).freeBuffers = s.freeBuffers := rfl
@[simp] theorem clearMarks_uplinkSeq (i : Nat) (s : State) : (clearMarks i s).uplinkSeq = s.uplinkSeq := rfl
@[simp] theorem clearMarks_rtu (i : Nat) (s : State) : (clearMarks i s).rtu = s.rtu := rfl
@[simp] theorem clearMarks_rcq (i : Nat) (s : State) : (clearMarks i s).rcq = s.rcq := rfl
@[simp] theorem clearMarks_rse (i : Nat) (s : State) : (clearMarks i s).rse = s.rse := rfl
@[simp] theorem clearMarks_znu (i : Nat) (s : State) : (clearMarks i s).znu = s.znu := rfl
@[simp] theorem clearMarks_psv (i : Nat) (s : State) : (clearMarks i s).psv = s.psv := rfl
@[simp] theorem clearMarks_psl (i : Nat) (s : State) : (clearMarks i s).psl = s.psl := rfl
@[simp] theorem clearMarks_drs (i : Nat) (s : State) : (clearMarks i s).drs = s.drs := rfl
@[simp] theorem clearMarks_cvu (i : Nat) (s : State) : (clearMarks i s).cvu = s.cvu := rfl
@[simp] theorem clearMarks_cfu (i : Nat) (s : State) : (clearMarks i s).cfu = s.cfu := rfl
@[simp] theorem clearMarks_ntu (i : Nat) (s : State) : (clearMarks i s).ntu = s.ntu := rfl
@[simp] theorem clearMarks_clocks (i : Nat) (s : State) : (clearMarks i s).clocks = s.clocks := rfl
@[simp] theorem clearMarks_pending (i : Nat) (s : State) : (clearMarks i s).pending = s.pending := rfl

@[simp] theorem owedClose_shi (i : Nat) (s : State) : (owedClose i s).shi = s.shi := by unfold owedClose; dsimp only; (repeat' split) <;> simp
@[simp] theorem owedClose_shore (i : Nat) (s : State) : (owedClose i s).shore = s.shore := by unfold owedClose; dsimp only; (repeat' split) <;> simp
@[simp] theorem owedClose_freeBuffers (i : Nat) (s : State) : (owedClose i s).freeBuffers = s.freeBuffers := by unfold owedClose; dsimp only; (repeat' split) <;> simp
@[simp] theorem owedClose_uplinkSeq (i : Nat) (s : State) : (owedClose i s).uplinkSeq = s.uplinkSeq := by unfold owedClose; dsimp only; (repeat' split) <;> simp
@[simp] theorem owedClose_rtu (i : Nat) (s : State) : (owedClose i s).rtu = s.rtu := by unfold owedClose; dsimp only; (repeat' split) <;> simp
@[simp] theorem owedClose_rse (i : Nat) (s : State) : (owedClose i s).rse = s.rse := by unfold owedClose; dsimp only; (repeat' split) <;> simp
@[simp] theorem owedClose_znu (i : Nat) (s : State) : (owedClose i s).znu = s.znu := by unfold owedClose; dsimp only; (repeat' split) <;> simp
@[simp] theorem owedClose_psv (i : Nat) (s : State) : (owedClose i s).psv = s.psv := by unfold owedClose; dsimp only; (repeat' split) <;> simp
@[simp] theorem owedClose_psl (i : Nat) (s : State) : (owedClose i s).psl = s.psl := by unfold owedClose; dsimp only; (repeat' split) <;> simp
@[simp] theorem owedClose_drs (i : Nat) (s : State) : (owedClose i s).drs = s.drs := by unfold owedClose; dsimp only; (repeat' split) <;> simp
@[simp] theorem owedClose_cvu (i : Nat) (s : State) : (owedClose i s).cvu = s.cvu := by unfold owedClose; dsimp only; (repeat' split) <;> simp
@[simp] theorem owedClose_cfu (i : Nat) (s : State) : (owedClose i s).cfu = s.cfu := by unfold owedClose; dsimp only; (repeat' split) <;> simp
@[simp] theorem owedClose_clocks (i : Nat) (s : State) : (owedClose i s).clocks = s.clocks := by unfold owedClose; dsimp only; (repeat' split) <;> simp
@[simp] theorem owedClose_pending (i : Nat) (s : State) : (owedClose i s).pending = s.pending := by unfold owedClose; dsimp only; (repeat' split) <;> simp

@[simp] theorem owedReview_shi (i : Nat) (s : State) : (owedReview i s).shi = s.shi := by unfold owedReview; dsimp only; (repeat' split) <;> simp
@[simp] theorem owedReview_shore (i : Nat) (s : State) : (owedReview i s).shore = s.shore := by unfold owedReview; dsimp only; (repeat' split) <;> simp
@[simp] theorem owedReview_freeBuffers (i : Nat) (s : State) : (owedReview i s).freeBuffers = s.freeBuffers := by unfold owedReview; dsimp only; (repeat' split) <;> simp
@[simp] theorem owedReview_uplinkSeq (i : Nat) (s : State) : (owedReview i s).uplinkSeq = s.uplinkSeq := by unfold owedReview; dsimp only; (repeat' split) <;> simp
@[simp] theorem owedReview_rtu (i : Nat) (s : State) : (owedReview i s).rtu = s.rtu := by unfold owedReview; dsimp only; (repeat' split) <;> simp
@[simp] theorem owedReview_znu (i : Nat) (s : State) : (owedReview i s).znu = s.znu := by unfold owedReview; dsimp only; (repeat' split) <;> simp
@[simp] theorem owedReview_psv (i : Nat) (s : State) : (owedReview i s).psv = s.psv := by unfold owedReview; dsimp only; (repeat' split) <;> simp
@[simp] theorem owedReview_psl (i : Nat) (s : State) : (owedReview i s).psl = s.psl := by unfold owedReview; dsimp only; (repeat' split) <;> simp
@[simp] theorem owedReview_drs (i : Nat) (s : State) : (owedReview i s).drs = s.drs := by unfold owedReview; dsimp only; (repeat' split) <;> simp
@[simp] theorem owedReview_cvu (i : Nat) (s : State) : (owedReview i s).cvu = s.cvu := by unfold owedReview; dsimp only; (repeat' split) <;> simp
@[simp] theorem owedReview_cfu (i : Nat) (s : State) : (owedReview i s).cfu = s.cfu := by unfold owedReview; dsimp only; (repeat' split) <;> simp
@[simp] theorem owedReview_clocks (i : Nat) (s : State) : (owedReview i s).clocks = s.clocks := by unfold owedReview; dsimp only; (repeat' split) <;> simp
@[simp] theorem owedReview_pending (i : Nat) (s : State) : (owedReview i s).pending = s.pending := by unfold owedReview; dsimp only; (repeat' split) <;> simp

@[simp] theorem owedWork_shi (i : Nat) (s : State) : (owedWork i s).shi = s.shi := by unfold owedWork; (repeat' split) <;> simp
@[simp] theorem owedWork_shore (i : Nat) (s : State) : (owedWork i s).shore = s.shore := by unfold owedWork; (repeat' split) <;> simp
@[simp] theorem owedWork_freeBuffers (i : Nat) (s : State) : (owedWork i s).freeBuffers = s.freeBuffers := by unfold owedWork; (repeat' split) <;> simp
@[simp] theorem owedWork_uplinkSeq (i : Nat) (s : State) : (owedWork i s).uplinkSeq = s.uplinkSeq := by unfold owedWork; (repeat' split) <;> simp
@[simp] theorem owedWork_rtu (i : Nat) (s : State) : (owedWork i s).rtu = s.rtu := by unfold owedWork; (repeat' split) <;> simp
@[simp] theorem owedWork_znu (i : Nat) (s : State) : (owedWork i s).znu = s.znu := by unfold owedWork; (repeat' split) <;> simp
@[simp] theorem owedWork_psv (i : Nat) (s : State) : (owedWork i s).psv = s.psv := by unfold owedWork; (repeat' split) <;> simp
@[simp] theorem owedWork_psl (i : Nat) (s : State) : (owedWork i s).psl = s.psl := by unfold owedWork; (repeat' split) <;> simp
@[simp] theorem owedWork_drs (i : Nat) (s : State) : (owedWork i s).drs = s.drs := by unfold owedWork; (repeat' split) <;> simp
@[simp] theorem owedWork_cvu (i : Nat) (s : State) : (owedWork i s).cvu = s.cvu := by unfold owedWork; (repeat' split) <;> simp
@[simp] theorem owedWork_cfu (i : Nat) (s : State) : (owedWork i s).cfu = s.cfu := by unfold owedWork; (repeat' split) <;> simp
@[simp] theorem owedWork_clocks (i : Nat) (s : State) : (owedWork i s).clocks = s.clocks := by unfold owedWork; (repeat' split) <;> simp
@[simp] theorem owedWork_pending (i : Nat) (s : State) : (owedWork i s).pending = s.pending := by unfold owedWork; (repeat' split) <;> simp

@[simp] theorem attach_shi (i : Nat) (s : State) : (attach i s).shi = s.shi := by unfold attach; simp
@[simp] theorem attach_shore (i : Nat) (s : State) : (attach i s).shore = s.shore := by unfold attach; simp
@[simp] theorem attach_freeBuffers (i : Nat) (s : State) : (attach i s).freeBuffers = s.freeBuffers := by unfold attach; simp
@[simp] theorem attach_uplinkSeq (i : Nat) (s : State) : (attach i s).uplinkSeq = s.uplinkSeq := by unfold attach; simp
@[simp] theorem attach_rtu (i : Nat) (s : State) : (attach i s).rtu = s.rtu := by unfold attach; simp
@[simp] theorem attach_rcq (i : Nat) (s : State) : (attach i s).rcq = s.rcq := by unfold attach; simp
@[simp] theorem attach_znu (i : Nat) (s : State) : (attach i s).znu = s.znu := by unfold attach; simp
@[simp] theorem attach_psv (i : Nat) (s : State) : (attach i s).psv = s.psv := by unfold attach; simp
@[simp] theorem attach_psl (i : Nat) (s : State) : (attach i s).psl = s.psl := by unfold attach; simp
@[simp] theorem attach_drs (i : Nat) (s : State) : (attach i s).drs = s.drs := by unfold attach; simp
@[simp] theorem attach_cvu (i : Nat) (s : State) : (attach i s).cvu = s.cvu := by unfold attach; simp
@[simp] theorem attach_cfu (i : Nat) (s : State) : (attach i s).cfu = s.cfu := by unfold attach; simp
@[simp] theorem attach_ntu (i : Nat) (s : State) : (attach i s).ntu = s.ntu := by unfold attach; simp
@[simp] theorem attach_clocks (i : Nat) (s : State) : (attach i s).clocks = s.clocks := by unfold attach; simp
@[simp] theorem attach_pending (i : Nat) (s : State) : (attach i s).pending = s.pending := by unfold attach; simp

@[simp] theorem becomeFree_shi (i : Nat) (s : State) : (becomeFree i s).shi = s.shi := by unfold becomeFree; simp
@[simp] theorem becomeFree_shore (i : Nat) (s : State) : (becomeFree i s).shore = s.shore := by unfold becomeFree; simp
@[simp] theorem becomeFree_freeBuffers (i : Nat) (s : State) : (becomeFree i s).freeBuffers = s.freeBuffers := by unfold becomeFree; simp
@[simp] theorem becomeFree_uplinkSeq (i : Nat) (s : State) : (becomeFree i s).uplinkSeq = s.uplinkSeq := by unfold becomeFree; simp
@[simp] theorem becomeFree_rtu (i : Nat) (s : State) : (becomeFree i s).rtu = s.rtu := by unfold becomeFree; simp
@[simp] theorem becomeFree_rcq (i : Nat) (s : State) : (becomeFree i s).rcq = s.rcq := by unfold becomeFree; simp
@[simp] theorem becomeFree_znu (i : Nat) (s : State) : (becomeFree i s).znu = s.znu := by unfold becomeFree; simp
@[simp] theorem becomeFree_psv (i : Nat) (s : State) : (becomeFree i s).psv = s.psv := by unfold becomeFree; simp
@[simp] theorem becomeFree_psl (i : Nat) (s : State) : (becomeFree i s).psl = s.psl := by unfold becomeFree; simp
@[simp] theorem becomeFree_drs (i : Nat) (s : State) : (becomeFree i s).drs = s.drs := by unfold becomeFree; simp
@[simp] theorem becomeFree_cvu (i : Nat) (s : State) : (becomeFree i s).cvu = s.cvu := by unfold becomeFree; simp
@[simp] theorem becomeFree_cfu (i : Nat) (s : State) : (becomeFree i s).cfu = s.cfu := by unfold becomeFree; simp
@[simp] theorem becomeFree_clocks (i : Nat) (s : State) : (becomeFree i s).clocks = s.clocks := by unfold becomeFree; simp
@[simp] theorem becomeFree_pending (i : Nat) (s : State) : (becomeFree i s).pending = s.pending := by unfold becomeFree; simp

@[simp] theorem openDrain_shi (p : Path) (s : State) : (openDrain p s).shi = s.shi := rfl
@[simp] theorem openDrain_shore (p : Path) (s : State) : (openDrain p s).shore = s.shore := rfl
@[simp] theorem openDrain_freeBuffers (p : Path) (s : State) : (openDrain p s).freeBuffers = s.freeBuffers := rfl
@[simp] theorem openDrain_uplinkSeq (p : Path) (s : State) : (openDrain p s).uplinkSeq = s.uplinkSeq := rfl
@[simp] theorem openDrain_vtb (p : Path) (s : State) : (openDrain p s).vtb = s.vtb := rfl
@[simp] theorem openDrain_rtu (p : Path) (s : State) : (openDrain p s).rtu = s.rtu := rfl
@[simp] theorem openDrain_rcq (p : Path) (s : State) : (openDrain p s).rcq = s.rcq := rfl
@[simp] theorem openDrain_rse (p : Path) (s : State) : (openDrain p s).rse = s.rse := rfl
@[simp] theorem openDrain_znu (p : Path) (s : State) : (openDrain p s).znu = s.znu := rfl
@[simp] theorem openDrain_psv (p : Path) (s : State) : (openDrain p s).psv = s.psv := rfl
@[simp] theorem openDrain_drs (p : Path) (s : State) : (openDrain p s).drs = s.drs := rfl
@[simp] theorem openDrain_cvu (p : Path) (s : State) : (openDrain p s).cvu = s.cvu := rfl
@[simp] theorem openDrain_cfu (p : Path) (s : State) : (openDrain p s).cfu = s.cfu := rfl
@[simp] theorem openDrain_ntu (p : Path) (s : State) : (openDrain p s).ntu = s.ntu := rfl
@[simp] theorem openDrain_clocks (p : Path) (s : State) : (openDrain p s).clocks = s.clocks := rfl
@[simp] theorem openDrain_pending (p : Path) (s : State) : (openDrain p s).pending = s.pending := rfl

@[simp] theorem closeDrain_shi (p : Path) (s : State) : (closeDrain p s).shi = s.shi := rfl
@[simp] theorem closeDrain_shore (p : Path) (s : State) : (closeDrain p s).shore = s.shore := rfl
@[simp] theorem closeDrain_freeBuffers (p : Path) (s : State) : (closeDrain p s).freeBuffers = s.freeBuffers := rfl
@[simp] theorem closeDrain_uplinkSeq (p : Path) (s : State) : (closeDrain p s).uplinkSeq = s.uplinkSeq := rfl
@[simp] theorem closeDrain_vtb (p : Path) (s : State) : (closeDrain p s).vtb = s.vtb := rfl
@[simp] theorem closeDrain_rtu (p : Path) (s : State) : (closeDrain p s).rtu = s.rtu := rfl
@[simp] theorem closeDrain_rcq (p : Path) (s : State) : (closeDrain p s).rcq = s.rcq := rfl
@[simp] theorem closeDrain_rse (p : Path) (s : State) : (closeDrain p s).rse = s.rse := rfl
@[simp] theorem closeDrain_znu (p : Path) (s : State) : (closeDrain p s).znu = s.znu := rfl
@[simp] theorem closeDrain_psv (p : Path) (s : State) : (closeDrain p s).psv = s.psv := rfl
@[simp] theorem closeDrain_drs (p : Path) (s : State) : (closeDrain p s).drs = s.drs := rfl
@[simp] theorem closeDrain_cvu (p : Path) (s : State) : (closeDrain p s).cvu = s.cvu := rfl
@[simp] theorem closeDrain_cfu (p : Path) (s : State) : (closeDrain p s).cfu = s.cfu := rfl
@[simp] theorem closeDrain_ntu (p : Path) (s : State) : (closeDrain p s).ntu = s.ntu := rfl
@[simp] theorem closeDrain_clocks (p : Path) (s : State) : (closeDrain p s).clocks = s.clocks := rfl
@[simp] theorem closeDrain_pending (p : Path) (s : State) : (closeDrain p s).pending = s.pending := rfl

@[simp] theorem drainIfUp_shi (p : Path) (s : State) : (drainIfUp p s).shi = s.shi := by unfold drainIfUp; (repeat' split) <;> simp
@[simp] theorem drainIfUp_shore (p : Path) (s : State) : (drainIfUp p s).shore = s.shore := by unfold drainIfUp; (repeat' split) <;> simp
@[simp] theorem drainIfUp_freeBuffers (p : Path) (s : State) : (drainIfUp p s).freeBuffers = s.freeBuffers := by unfold drainIfUp; (repeat' split) <;> simp
@[simp] theorem drainIfUp_uplinkSeq (p : Path) (s : State) : (drainIfUp p s).uplinkSeq = s.uplinkSeq := by unfold drainIfUp; (repeat' split) <;> simp
@[simp] theorem drainIfUp_vtb (p : Path) (s : State) : (drainIfUp p s).vtb = s.vtb := by unfold drainIfUp; (repeat' split) <;> simp
@[simp] theorem drainIfUp_rtu (p : Path) (s : State) : (drainIfUp p s).rtu = s.rtu := by unfold drainIfUp; (repeat' split) <;> simp
@[simp] theorem drainIfUp_rcq (p : Path) (s : State) : (drainIfUp p s).rcq = s.rcq := by unfold drainIfUp; (repeat' split) <;> simp
@[simp] theorem drainIfUp_rse (p : Path) (s : State) : (drainIfUp p s).rse = s.rse := by unfold drainIfUp; (repeat' split) <;> simp
@[simp] theorem drainIfUp_znu (p : Path) (s : State) : (drainIfUp p s).znu = s.znu := by unfold drainIfUp; (repeat' split) <;> simp
@[simp] theorem drainIfUp_psv (p : Path) (s : State) : (drainIfUp p s).psv = s.psv := by unfold drainIfUp; (repeat' split) <;> simp
@[simp] theorem drainIfUp_drs (p : Path) (s : State) : (drainIfUp p s).drs = s.drs := by unfold drainIfUp; (repeat' split) <;> simp
@[simp] theorem drainIfUp_cvu (p : Path) (s : State) : (drainIfUp p s).cvu = s.cvu := by unfold drainIfUp; (repeat' split) <;> simp
@[simp] theorem drainIfUp_cfu (p : Path) (s : State) : (drainIfUp p s).cfu = s.cfu := by unfold drainIfUp; (repeat' split) <;> simp
@[simp] theorem drainIfUp_ntu (p : Path) (s : State) : (drainIfUp p s).ntu = s.ntu := by unfold drainIfUp; (repeat' split) <;> simp
@[simp] theorem drainIfUp_clocks (p : Path) (s : State) : (drainIfUp p s).clocks = s.clocks := by unfold drainIfUp; (repeat' split) <;> simp
@[simp] theorem drainIfUp_pending (p : Path) (s : State) : (drainIfUp p s).pending = s.pending := by unfold drainIfUp; (repeat' split) <;> simp

@[simp] theorem swapDrain_shi (a : Option Path) (b : Path) (s : State) : (swapDrain a b s).shi = s.shi := by unfold swapDrain; (repeat' split) <;> simp
@[simp] theorem swapDrain_shore (a : Option Path) (b : Path) (s : State) : (swapDrain a b s).shore = s.shore := by unfold swapDrain; (repeat' split) <;> simp
@[simp] theorem swapDrain_freeBuffers (a : Option Path) (b : Path) (s : State) : (swapDrain a b s).freeBuffers = s.freeBuffers := by unfold swapDrain; (repeat' split) <;> simp
@[simp] theorem swapDrain_uplinkSeq (a : Option Path) (b : Path) (s : State) : (swapDrain a b s).uplinkSeq = s.uplinkSeq := by unfold swapDrain; (repeat' split) <;> simp
@[simp] theorem swapDrain_vtb (a : Option Path) (b : Path) (s : State) : (swapDrain a b s).vtb = s.vtb := by unfold swapDrain; (repeat' split) <;> simp
@[simp] theorem swapDrain_rtu (a : Option Path) (b : Path) (s : State) : (swapDrain a b s).rtu = s.rtu := by unfold swapDrain; (repeat' split) <;> simp
@[simp] theorem swapDrain_rcq (a : Option Path) (b : Path) (s : State) : (swapDrain a b s).rcq = s.rcq := by unfold swapDrain; (repeat' split) <;> simp
@[simp] theorem swapDrain_rse (a : Option Path) (b : Path) (s : State) : (swapDrain a b s).rse = s.rse := by unfold swapDrain; (repeat' split) <;> simp
@[simp] theorem swapDrain_znu (a : Option Path) (b : Path) (s : State) : (swapDrain a b s).znu = s.znu := by unfold swapDrain; (repeat' split) <;> simp
@[simp] theorem swapDrain_psv (a : Option Path) (b : Path) (s : State) : (swapDrain a b s).psv = s.psv := by unfold swapDrain; (repeat' split) <;> simp
@[simp] theorem swapDrain_drs (a : Option Path) (b : Path) (s : State) : (swapDrain a b s).drs = s.drs := by unfold swapDrain; (repeat' split) <;> simp
@[simp] theorem swapDrain_cvu (a : Option Path) (b : Path) (s : State) : (swapDrain a b s).cvu = s.cvu := by unfold swapDrain; (repeat' split) <;> simp
@[simp] theorem swapDrain_cfu (a : Option Path) (b : Path) (s : State) : (swapDrain a b s).cfu = s.cfu := by unfold swapDrain; (repeat' split) <;> simp
@[simp] theorem swapDrain_ntu (a : Option Path) (b : Path) (s : State) : (swapDrain a b s).ntu = s.ntu := by unfold swapDrain; (repeat' split) <;> simp
@[simp] theorem swapDrain_clocks (a : Option Path) (b : Path) (s : State) : (swapDrain a b s).clocks = s.clocks := by unfold swapDrain; (repeat' split) <;> simp
@[simp] theorem swapDrain_pending (a : Option Path) (b : Path) (s : State) : (swapDrain a b s).pending = s.pending := by unfold swapDrain; (repeat' split) <;> simp

@[simp] theorem computeCandidate_shi (s : State) : (computeCandidate s).shi = s.shi := rfl
@[simp] theorem computeCandidate_shore (s : State) : (computeCandidate s).shore = s.shore := rfl
@[simp] theorem computeCandidate_freeBuffers (s : State) : (computeCandidate s).freeBuffers = s.freeBuffers := rfl
@[simp] theorem computeCandidate_uplinkSeq (s : State) : (computeCandidate s).uplinkSeq = s.uplinkSeq := rfl
@[simp] theorem computeCandidate_vtb (s : State) : (computeCandidate s).vtb = s.vtb := rfl
@[simp] theorem computeCandidate_rtu (s : State) : (computeCandidate s).rtu = s.rtu := rfl
@[simp] theorem computeCandidate_rcq (s : State) : (computeCandidate s).rcq = s.rcq := rfl
@[simp] theorem computeCandidate_rse (s : State) : (computeCandidate s).rse = s.rse := rfl
@[simp] theorem computeCandidate_znu (s : State) : (computeCandidate s).znu = s.znu := rfl
@[simp] theorem computeCandidate_psv (s : State) : (computeCandidate s).psv = s.psv := rfl
@[simp] theorem computeCandidate_drs (s : State) : (computeCandidate s).drs = s.drs := rfl
@[simp] theorem computeCandidate_cvu (s : State) : (computeCandidate s).cvu = s.cvu := rfl
@[simp] theorem computeCandidate_cfu (s : State) : (computeCandidate s).cfu = s.cfu := rfl
@[simp] theorem computeCandidate_ntu (s : State) : (computeCandidate s).ntu = s.ntu := rfl
@[simp] theorem computeCandidate_clocks (s : State) : (computeCandidate s).clocks = s.clocks := rfl
@[simp] theorem computeCandidate_pending (s : State) : (computeCandidate s).pending = s.pending := rfl

@[simp] theorem swapTo_shi (b : Path) (cause : SwapCause) (s : State) : (swapTo b cause s).shi = s.shi := by unfold swapTo; dsimp only; (repeat' split) <;> simp
@[simp] theorem swapTo_freeBuffers (b : Path) (cause : SwapCause) (s : State) : (swapTo b cause s).freeBuffers = s.freeBuffers := by unfold swapTo; dsimp only; (repeat' split) <;> simp
@[simp] theorem swapTo_uplinkSeq (b : Path) (cause : SwapCause) (s : State) : (swapTo b cause s).uplinkSeq = s.uplinkSeq := by unfold swapTo; dsimp only; (repeat' split) <;> simp
@[simp] theorem swapTo_rtu (b : Path) (cause : SwapCause) (s : State) : (swapTo b cause s).rtu = s.rtu := by unfold swapTo; dsimp only; (repeat' split) <;> simp
@[simp] theorem swapTo_rcq (b : Path) (cause : SwapCause) (s : State) : (swapTo b cause s).rcq = s.rcq := by unfold swapTo; dsimp only; (repeat' split) <;> simp
@[simp] theorem swapTo_znu (b : Path) (cause : SwapCause) (s : State) : (swapTo b cause s).znu = s.znu := by unfold swapTo; dsimp only; (repeat' split) <;> simp
@[simp] theorem swapTo_psv (b : Path) (cause : SwapCause) (s : State) : (swapTo b cause s).psv = s.psv := by unfold swapTo; dsimp only; (repeat' split) <;> simp
@[simp] theorem swapTo_drs (b : Path) (cause : SwapCause) (s : State) : (swapTo b cause s).drs = s.drs := by unfold swapTo; dsimp only; (repeat' split) <;> simp
@[simp] theorem swapTo_cvu (b : Path) (cause : SwapCause) (s : State) : (swapTo b cause s).cvu = s.cvu := by unfold swapTo; dsimp only; (repeat' split) <;> simp
@[simp] theorem swapTo_cfu (b : Path) (cause : SwapCause) (s : State) : (swapTo b cause s).cfu = s.cfu := by unfold swapTo; dsimp only; (repeat' split) <;> simp
@[simp] theorem swapTo_clocks (b : Path) (cause : SwapCause) (s : State) : (swapTo b cause s).clocks = s.clocks := by unfold swapTo; dsimp only; (repeat' split) <;> simp
@[simp] theorem swapTo_pending (b : Path) (cause : SwapCause) (s : State) : (swapTo b cause s).pending = s.pending := by unfold swapTo; dsimp only; (repeat' split) <;> simp

@[simp] theorem flushQueue_shi (p : Path) (s : State) : (flushQueue p s).shi = s.shi := rfl
@[simp] theorem flushQueue_uplinkSeq (p : Path) (s : State) : (flushQueue p s).uplinkSeq = s.uplinkSeq := rfl
@[simp] theorem flushQueue_vtb (p : Path) (s : State) : (flushQueue p s).vtb = s.vtb := rfl
@[simp] theorem flushQueue_rtu (p : Path) (s : State) : (flushQueue p s).rtu = s.rtu := rfl
@[simp] theorem flushQueue_rcq (p : Path) (s : State) : (flushQueue p s).rcq = s.rcq := rfl
@[simp] theorem flushQueue_rse (p : Path) (s : State) : (flushQueue p s).rse = s.rse := rfl
@[simp] theorem flushQueue_znu (p : Path) (s : State) : (flushQueue p s).znu = s.znu := rfl
@[simp] theorem flushQueue_psv (p : Path) (s : State) : (flushQueue p s).psv = s.psv := rfl
@[simp] theorem flushQueue_psl (p : Path) (s : State) : (flushQueue p s).psl = s.psl := rfl
@[simp] theorem flushQueue_drs (p : Path) (s : State) : (flushQueue p s).drs = s.drs := rfl
@[simp] theorem flushQueue_cvu (p : Path) (s : State) : (flushQueue p s).cvu = s.cvu := rfl
@[simp] theorem flushQueue_cfu (p : Path) (s : State) : (flushQueue p s).cfu = s.cfu := rfl
@[simp] theorem flushQueue_ntu (p : Path) (s : State) : (flushQueue p s).ntu = s.ntu := rfl
@[simp] theorem flushQueue_clocks (p : Path) (s : State) : (flushQueue p s).clocks = s.clocks := rfl
@[simp] theorem flushQueue_pending (p : Path) (s : State) : (flushQueue p s).pending = s.pending := rfl

@[simp] theorem enterNoBackhaul_shi (a : Path) (s : State) : (enterNoBackhaul a s).shi = s.shi := by unfold enterNoBackhaul; simp
@[simp] theorem enterNoBackhaul_uplinkSeq (a : Path) (s : State) : (enterNoBackhaul a s).uplinkSeq = s.uplinkSeq := by unfold enterNoBackhaul; simp
@[simp] theorem enterNoBackhaul_rtu (a : Path) (s : State) : (enterNoBackhaul a s).rtu = s.rtu := by unfold enterNoBackhaul; simp
@[simp] theorem enterNoBackhaul_rcq (a : Path) (s : State) : (enterNoBackhaul a s).rcq = s.rcq := by unfold enterNoBackhaul; simp
@[simp] theorem enterNoBackhaul_znu (a : Path) (s : State) : (enterNoBackhaul a s).znu = s.znu := by unfold enterNoBackhaul; simp
@[simp] theorem enterNoBackhaul_psv (a : Path) (s : State) : (enterNoBackhaul a s).psv = s.psv := by unfold enterNoBackhaul; simp
@[simp] theorem enterNoBackhaul_drs (a : Path) (s : State) : (enterNoBackhaul a s).drs = s.drs := by unfold enterNoBackhaul; simp
@[simp] theorem enterNoBackhaul_cvu (a : Path) (s : State) : (enterNoBackhaul a s).cvu = s.cvu := by unfold enterNoBackhaul; simp
@[simp] theorem enterNoBackhaul_cfu (a : Path) (s : State) : (enterNoBackhaul a s).cfu = s.cfu := by unfold enterNoBackhaul; simp
@[simp] theorem enterNoBackhaul_clocks (a : Path) (s : State) : (enterNoBackhaul a s).clocks = s.clocks := by unfold enterNoBackhaul; simp
@[simp] theorem enterNoBackhaul_pending (a : Path) (s : State) : (enterNoBackhaul a s).pending = s.pending := by unfold enterNoBackhaul; simp

@[simp] theorem leaveActive_shi (a : Path) (s : State) : (leaveActive a s).shi = s.shi := by unfold leaveActive; dsimp only; (repeat' split) <;> simp
@[simp] theorem leaveActive_uplinkSeq (a : Path) (s : State) : (leaveActive a s).uplinkSeq = s.uplinkSeq := by unfold leaveActive; dsimp only; (repeat' split) <;> simp
@[simp] theorem leaveActive_rtu (a : Path) (s : State) : (leaveActive a s).rtu = s.rtu := by unfold leaveActive; dsimp only; (repeat' split) <;> simp
@[simp] theorem leaveActive_rcq (a : Path) (s : State) : (leaveActive a s).rcq = s.rcq := by unfold leaveActive; dsimp only; (repeat' split) <;> simp
@[simp] theorem leaveActive_znu (a : Path) (s : State) : (leaveActive a s).znu = s.znu := by unfold leaveActive; dsimp only; (repeat' split) <;> simp
@[simp] theorem leaveActive_psv (a : Path) (s : State) : (leaveActive a s).psv = s.psv := by unfold leaveActive; dsimp only; (repeat' split) <;> simp
@[simp] theorem leaveActive_drs (a : Path) (s : State) : (leaveActive a s).drs = s.drs := by unfold leaveActive; dsimp only; (repeat' split) <;> simp
@[simp] theorem leaveActive_cvu (a : Path) (s : State) : (leaveActive a s).cvu = s.cvu := by unfold leaveActive; dsimp only; (repeat' split) <;> simp
@[simp] theorem leaveActive_cfu (a : Path) (s : State) : (leaveActive a s).cfu = s.cfu := by unfold leaveActive; dsimp only; (repeat' split) <;> simp
@[simp] theorem leaveActive_clocks (a : Path) (s : State) : (leaveActive a s).clocks = s.clocks := by unfold leaveActive; dsimp only; (repeat' split) <;> simp
@[simp] theorem leaveActive_pending (a : Path) (s : State) : (leaveActive a s).pending = s.pending := by unfold leaveActive; dsimp only; (repeat' split) <;> simp

@[simp] theorem activate_shi (s : State) : (activate s).shi = s.shi := by unfold activate; dsimp only; (repeat' split) <;> simp
@[simp] theorem activate_uplinkSeq (s : State) : (activate s).uplinkSeq = s.uplinkSeq := by unfold activate; dsimp only; (repeat' split) <;> simp
@[simp] theorem activate_rtu (s : State) : (activate s).rtu = s.rtu := by unfold activate; dsimp only; (repeat' split) <;> simp
@[simp] theorem activate_rcq (s : State) : (activate s).rcq = s.rcq := by unfold activate; dsimp only; (repeat' split) <;> simp
@[simp] theorem activate_znu (s : State) : (activate s).znu = s.znu := by unfold activate; dsimp only; (repeat' split) <;> simp
@[simp] theorem activate_psv (s : State) : (activate s).psv = s.psv := by unfold activate; dsimp only; (repeat' split) <;> simp
@[simp] theorem activate_drs (s : State) : (activate s).drs = s.drs := by unfold activate; dsimp only; (repeat' split) <;> simp
@[simp] theorem activate_cvu (s : State) : (activate s).cvu = s.cvu := by unfold activate; dsimp only; (repeat' split) <;> simp
@[simp] theorem activate_cfu (s : State) : (activate s).cfu = s.cfu := by unfold activate; dsimp only; (repeat' split) <;> simp
@[simp] theorem activate_clocks (s : State) : (activate s).clocks = s.clocks := by unfold activate; dsimp only; (repeat' split) <;> simp
@[simp] theorem activate_pending (s : State) : (activate s).pending = s.pending := by unfold activate; dsimp only; (repeat' split) <;> simp

@[simp] theorem pathEntersUp_shi (p : Path) (s : State) : (pathEntersUp p s).shi = s.shi := by unfold pathEntersUp; dsimp only; (repeat' split) <;> simp
@[simp] theorem pathEntersUp_uplinkSeq (p : Path) (s : State) : (pathEntersUp p s).uplinkSeq = s.uplinkSeq := by unfold pathEntersUp; dsimp only; (repeat' split) <;> simp
@[simp] theorem pathEntersUp_rtu (p : Path) (s : State) : (pathEntersUp p s).rtu = s.rtu := by unfold pathEntersUp; dsimp only; (repeat' split) <;> simp
@[simp] theorem pathEntersUp_rcq (p : Path) (s : State) : (pathEntersUp p s).rcq = s.rcq := by unfold pathEntersUp; dsimp only; (repeat' split) <;> simp
@[simp] theorem pathEntersUp_znu (p : Path) (s : State) : (pathEntersUp p s).znu = s.znu := by unfold pathEntersUp; dsimp only; (repeat' split) <;> simp
@[simp] theorem pathEntersUp_psv (p : Path) (s : State) : (pathEntersUp p s).psv = s.psv := by unfold pathEntersUp; dsimp only; (repeat' split) <;> simp
@[simp] theorem pathEntersUp_drs (p : Path) (s : State) : (pathEntersUp p s).drs = s.drs := by unfold pathEntersUp; dsimp only; (repeat' split) <;> simp
@[simp] theorem pathEntersUp_cvu (p : Path) (s : State) : (pathEntersUp p s).cvu = s.cvu := by unfold pathEntersUp; dsimp only; (repeat' split) <;> simp
@[simp] theorem pathEntersUp_cfu (p : Path) (s : State) : (pathEntersUp p s).cfu = s.cfu := by unfold pathEntersUp; dsimp only; (repeat' split) <;> simp
@[simp] theorem pathEntersUp_clocks (p : Path) (s : State) : (pathEntersUp p s).clocks = s.clocks := by unfold pathEntersUp; dsimp only; (repeat' split) <;> simp
@[simp] theorem pathEntersUp_pending (p : Path) (s : State) : (pathEntersUp p s).pending = s.pending := by unfold pathEntersUp; dsimp only; (repeat' split) <;> simp

@[simp] theorem pathLeavesUp_shi (p : Path) (s : State) : (pathLeavesUp p s).shi = s.shi := by unfold pathLeavesUp; dsimp only; (repeat' split) <;> simp
@[simp] theorem pathLeavesUp_uplinkSeq (p : Path) (s : State) : (pathLeavesUp p s).uplinkSeq = s.uplinkSeq := by unfold pathLeavesUp; dsimp only; (repeat' split) <;> simp
@[simp] theorem pathLeavesUp_rtu (p : Path) (s : State) : (pathLeavesUp p s).rtu = s.rtu := by unfold pathLeavesUp; dsimp only; (repeat' split) <;> simp
@[simp] theorem pathLeavesUp_rcq (p : Path) (s : State) : (pathLeavesUp p s).rcq = s.rcq := by unfold pathLeavesUp; dsimp only; (repeat' split) <;> simp
@[simp] theorem pathLeavesUp_znu (p : Path) (s : State) : (pathLeavesUp p s).znu = s.znu := by unfold pathLeavesUp; dsimp only; (repeat' split) <;> simp
@[simp] theorem pathLeavesUp_psv (p : Path) (s : State) : (pathLeavesUp p s).psv = s.psv := by unfold pathLeavesUp; dsimp only; (repeat' split) <;> simp
@[simp] theorem pathLeavesUp_drs (p : Path) (s : State) : (pathLeavesUp p s).drs = s.drs := by unfold pathLeavesUp; dsimp only; (repeat' split) <;> simp
@[simp] theorem pathLeavesUp_cvu (p : Path) (s : State) : (pathLeavesUp p s).cvu = s.cvu := by unfold pathLeavesUp; dsimp only; (repeat' split) <;> simp
@[simp] theorem pathLeavesUp_cfu (p : Path) (s : State) : (pathLeavesUp p s).cfu = s.cfu := by unfold pathLeavesUp; dsimp only; (repeat' split) <;> simp
@[simp] theorem pathLeavesUp_clocks (p : Path) (s : State) : (pathLeavesUp p s).clocks = s.clocks := by unfold pathLeavesUp; dsimp only; (repeat' split) <;> simp
@[simp] theorem pathLeavesUp_pending (p : Path) (s : State) : (pathLeavesUp p s).pending = s.pending := by unfold pathLeavesUp; dsimp only; (repeat' split) <;> simp

@[simp] theorem selectorZoneChange_shi (s : State) : (selectorZoneChange s).shi = s.shi := by unfold selectorZoneChange; (repeat' split) <;> simp
@[simp] theorem selectorZoneChange_uplinkSeq (s : State) : (selectorZoneChange s).uplinkSeq = s.uplinkSeq := by unfold selectorZoneChange; (repeat' split) <;> simp
@[simp] theorem selectorZoneChange_rtu (s : State) : (selectorZoneChange s).rtu = s.rtu := by unfold selectorZoneChange; (repeat' split) <;> simp
@[simp] theorem selectorZoneChange_rcq (s : State) : (selectorZoneChange s).rcq = s.rcq := by unfold selectorZoneChange; (repeat' split) <;> simp
@[simp] theorem selectorZoneChange_znu (s : State) : (selectorZoneChange s).znu = s.znu := by unfold selectorZoneChange; (repeat' split) <;> simp
@[simp] theorem selectorZoneChange_psv (s : State) : (selectorZoneChange s).psv = s.psv := by unfold selectorZoneChange; (repeat' split) <;> simp
@[simp] theorem selectorZoneChange_drs (s : State) : (selectorZoneChange s).drs = s.drs := by unfold selectorZoneChange; (repeat' split) <;> simp
@[simp] theorem selectorZoneChange_cvu (s : State) : (selectorZoneChange s).cvu = s.cvu := by unfold selectorZoneChange; (repeat' split) <;> simp
@[simp] theorem selectorZoneChange_cfu (s : State) : (selectorZoneChange s).cfu = s.cfu := by unfold selectorZoneChange; (repeat' split) <;> simp
@[simp] theorem selectorZoneChange_clocks (s : State) : (selectorZoneChange s).clocks = s.clocks := by unfold selectorZoneChange; (repeat' split) <;> simp
@[simp] theorem selectorZoneChange_pending (s : State) : (selectorZoneChange s).pending = s.pending := by unfold selectorZoneChange; (repeat' split) <;> simp

@[simp] theorem clearConfirm_shi (s : State) : (clearConfirm s).shi = s.shi := rfl
@[simp] theorem clearConfirm_shore (s : State) : (clearConfirm s).shore = s.shore := rfl
@[simp] theorem clearConfirm_freeBuffers (s : State) : (clearConfirm s).freeBuffers = s.freeBuffers := rfl
@[simp] theorem clearConfirm_uplinkSeq (s : State) : (clearConfirm s).uplinkSeq = s.uplinkSeq := rfl
@[simp] theorem clearConfirm_vtb (s : State) : (clearConfirm s).vtb = s.vtb := rfl
@[simp] theorem clearConfirm_rtu (s : State) : (clearConfirm s).rtu = s.rtu := rfl
@[simp] theorem clearConfirm_rcq (s : State) : (clearConfirm s).rcq = s.rcq := rfl
@[simp] theorem clearConfirm_rse (s : State) : (clearConfirm s).rse = s.rse := rfl
@[simp] theorem clearConfirm_znu (s : State) : (clearConfirm s).znu = s.znu := rfl
@[simp] theorem clearConfirm_psv (s : State) : (clearConfirm s).psv = s.psv := rfl
@[simp] theorem clearConfirm_drs (s : State) : (clearConfirm s).drs = s.drs := rfl
@[simp] theorem clearConfirm_cvu (s : State) : (clearConfirm s).cvu = s.cvu := rfl
@[simp] theorem clearConfirm_cfu (s : State) : (clearConfirm s).cfu = s.cfu := rfl
@[simp] theorem clearConfirm_ntu (s : State) : (clearConfirm s).ntu = s.ntu := rfl
@[simp] theorem clearConfirm_clocks (s : State) : (clearConfirm s).clocks = s.clocks := rfl
@[simp] theorem clearConfirm_pending (s : State) : (clearConfirm s).pending = s.pending := rfl

@[simp] theorem advanceConfirm_shi (b : Path) (s : State) : (advanceConfirm b s).shi = s.shi := by unfold advanceConfirm; dsimp only; (repeat' split) <;> simp
@[simp] theorem advanceConfirm_freeBuffers (b : Path) (s : State) : (advanceConfirm b s).freeBuffers = s.freeBuffers := by unfold advanceConfirm; dsimp only; (repeat' split) <;> simp
@[simp] theorem advanceConfirm_uplinkSeq (b : Path) (s : State) : (advanceConfirm b s).uplinkSeq = s.uplinkSeq := by unfold advanceConfirm; dsimp only; (repeat' split) <;> simp
@[simp] theorem advanceConfirm_rtu (b : Path) (s : State) : (advanceConfirm b s).rtu = s.rtu := by unfold advanceConfirm; dsimp only; (repeat' split) <;> simp
@[simp] theorem advanceConfirm_rcq (b : Path) (s : State) : (advanceConfirm b s).rcq = s.rcq := by unfold advanceConfirm; dsimp only; (repeat' split) <;> simp
@[simp] theorem advanceConfirm_znu (b : Path) (s : State) : (advanceConfirm b s).znu = s.znu := by unfold advanceConfirm; dsimp only; (repeat' split) <;> simp
@[simp] theorem advanceConfirm_psv (b : Path) (s : State) : (advanceConfirm b s).psv = s.psv := by unfold advanceConfirm; dsimp only; (repeat' split) <;> simp
@[simp] theorem advanceConfirm_drs (b : Path) (s : State) : (advanceConfirm b s).drs = s.drs := by unfold advanceConfirm; dsimp only; (repeat' split) <;> simp
@[simp] theorem advanceConfirm_cvu (b : Path) (s : State) : (advanceConfirm b s).cvu = s.cvu := by unfold advanceConfirm; dsimp only; (repeat' split) <;> simp
@[simp] theorem advanceConfirm_cfu (b : Path) (s : State) : (advanceConfirm b s).cfu = s.cfu := by unfold advanceConfirm; dsimp only; (repeat' split) <;> simp
@[simp] theorem advanceConfirm_clocks (b : Path) (s : State) : (advanceConfirm b s).clocks = s.clocks := by unfold advanceConfirm; dsimp only; (repeat' split) <;> simp
@[simp] theorem advanceConfirm_pending (b : Path) (s : State) : (advanceConfirm b s).pending = s.pending := by unfold advanceConfirm; dsimp only; (repeat' split) <;> simp

@[simp] theorem evaluateCases_shi (s : State) : (evaluateCases s).shi = s.shi := by unfold evaluateCases; (repeat' split) <;> simp
@[simp] theorem evaluateCases_freeBuffers (s : State) : (evaluateCases s).freeBuffers = s.freeBuffers := by unfold evaluateCases; (repeat' split) <;> simp
@[simp] theorem evaluateCases_uplinkSeq (s : State) : (evaluateCases s).uplinkSeq = s.uplinkSeq := by unfold evaluateCases; (repeat' split) <;> simp
@[simp] theorem evaluateCases_rtu (s : State) : (evaluateCases s).rtu = s.rtu := by unfold evaluateCases; (repeat' split) <;> simp
@[simp] theorem evaluateCases_rcq (s : State) : (evaluateCases s).rcq = s.rcq := by unfold evaluateCases; (repeat' split) <;> simp
@[simp] theorem evaluateCases_znu (s : State) : (evaluateCases s).znu = s.znu := by unfold evaluateCases; (repeat' split) <;> simp
@[simp] theorem evaluateCases_psv (s : State) : (evaluateCases s).psv = s.psv := by unfold evaluateCases; (repeat' split) <;> simp
@[simp] theorem evaluateCases_drs (s : State) : (evaluateCases s).drs = s.drs := by unfold evaluateCases; (repeat' split) <;> simp
@[simp] theorem evaluateCases_cvu (s : State) : (evaluateCases s).cvu = s.cvu := by unfold evaluateCases; (repeat' split) <;> simp
@[simp] theorem evaluateCases_cfu (s : State) : (evaluateCases s).cfu = s.cfu := by unfold evaluateCases; (repeat' split) <;> simp
@[simp] theorem evaluateCases_clocks (s : State) : (evaluateCases s).clocks = s.clocks := by unfold evaluateCases; (repeat' split) <;> simp
@[simp] theorem evaluateCases_pending (s : State) : (evaluateCases s).pending = s.pending := by unfold evaluateCases; (repeat' split) <;> simp

@[simp] theorem evaluate_shi (s : State) : (evaluate s).shi = s.shi := by unfold evaluate; simp
@[simp] theorem evaluate_freeBuffers (s : State) : (evaluate s).freeBuffers = s.freeBuffers := by unfold evaluate; simp
@[simp] theorem evaluate_uplinkSeq (s : State) : (evaluate s).uplinkSeq = s.uplinkSeq := by unfold evaluate; simp
@[simp] theorem evaluate_rtu (s : State) : (evaluate s).rtu = s.rtu := by unfold evaluate; simp
@[simp] theorem evaluate_rcq (s : State) : (evaluate s).rcq = s.rcq := by unfold evaluate; simp
@[simp] theorem evaluate_znu (s : State) : (evaluate s).znu = s.znu := by unfold evaluate; simp
@[simp] theorem evaluate_psv (s : State) : (evaluate s).psv = s.psv := by unfold evaluate; simp
@[simp] theorem evaluate_drs (s : State) : (evaluate s).drs = s.drs := by unfold evaluate; simp
@[simp] theorem evaluate_cvu (s : State) : (evaluate s).cvu = s.cvu := by unfold evaluate; simp
@[simp] theorem evaluate_cfu (s : State) : (evaluate s).cfu = s.cfu := by unfold evaluate; simp
@[simp] theorem evaluate_clocks (s : State) : (evaluate s).clocks = s.clocks := by unfold evaluate; simp
@[simp] theorem evaluate_pending (s : State) : (evaluate s).pending = s.pending := by unfold evaluate; simp

@[simp] theorem retarget_shi (s : State) : (retarget s).shi = s.shi := rfl
@[simp] theorem retarget_shore (s : State) : (retarget s).shore = s.shore := rfl
@[simp] theorem retarget_freeBuffers (s : State) : (retarget s).freeBuffers = s.freeBuffers := rfl
@[simp] theorem retarget_uplinkSeq (s : State) : (retarget s).uplinkSeq = s.uplinkSeq := rfl
@[simp] theorem retarget_vtb (s : State) : (retarget s).vtb = s.vtb := rfl
@[simp] theorem retarget_rtu (s : State) : (retarget s).rtu = s.rtu := rfl
@[simp] theorem retarget_rcq (s : State) : (retarget s).rcq = s.rcq := rfl
@[simp] theorem retarget_rse (s : State) : (retarget s).rse = s.rse := rfl
@[simp] theorem retarget_znu (s : State) : (retarget s).znu = s.znu := rfl
@[simp] theorem retarget_psv (s : State) : (retarget s).psv = s.psv := rfl
@[simp] theorem retarget_psl (s : State) : (retarget s).psl = s.psl := rfl
@[simp] theorem retarget_drs (s : State) : (retarget s).drs = s.drs := rfl
@[simp] theorem retarget_cfu (s : State) : (retarget s).cfu = s.cfu := rfl
@[simp] theorem retarget_ntu (s : State) : (retarget s).ntu = s.ntu := rfl
@[simp] theorem retarget_clocks (s : State) : (retarget s).clocks = s.clocks := rfl
@[simp] theorem retarget_pending (s : State) : (retarget s).pending = s.pending := rfl

@[simp] theorem zoneChange_shi (z : Zone) (cause : ChangeCause) (s : State) : (zoneChange z cause s).shi = s.shi := by unfold zoneChange; simp
@[simp] theorem zoneChange_uplinkSeq (z : Zone) (cause : ChangeCause) (s : State) : (zoneChange z cause s).uplinkSeq = s.uplinkSeq := by unfold zoneChange; simp
@[simp] theorem zoneChange_rtu (z : Zone) (cause : ChangeCause) (s : State) : (zoneChange z cause s).rtu = s.rtu := by unfold zoneChange; simp
@[simp] theorem zoneChange_rcq (z : Zone) (cause : ChangeCause) (s : State) : (zoneChange z cause s).rcq = s.rcq := by unfold zoneChange; simp
@[simp] theorem zoneChange_psv (z : Zone) (cause : ChangeCause) (s : State) : (zoneChange z cause s).psv = s.psv := by unfold zoneChange; simp
@[simp] theorem zoneChange_drs (z : Zone) (cause : ChangeCause) (s : State) : (zoneChange z cause s).drs = s.drs := by unfold zoneChange; simp
@[simp] theorem zoneChange_cfu (z : Zone) (cause : ChangeCause) (s : State) : (zoneChange z cause s).cfu = s.cfu := by unfold zoneChange; simp
@[simp] theorem zoneChange_clocks (z : Zone) (cause : ChangeCause) (s : State) : (zoneChange z cause s).clocks = s.clocks := by unfold zoneChange; simp
@[simp] theorem zoneChange_pending (z : Zone) (cause : ChangeCause) (s : State) : (zoneChange z cause s).pending = s.pending := by unfold zoneChange; simp

@[simp] theorem heartbeat_shi (c : Cell) (level : Nat) (s : State) : (heartbeat c level s).shi = s.shi := by unfold heartbeat; dsimp only; (repeat' split) <;> simp
@[simp] theorem heartbeat_shore (c : Cell) (level : Nat) (s : State) : (heartbeat c level s).shore = s.shore := by unfold heartbeat; dsimp only; (repeat' split) <;> simp
@[simp] theorem heartbeat_freeBuffers (c : Cell) (level : Nat) (s : State) : (heartbeat c level s).freeBuffers = s.freeBuffers := by unfold heartbeat; dsimp only; (repeat' split) <;> simp
@[simp] theorem heartbeat_uplinkSeq (c : Cell) (level : Nat) (s : State) : (heartbeat c level s).uplinkSeq = s.uplinkSeq := by unfold heartbeat; dsimp only; (repeat' split) <;> simp
@[simp] theorem heartbeat_vtb (c : Cell) (level : Nat) (s : State) : (heartbeat c level s).vtb = s.vtb := by unfold heartbeat; dsimp only; (repeat' split) <;> simp
@[simp] theorem heartbeat_rtu (c : Cell) (level : Nat) (s : State) : (heartbeat c level s).rtu = s.rtu := by unfold heartbeat; dsimp only; (repeat' split) <;> simp
@[simp] theorem heartbeat_rcq (c : Cell) (level : Nat) (s : State) : (heartbeat c level s).rcq = s.rcq := by unfold heartbeat; dsimp only; (repeat' split) <;> simp
@[simp] theorem heartbeat_rse (c : Cell) (level : Nat) (s : State) : (heartbeat c level s).rse = s.rse := by unfold heartbeat; dsimp only; (repeat' split) <;> simp
@[simp] theorem heartbeat_znu (c : Cell) (level : Nat) (s : State) : (heartbeat c level s).znu = s.znu := by unfold heartbeat; dsimp only; (repeat' split) <;> simp
@[simp] theorem heartbeat_psv (c : Cell) (level : Nat) (s : State) : (heartbeat c level s).psv = s.psv := by unfold heartbeat; dsimp only; (repeat' split) <;> simp
@[simp] theorem heartbeat_psl (c : Cell) (level : Nat) (s : State) : (heartbeat c level s).psl = s.psl := by unfold heartbeat; dsimp only; (repeat' split) <;> simp
@[simp] theorem heartbeat_drs (c : Cell) (level : Nat) (s : State) : (heartbeat c level s).drs = s.drs := by unfold heartbeat; dsimp only; (repeat' split) <;> simp
@[simp] theorem heartbeat_cfu (c : Cell) (level : Nat) (s : State) : (heartbeat c level s).cfu = s.cfu := by unfold heartbeat; dsimp only; (repeat' split) <;> simp
@[simp] theorem heartbeat_ntu (c : Cell) (level : Nat) (s : State) : (heartbeat c level s).ntu = s.ntu := by unfold heartbeat; dsimp only; (repeat' split) <;> simp
@[simp] theorem heartbeat_clocks (c : Cell) (level : Nat) (s : State) : (heartbeat c level s).clocks = s.clocks := by unfold heartbeat; dsimp only; (repeat' split) <;> simp
@[simp] theorem heartbeat_pending (c : Cell) (level : Nat) (s : State) : (heartbeat c level s).pending = s.pending := by unfold heartbeat; dsimp only; (repeat' split) <;> simp

@[simp] theorem heartbeatLoss_shi (c : Cell) (s : State) : (heartbeatLoss c s).shi = s.shi := by unfold heartbeatLoss; dsimp only; (repeat' split) <;> simp
@[simp] theorem heartbeatLoss_shore (c : Cell) (s : State) : (heartbeatLoss c s).shore = s.shore := by unfold heartbeatLoss; dsimp only; (repeat' split) <;> simp
@[simp] theorem heartbeatLoss_freeBuffers (c : Cell) (s : State) : (heartbeatLoss c s).freeBuffers = s.freeBuffers := by unfold heartbeatLoss; dsimp only; (repeat' split) <;> simp
@[simp] theorem heartbeatLoss_uplinkSeq (c : Cell) (s : State) : (heartbeatLoss c s).uplinkSeq = s.uplinkSeq := by unfold heartbeatLoss; dsimp only; (repeat' split) <;> simp
@[simp] theorem heartbeatLoss_vtb (c : Cell) (s : State) : (heartbeatLoss c s).vtb = s.vtb := by unfold heartbeatLoss; dsimp only; (repeat' split) <;> simp
@[simp] theorem heartbeatLoss_rtu (c : Cell) (s : State) : (heartbeatLoss c s).rtu = s.rtu := by unfold heartbeatLoss; dsimp only; (repeat' split) <;> simp
@[simp] theorem heartbeatLoss_rcq (c : Cell) (s : State) : (heartbeatLoss c s).rcq = s.rcq := by unfold heartbeatLoss; dsimp only; (repeat' split) <;> simp
@[simp] theorem heartbeatLoss_rse (c : Cell) (s : State) : (heartbeatLoss c s).rse = s.rse := by unfold heartbeatLoss; dsimp only; (repeat' split) <;> simp
@[simp] theorem heartbeatLoss_znu (c : Cell) (s : State) : (heartbeatLoss c s).znu = s.znu := by unfold heartbeatLoss; dsimp only; (repeat' split) <;> simp
@[simp] theorem heartbeatLoss_psv (c : Cell) (s : State) : (heartbeatLoss c s).psv = s.psv := by unfold heartbeatLoss; dsimp only; (repeat' split) <;> simp
@[simp] theorem heartbeatLoss_psl (c : Cell) (s : State) : (heartbeatLoss c s).psl = s.psl := by unfold heartbeatLoss; dsimp only; (repeat' split) <;> simp
@[simp] theorem heartbeatLoss_drs (c : Cell) (s : State) : (heartbeatLoss c s).drs = s.drs := by unfold heartbeatLoss; dsimp only; (repeat' split) <;> simp
@[simp] theorem heartbeatLoss_cfu (c : Cell) (s : State) : (heartbeatLoss c s).cfu = s.cfu := by unfold heartbeatLoss; dsimp only; (repeat' split) <;> simp
@[simp] theorem heartbeatLoss_clocks (c : Cell) (s : State) : (heartbeatLoss c s).clocks = s.clocks := by unfold heartbeatLoss; dsimp only; (repeat' split) <;> simp
@[simp] theorem heartbeatLoss_pending (c : Cell) (s : State) : (heartbeatLoss c s).pending = s.pending := by unfold heartbeatLoss; dsimp only; (repeat' split) <;> simp

@[simp] theorem refuseHeld_shi (i : Nat) (why : Refused) (s : State) : (refuseHeld i why s).shi = s.shi := rfl
@[simp] theorem refuseHeld_shore (i : Nat) (why : Refused) (s : State) : (refuseHeld i why s).shore = s.shore := rfl
@[simp] theorem refuseHeld_uplinkSeq (i : Nat) (why : Refused) (s : State) : (refuseHeld i why s).uplinkSeq = s.uplinkSeq := rfl
@[simp] theorem refuseHeld_rtu (i : Nat) (why : Refused) (s : State) : (refuseHeld i why s).rtu = s.rtu := rfl
@[simp] theorem refuseHeld_rcq (i : Nat) (why : Refused) (s : State) : (refuseHeld i why s).rcq = s.rcq := rfl
@[simp] theorem refuseHeld_rse (i : Nat) (why : Refused) (s : State) : (refuseHeld i why s).rse = s.rse := rfl
@[simp] theorem refuseHeld_znu (i : Nat) (why : Refused) (s : State) : (refuseHeld i why s).znu = s.znu := rfl
@[simp] theorem refuseHeld_psv (i : Nat) (why : Refused) (s : State) : (refuseHeld i why s).psv = s.psv := rfl
@[simp] theorem refuseHeld_psl (i : Nat) (why : Refused) (s : State) : (refuseHeld i why s).psl = s.psl := rfl
@[simp] theorem refuseHeld_drs (i : Nat) (why : Refused) (s : State) : (refuseHeld i why s).drs = s.drs := rfl
@[simp] theorem refuseHeld_cvu (i : Nat) (why : Refused) (s : State) : (refuseHeld i why s).cvu = s.cvu := rfl
@[simp] theorem refuseHeld_cfu (i : Nat) (why : Refused) (s : State) : (refuseHeld i why s).cfu = s.cfu := rfl
@[simp] theorem refuseHeld_ntu (i : Nat) (why : Refused) (s : State) : (refuseHeld i why s).ntu = s.ntu := rfl
@[simp] theorem refuseHeld_clocks (i : Nat) (why : Refused) (s : State) : (refuseHeld i why s).clocks = s.clocks := rfl
@[simp] theorem refuseHeld_pending (i : Nat) (why : Refused) (s : State) : (refuseHeld i why s).pending = s.pending := rfl

@[simp] theorem countSubstitution_shi (b : Bool) (s : State) : (countSubstitution b s).shi = s.shi := by unfold countSubstitution; dsimp only; (repeat' split) <;> simp
@[simp] theorem countSubstitution_shore (b : Bool) (s : State) : (countSubstitution b s).shore = s.shore := by unfold countSubstitution; dsimp only; (repeat' split) <;> simp
@[simp] theorem countSubstitution_freeBuffers (b : Bool) (s : State) : (countSubstitution b s).freeBuffers = s.freeBuffers := by unfold countSubstitution; dsimp only; (repeat' split) <;> simp
@[simp] theorem countSubstitution_uplinkSeq (b : Bool) (s : State) : (countSubstitution b s).uplinkSeq = s.uplinkSeq := by unfold countSubstitution; dsimp only; (repeat' split) <;> simp
@[simp] theorem countSubstitution_vtb (b : Bool) (s : State) : (countSubstitution b s).vtb = s.vtb := by unfold countSubstitution; dsimp only; (repeat' split) <;> simp
@[simp] theorem countSubstitution_rtu (b : Bool) (s : State) : (countSubstitution b s).rtu = s.rtu := by unfold countSubstitution; dsimp only; (repeat' split) <;> simp
@[simp] theorem countSubstitution_rcq (b : Bool) (s : State) : (countSubstitution b s).rcq = s.rcq := by unfold countSubstitution; dsimp only; (repeat' split) <;> simp
@[simp] theorem countSubstitution_rse (b : Bool) (s : State) : (countSubstitution b s).rse = s.rse := by unfold countSubstitution; dsimp only; (repeat' split) <;> simp
@[simp] theorem countSubstitution_znu (b : Bool) (s : State) : (countSubstitution b s).znu = s.znu := by unfold countSubstitution; dsimp only; (repeat' split) <;> simp
@[simp] theorem countSubstitution_psv (b : Bool) (s : State) : (countSubstitution b s).psv = s.psv := by unfold countSubstitution; dsimp only; (repeat' split) <;> simp
@[simp] theorem countSubstitution_psl (b : Bool) (s : State) : (countSubstitution b s).psl = s.psl := by unfold countSubstitution; dsimp only; (repeat' split) <;> simp
@[simp] theorem countSubstitution_drs (b : Bool) (s : State) : (countSubstitution b s).drs = s.drs := by unfold countSubstitution; dsimp only; (repeat' split) <;> simp
@[simp] theorem countSubstitution_cfu (b : Bool) (s : State) : (countSubstitution b s).cfu = s.cfu := by unfold countSubstitution; dsimp only; (repeat' split) <;> simp
@[simp] theorem countSubstitution_ntu (b : Bool) (s : State) : (countSubstitution b s).ntu = s.ntu := by unfold countSubstitution; dsimp only; (repeat' split) <;> simp
@[simp] theorem countSubstitution_clocks (b : Bool) (s : State) : (countSubstitution b s).clocks = s.clocks := by unfold countSubstitution; dsimp only; (repeat' split) <;> simp
@[simp] theorem countSubstitution_pending (b : Bool) (s : State) : (countSubstitution b s).pending = s.pending := by unfold countSubstitution; dsimp only; (repeat' split) <;> simp

@[simp] theorem deliverCharged_shore (i : Nat) (h : Held) (c : Cell) (s : State) : (deliverCharged i h c s).shore = s.shore := by unfold deliverCharged; dsimp only; (repeat' split) <;> simp
@[simp] theorem deliverCharged_uplinkSeq (i : Nat) (h : Held) (c : Cell) (s : State) : (deliverCharged i h c s).uplinkSeq = s.uplinkSeq := by unfold deliverCharged; dsimp only; (repeat' split) <;> simp
@[simp] theorem deliverCharged_rtu (i : Nat) (h : Held) (c : Cell) (s : State) : (deliverCharged i h c s).rtu = s.rtu := by unfold deliverCharged; dsimp only; (repeat' split) <;> simp
@[simp] theorem deliverCharged_rse (i : Nat) (h : Held) (c : Cell) (s : State) : (deliverCharged i h c s).rse = s.rse := by unfold deliverCharged; dsimp only; (repeat' split) <;> simp
@[simp] theorem deliverCharged_znu (i : Nat) (h : Held) (c : Cell) (s : State) : (deliverCharged i h c s).znu = s.znu := by unfold deliverCharged; dsimp only; (repeat' split) <;> simp
@[simp] theorem deliverCharged_psv (i : Nat) (h : Held) (c : Cell) (s : State) : (deliverCharged i h c s).psv = s.psv := by unfold deliverCharged; dsimp only; (repeat' split) <;> simp
@[simp] theorem deliverCharged_psl (i : Nat) (h : Held) (c : Cell) (s : State) : (deliverCharged i h c s).psl = s.psl := by unfold deliverCharged; dsimp only; (repeat' split) <;> simp
@[simp] theorem deliverCharged_drs (i : Nat) (h : Held) (c : Cell) (s : State) : (deliverCharged i h c s).drs = s.drs := by unfold deliverCharged; dsimp only; (repeat' split) <;> simp
@[simp] theorem deliverCharged_cvu (i : Nat) (h : Held) (c : Cell) (s : State) : (deliverCharged i h c s).cvu = s.cvu := by unfold deliverCharged; dsimp only; (repeat' split) <;> simp
@[simp] theorem deliverCharged_cfu (i : Nat) (h : Held) (c : Cell) (s : State) : (deliverCharged i h c s).cfu = s.cfu := by unfold deliverCharged; dsimp only; (repeat' split) <;> simp
@[simp] theorem deliverCharged_clocks (i : Nat) (h : Held) (c : Cell) (s : State) : (deliverCharged i h c s).clocks = s.clocks := by unfold deliverCharged; dsimp only; (repeat' split) <;> simp
@[simp] theorem deliverCharged_pending (i : Nat) (h : Held) (c : Cell) (s : State) : (deliverCharged i h c s).pending = s.pending := by unfold deliverCharged; dsimp only; (repeat' split) <;> simp

@[simp] theorem deliverTo_shore (i : Nat) (h : Held) (s : State) : (deliverTo i h s).shore = s.shore := by unfold deliverTo; (repeat' split) <;> simp
@[simp] theorem deliverTo_uplinkSeq (i : Nat) (h : Held) (s : State) : (deliverTo i h s).uplinkSeq = s.uplinkSeq := by unfold deliverTo; (repeat' split) <;> simp
@[simp] theorem deliverTo_rtu (i : Nat) (h : Held) (s : State) : (deliverTo i h s).rtu = s.rtu := by unfold deliverTo; (repeat' split) <;> simp
@[simp] theorem deliverTo_rse (i : Nat) (h : Held) (s : State) : (deliverTo i h s).rse = s.rse := by unfold deliverTo; (repeat' split) <;> simp
@[simp] theorem deliverTo_znu (i : Nat) (h : Held) (s : State) : (deliverTo i h s).znu = s.znu := by unfold deliverTo; (repeat' split) <;> simp
@[simp] theorem deliverTo_psv (i : Nat) (h : Held) (s : State) : (deliverTo i h s).psv = s.psv := by unfold deliverTo; (repeat' split) <;> simp
@[simp] theorem deliverTo_psl (i : Nat) (h : Held) (s : State) : (deliverTo i h s).psl = s.psl := by unfold deliverTo; (repeat' split) <;> simp
@[simp] theorem deliverTo_drs (i : Nat) (h : Held) (s : State) : (deliverTo i h s).drs = s.drs := by unfold deliverTo; (repeat' split) <;> simp
@[simp] theorem deliverTo_cfu (i : Nat) (h : Held) (s : State) : (deliverTo i h s).cfu = s.cfu := by unfold deliverTo; (repeat' split) <;> simp
@[simp] theorem deliverTo_clocks (i : Nat) (h : Held) (s : State) : (deliverTo i h s).clocks = s.clocks := by unfold deliverTo; (repeat' split) <;> simp
@[simp] theorem deliverTo_pending (i : Nat) (h : Held) (s : State) : (deliverTo i h s).pending = s.pending := by unfold deliverTo; (repeat' split) <;> simp

@[simp] theorem downlinkDelivery_uplinkSeq (h : Held) (s : State) : (downlinkDelivery h s).uplinkSeq = s.uplinkSeq := by unfold downlinkDelivery; (repeat' split) <;> simp
@[simp] theorem downlinkDelivery_rtu (h : Held) (s : State) : (downlinkDelivery h s).rtu = s.rtu := by unfold downlinkDelivery; (repeat' split) <;> simp
@[simp] theorem downlinkDelivery_znu (h : Held) (s : State) : (downlinkDelivery h s).znu = s.znu := by unfold downlinkDelivery; (repeat' split) <;> simp
@[simp] theorem downlinkDelivery_psv (h : Held) (s : State) : (downlinkDelivery h s).psv = s.psv := by unfold downlinkDelivery; (repeat' split) <;> simp
@[simp] theorem downlinkDelivery_psl (h : Held) (s : State) : (downlinkDelivery h s).psl = s.psl := by unfold downlinkDelivery; (repeat' split) <;> simp
@[simp] theorem downlinkDelivery_drs (h : Held) (s : State) : (downlinkDelivery h s).drs = s.drs := by unfold downlinkDelivery; (repeat' split) <;> simp
@[simp] theorem downlinkDelivery_cfu (h : Held) (s : State) : (downlinkDelivery h s).cfu = s.cfu := by unfold downlinkDelivery; (repeat' split) <;> simp
@[simp] theorem downlinkDelivery_clocks (h : Held) (s : State) : (downlinkDelivery h s).clocks = s.clocks := by unfold downlinkDelivery; (repeat' split) <;> simp
@[simp] theorem downlinkDelivery_pending (h : Held) (s : State) : (downlinkDelivery h s).pending = s.pending := by unfold downlinkDelivery; (repeat' split) <;> simp

@[simp] theorem deliver_uplinkSeq (h : Held) (s : State) : (deliver h s).uplinkSeq = s.uplinkSeq := by unfold deliver; simp
@[simp] theorem deliver_rtu (h : Held) (s : State) : (deliver h s).rtu = s.rtu := by unfold deliver; simp
@[simp] theorem deliver_znu (h : Held) (s : State) : (deliver h s).znu = s.znu := by unfold deliver; simp
@[simp] theorem deliver_psv (h : Held) (s : State) : (deliver h s).psv = s.psv := by unfold deliver; simp
@[simp] theorem deliver_psl (h : Held) (s : State) : (deliver h s).psl = s.psl := by unfold deliver; simp
@[simp] theorem deliver_cfu (h : Held) (s : State) : (deliver h s).cfu = s.cfu := by unfold deliver; simp
@[simp] theorem deliver_clocks (h : Held) (s : State) : (deliver h s).clocks = s.clocks := by unfold deliver; simp
@[simp] theorem deliver_pending (h : Held) (s : State) : (deliver h s).pending = s.pending := by unfold deliver; simp

@[simp] theorem checkGapTimer_shi (s : State) : (checkGapTimer s).shi = s.shi := by unfold checkGapTimer; dsimp only; (repeat' split) <;> simp
@[simp] theorem checkGapTimer_shore (s : State) : (checkGapTimer s).shore = s.shore := by unfold checkGapTimer; dsimp only; (repeat' split) <;> simp
@[simp] theorem checkGapTimer_freeBuffers (s : State) : (checkGapTimer s).freeBuffers = s.freeBuffers := by unfold checkGapTimer; dsimp only; (repeat' split) <;> simp
@[simp] theorem checkGapTimer_uplinkSeq (s : State) : (checkGapTimer s).uplinkSeq = s.uplinkSeq := by unfold checkGapTimer; dsimp only; (repeat' split) <;> simp
@[simp] theorem checkGapTimer_vtb (s : State) : (checkGapTimer s).vtb = s.vtb := by unfold checkGapTimer; dsimp only; (repeat' split) <;> simp
@[simp] theorem checkGapTimer_rtu (s : State) : (checkGapTimer s).rtu = s.rtu := by unfold checkGapTimer; dsimp only; (repeat' split) <;> simp
@[simp] theorem checkGapTimer_rcq (s : State) : (checkGapTimer s).rcq = s.rcq := by unfold checkGapTimer; dsimp only; (repeat' split) <;> simp
@[simp] theorem checkGapTimer_rse (s : State) : (checkGapTimer s).rse = s.rse := by unfold checkGapTimer; dsimp only; (repeat' split) <;> simp
@[simp] theorem checkGapTimer_znu (s : State) : (checkGapTimer s).znu = s.znu := by unfold checkGapTimer; dsimp only; (repeat' split) <;> simp
@[simp] theorem checkGapTimer_psv (s : State) : (checkGapTimer s).psv = s.psv := by unfold checkGapTimer; dsimp only; (repeat' split) <;> simp
@[simp] theorem checkGapTimer_psl (s : State) : (checkGapTimer s).psl = s.psl := by unfold checkGapTimer; dsimp only; (repeat' split) <;> simp
@[simp] theorem checkGapTimer_cvu (s : State) : (checkGapTimer s).cvu = s.cvu := by unfold checkGapTimer; dsimp only; (repeat' split) <;> simp
@[simp] theorem checkGapTimer_cfu (s : State) : (checkGapTimer s).cfu = s.cfu := by unfold checkGapTimer; dsimp only; (repeat' split) <;> simp
@[simp] theorem checkGapTimer_ntu (s : State) : (checkGapTimer s).ntu = s.ntu := by unfold checkGapTimer; dsimp only; (repeat' split) <;> simp
@[simp] theorem checkGapTimer_clocks (s : State) : (checkGapTimer s).clocks = s.clocks := by unfold checkGapTimer; dsimp only; (repeat' split) <;> simp
@[simp] theorem checkGapTimer_pending (s : State) : (checkGapTimer s).pending = s.pending := by unfold checkGapTimer; dsimp only; (repeat' split) <;> simp

@[simp] theorem cleanUp_shi (g : Bool) (p : Path) (s : State) : (cleanUp g p s).shi = s.shi := rfl
@[simp] theorem cleanUp_freeBuffers (g : Bool) (p : Path) (s : State) : (cleanUp g p s).freeBuffers = s.freeBuffers := rfl
@[simp] theorem cleanUp_uplinkSeq (g : Bool) (p : Path) (s : State) : (cleanUp g p s).uplinkSeq = s.uplinkSeq := rfl
@[simp] theorem cleanUp_vtb (g : Bool) (p : Path) (s : State) : (cleanUp g p s).vtb = s.vtb := rfl
@[simp] theorem cleanUp_rtu (g : Bool) (p : Path) (s : State) : (cleanUp g p s).rtu = s.rtu := rfl
@[simp] theorem cleanUp_rcq (g : Bool) (p : Path) (s : State) : (cleanUp g p s).rcq = s.rcq := rfl
@[simp] theorem cleanUp_rse (g : Bool) (p : Path) (s : State) : (cleanUp g p s).rse = s.rse := rfl
@[simp] theorem cleanUp_znu (g : Bool) (p : Path) (s : State) : (cleanUp g p s).znu = s.znu := rfl
@[simp] theorem cleanUp_psl (g : Bool) (p : Path) (s : State) : (cleanUp g p s).psl = s.psl := rfl
@[simp] theorem cleanUp_drs (g : Bool) (p : Path) (s : State) : (cleanUp g p s).drs = s.drs := rfl
@[simp] theorem cleanUp_cvu (g : Bool) (p : Path) (s : State) : (cleanUp g p s).cvu = s.cvu := rfl
@[simp] theorem cleanUp_cfu (g : Bool) (p : Path) (s : State) : (cleanUp g p s).cfu = s.cfu := rfl
@[simp] theorem cleanUp_ntu (g : Bool) (p : Path) (s : State) : (cleanUp g p s).ntu = s.ntu := rfl
@[simp] theorem cleanUp_clocks (g : Bool) (p : Path) (s : State) : (cleanUp g p s).clocks = s.clocks := rfl
@[simp] theorem cleanUp_pending (g : Bool) (p : Path) (s : State) : (cleanUp g p s).pending = s.pending := rfl

/-- A delivery changes nothing of the resequencer but DELIVERED (R151). -/
theorem deliver_drs (h : Held) (s : State) :
    (deliver h s).drs = { s.drs with delivered := s.drs.delivered + 1 } := by
  unfold deliver; simp

end Sys2Proof.Machine
end

