-- ==== Sys2Proof/Laws/Delivery.lean ====
section
/-! SUPPORT. What a refusal, a record's close, a charge, a taken frame, a delivery and a survey's completion can do,
said once. -/

namespace Sys2Proof.Machine

/-! ## Refusals and charges -/

theorem blockPacket_visitor (i : Nat) (why : Refused) (s : State) :
    (blockPacket i why s).visitor i =
      { s.visitor i with blocked := min ((s.visitor i).blocked + 1) (2 ^ 32 - 1) } := by
  have h : ({ s.visitor i with blocked := saturateInc Config.max32 (s.visitor i).blocked } : Visitor) ≠
      Visitor.freeEntry := by
    intro e
    have h1 := congrArg Visitor.blocked e
    simp [saturateInc, Config.max32, Visitor.freeEntry] at h1
  have h2 := setVisitor_visitor_self (s := s) (i := i) h
  cases why <;> exact h2

theorem blockPacket_visitor_ne {i j : Nat} (why : Refused) (s : State) (h : j ≠ i) :
    (blockPacket i why s).visitor j = s.visitor j := by
  have h2 := setVisitor_visitor_ne s
    { s.visitor i with blocked := saturateInc Config.max32 (s.visitor i).blocked } h
  cases why <;> exact h2

/-- A visitor that holds an open record is written as it stands (R20). -/
theorem setVisitor_visitor_of_open {s : State} {i : Nat} {v : Visitor} {r : OpenRecord}
    (h : v.openRecord = some r) : (s.setVisitor i v).visitor i = v :=
  setVisitor_visitor_self (fun e => by subst e; cases h)

theorem reopen_visitor (i : Nat) (s : State) :
    (reopen i s).visitor i = { s.visitor i with openRecord := some (openNow s (s.visitor i)) } :=
  setVisitor_visitor_of_open rfl

/-- After a close the entry holds a new record with the current snapshot; the close itself moves money only into
SPILLED (R63, R65, R73). -/
theorem closeRecord_visitor {i : Nat} (why : CloseReason) {s : State} {r : OpenRecord}
    (h : (s.visitor i).openRecord = some r) :
    ∃ a n : Nat, (closeRecord i why s).1.visitor i = { s.visitor i with
      openRecord := some (openNow s (s.visitor i)), spilled := a, spillCount := n } := by
  unfold closeRecord
  rw [h]
  dsimp only
  split
  · exact ⟨_, _, reopen_visitor i s⟩
  · split
    · refine ⟨(s.visitor i).spilled, (s.visitor i).spillCount, ?_⟩
      have hv : ∀ j : Nat, (joinQueue i (s.visitor i).tag why r s).visitor j = s.visitor j := by
        intro j; rw [joinQueue_frame]; rfl
      have ho : ∀ v : Visitor, openNow (joinQueue i (s.visitor i).tag why r s) v = openNow s v := by
        intro v; rw [joinQueue_frame]; rfl
      rw [reopen_visitor, hv, ho]
    · refine ⟨(s.visitor i).spilled + recordCharge r, saturateInc 65535 (s.visitor i).spillCount, ?_⟩
      have hv : (spillRecord i r s).visitor i = { s.visitor i with
          spilled := (s.visitor i).spilled + recordCharge r
          spillCount := saturateInc 65535 (s.visitor i).spillCount } :=
        setVisitor_visitor_of_open (r := r) h
      have ho : ∀ v : Visitor, openNow (spillRecord i r s) v = openNow s v := fun _ => rfl
      rw [reopen_visitor, hv, ho]
      rfl

theorem closeRecord_visitor_ne {i j : Nat} (why : CloseReason) (s : State) (h : j ≠ i) :
    (closeRecord i why s).1.visitor j = s.visitor j := by
  unfold closeRecord
  split
  · rfl
  · split
    · exact setVisitor_visitor_ne _ _ h
    · split
      · refine (setVisitor_visitor_ne _ _ h).trans ?_
        rw [joinQueue_frame]; rfl
      · exact (setVisitor_visitor_ne _ _ h).trans (setVisitor_visitor_ne _ _ h)

/-- A charge for which the record has room is written, or refused by the ceiling test (R49, R54). -/
theorem charge_of_room {i n : Nat} {d : Direction} {r : OpenRecord} {s : State}
    (h : (s.visitor i).openRecord = some r) (hv : volumeFull r n d = false) :
    charge i n d s = if Config.chargedMax < chargedAfter (s.visitor i) r n
      then (blockPacket i .exhausted s, false) else (writeCharge i n d (s.visitor i) r s, true) := by
  have h1 : volumeClose i n d s = s := by unfold volumeClose; rw [h]; simp [hv]
  unfold charge
  rw [h1]
  simp only [h]

/-! ## The resequencer -/

/-- The gap timer at the end of a step: stopped with nothing held, else kept or started (R150). -/
theorem checkGapTimer_eq (s : State) : checkGapTimer s = s.setDrs { s.drs with
    gapTimer := if s.drs.slots = [] then none else some (s.drs.gapTimer.getD s.drs.gapHold) } := by
  unfold checkGapTimer
  split
  · next h => simp [h]
  · next h h1 => simp [h, h1]
  · next h h1 => simp only [h, h1, reduceCtorEq, if_false, Option.getD_some]; rw [← h1, ← h]; rfl

/-- Packets delivered together raise DELIVERED by their number and move nothing else of the resequencer (R149,
R151, R152). -/
theorem deliverAll_drs : ∀ (out : List Held) (s : State),
    (deliverAll out s).drs = { s.drs with
      delivered := s.drs.delivered + BitVec.ofNat 32 out.length }
  | [], s => by simp [deliverAll]
  | h :: left, s => by
    rw [deliverAll, deliverAll_drs left, deliver_drs]
    simp [BitVec.add_assoc, BitVec.ofNat_add, BitVec.add_comm (BitVec.ofNat 32 left.length)]

/-- A run of consecutive sequences from NEXT_EXPECTED on is delivered, and the packets behind it stay held (R148). -/
theorem deliverRun_drs : ∀ (run left : List Held) (s : State), s.drs.slots = run ++ left →
    (∀ (k : Nat) (x : Held), run[k]? = some x → x.seq = s.drs.nextExpected + BitVec.ofNat 16 k) →
    (∀ x ∈ left.head?, x.seq ≠ s.drs.nextExpected + BitVec.ofNat 16 run.length) →
    (deliverRun (run ++ left) s).drs = { s.drs with
      slots := left
      nextExpected := s.drs.nextExpected + BitVec.ofNat 16 run.length
      delivered := s.drs.delivered + BitVec.ofNat 32 run.length }
  | [], left, s, hs, _, hl => by
    have h0 : s.drs = { s.drs with slots := left } := by rw [show left = s.drs.slots by simpa using hs.symm]
    cases left with
    | nil => simpa [deliverRun] using h0
    | cons x xs =>
      have hx : x.seq ≠ s.drs.nextExpected := by simpa using hl x rfl
      simpa [deliverRun, hx] using h0
  | x :: run, left, s, hs, hr, hl => by
    have hx : x.seq = s.drs.nextExpected := by simpa using hr 0 x rfl
    have e : (deliverNext x (run ++ left) s).drs = { s.drs with
        slots := run ++ left, nextExpected := s.drs.nextExpected + 1,
        delivered := s.drs.delivered + 1 } := by
      rw [deliverNext, deliver_drs]; rfl
    rw [List.cons_append, deliverRun, if_pos hx,
      deliverRun_drs run left _ (by rw [e])
        (fun k y hy => by
          have := hr (k + 1) y hy
          rw [this, e]
          simp [BitVec.add_assoc, BitVec.ofNat_add, BitVec.add_comm (BitVec.ofNat 16 k)])
        (fun y hy => by
          have := hl y hy
          rw [e]
          simpa [BitVec.add_assoc, BitVec.ofNat_add, BitVec.add_comm (BitVec.ofNat 16 run.length)]
            using this), e]
    simp [BitVec.add_assoc, BitVec.ofNat_add, BitVec.add_comm (BitVec.ofNat 16 run.length),
      BitVec.add_comm (BitVec.ofNat 32 run.length)]

/-- A delivery touches the blocks of the packet path and the resequencer alone (R14). -/
theorem deliver_frame (h : Held) (s : State) : ∃ t : State, deliver h s = t ∧ t = { s with
    shi := t.shi, shore := t.shore, freeBuffers := t.freeBuffers, vtb := t.vtb, rcq := t.rcq,
    rse := t.rse, drs := t.drs, cvu := t.cvu, ntu := t.ntu } := by
  refine ⟨_, rfl, ?_⟩
  have h1 := deliver_uplinkSeq h s
  have h2 := deliver_rtu h s
  have h3 := deliver_znu h s
  have h4 := deliver_psv h s
  have h5 := deliver_psl h s
  have h6 := deliver_cfu h s
  have h7 := deliver_clocks h s
  have h8 := deliver_pending h s
  generalize deliver h s = t at *
  cases t
  simp_all

theorem deliverAll_frame : ∀ (out : List Held) (s : State), ∃ t : State, deliverAll out s = t ∧
    t = { s with
      shi := t.shi, shore := t.shore, freeBuffers := t.freeBuffers, vtb := t.vtb, rcq := t.rcq,
      rse := t.rse, drs := t.drs, cvu := t.cvu, ntu := t.ntu }
  | [], s => ⟨s, rfl, rfl⟩
  | h :: left, s => by
    obtain ⟨t, ht, hf⟩ := deliver_frame h s
    obtain ⟨u, hu, hg⟩ := deliverAll_frame left t
    exact ⟨u, by rw [deliverAll, ht, hu], by rw [hg, hf]⟩

theorem deliverRun_frame : ∀ (run : List Held) (s : State), ∃ t : State, deliverRun run s = t ∧
    t = { s with
      shi := t.shi, shore := t.shore, freeBuffers := t.freeBuffers, vtb := t.vtb, rcq := t.rcq,
      rse := t.rse, drs := t.drs, cvu := t.cvu, ntu := t.ntu }
  | [], s => ⟨s, rfl, rfl⟩
  | h :: left, s => by
    by_cases hx : h.seq = s.drs.nextExpected
    · obtain ⟨t, ht, hf⟩ := deliver_frame h
        (s.setDrs { s.drs with slots := left, nextExpected := s.drs.nextExpected + 1 })
      obtain ⟨u, hu, hg⟩ := deliverRun_frame left t
      exact ⟨u, by rw [deliverRun, if_pos hx, deliverNext, ht, hu], by rw [hg, hf]; rfl⟩
    · exact ⟨s, by rw [deliverRun, if_neg hx], rfl⟩

theorem slotInsert_mem {d : Drs} {h x : Held} : ∀ {l : List Held},
    x ∈ slotInsert d h l ↔ x = h ∨ x ∈ l
  | [] => by simp [slotInsert]
  | y :: ys => by
    unfold slotInsert
    split
    · simp
    · simp [slotInsert_mem (l := ys), or_left_comm]

/-! ## The transmitters -/

theorem arbiter_ready {n : Ntu} {x : Source} (h : arbiter n = some x) : noticeReady n x = true ∧
    ∀ y : Source, sourcePriority y < sourcePriority x → noticeReady n y = false := by
  unfold arbiter at h
  refine ⟨by simpa using List.find?_some h, fun y hy => ?_⟩
  cases x <;> cases y <;> simp_all [sourcesAll, sourcePriority]

theorem arbiter_eq_none {n : Ntu} : arbiter n = none ↔ ∀ x : Source, noticeReady n x = false := by
  unfold arbiter
  rw [List.find?_eq_none]
  constructor
  · intro h x
    simpa using h x (by cases x <;> decide)
  · intro h x _
    simp [h x]

theorem sourcePriority_inj {x y : Source} (h : sourcePriority x = sourcePriority y) : x = y := by
  cases x <;> cases y <;> first | rfl | exact absurd h (by decide)

/-- The arbiter's choice is the ready source of highest priority (R177). -/
theorem arbiter_eq_some {n : Ntu} {x : Source} : arbiter n = some x ↔
    noticeReady n x = true ∧ ∀ y : Source, sourcePriority y < sourcePriority x →
      noticeReady n y = false := by
  refine ⟨arbiter_ready, fun ⟨h1, h2⟩ => ?_⟩
  cases hz : arbiter n with
  | none => simp [arbiter_eq_none.1 hz x] at h1
  | some z =>
    obtain ⟨h3, h4⟩ := arbiter_ready hz
    rcases Nat.lt_trichotomy (sourcePriority z) (sourcePriority x) with h | h | h
    · simp [h2 z h] at h3
    · rw [sourcePriority_inj h]
    · simp [h4 x h] at h1

/-- A frame enters a free shore transmitter (R12, R123, R184). -/
theorem shoreSend_eq (p : Path) (body : List Byte) (s : State) : shoreSend p body s =
    (s.setPort p { s.port p with
      transmitter := some { dst := destination (s.port p).partner, body := body } }).setPath p
      (idleRestarted (s.path p)) := by
  unfold shoreSend idleRestarted
  dsimp only
  split
  · next h => rw [if_pos (show (s.path p).state = .up from h)]; rfl
  · next h => rw [if_neg (show ¬(s.path p).state = .up from h)]; cases p <;> rfl

end Sys2Proof.Machine
end

