-- ==== Sys2Proof/WellFormed.lean ====
section
/-! DEFINITION. Which commands are well formed. Paths, ports and probe ids are typed, so the one check
left is the number of a cell head. -/

namespace Sys2Proof

/-- A command is well formed when the cell head it names exists: cell heads are numbered 0..15 (R155). -/
def Instr.wellFormed : Instr → Bool
  | .heartbeatTimerExpiry c => decide (c < 16)
  | _ => true

end Sys2Proof
end

