-- ==== Sys2Proof/Laws/PerInstr.lean ====
section
/-! SUPPORT. The family WellFormedness: a command is well formed exactly when the cell head it names, if it
names one by number, exists (R155). -/

namespace Sys2Proof.Laws.WellFormedness

/-- The command is well formed exactly when every cell head number it names is below 16. -/
def Statement (i : Instr) : Prop :=
  i.wellFormed = true ↔ ∀ c : Nat, i = .heartbeatTimerExpiry c → c < 16

theorem powerOnReset : Statement .powerOnReset := by
  simp [Statement, Instr.wellFormed]

theorem shipFrameArrival (f : EthFrame) : Statement (.shipFrameArrival f) := by
  simp [Statement, Instr.wellFormed]

theorem shoreFrameArrival (p : Path) (f : EthFrame) : Statement (.shoreFrameArrival p f) := by
  simp [Statement, Instr.wellFormed]

theorem shoreTransmitTake (p : Path) : Statement (.shoreTransmitTake p) := by
  simp [Statement, Instr.wellFormed]

theorem shoreTransmissionEnd (p : Path) : Statement (.shoreTransmissionEnd p) := by
  simp [Statement, Instr.wellFormed]

theorem shipTransmitTake : Statement .shipTransmitTake := by
  simp [Statement, Instr.wellFormed]

theorem shipTransmissionEnd : Statement .shipTransmissionEnd := by
  simp [Statement, Instr.wellFormed]

theorem shipLinkLoss : Statement .shipLinkLoss := by
  simp [Statement, Instr.wellFormed]

theorem shipLinkReturn : Statement .shipLinkReturn := by
  simp [Statement, Instr.wellFormed]

theorem carrierArrival (p : Path) : Statement (.carrierArrival p) := by
  simp [Statement, Instr.wellFormed]

theorem carrierLoss (p : Path) : Statement (.carrierLoss p) := by
  simp [Statement, Instr.wellFormed]

theorem settleTimerExpiry (p : Path) : Statement (.settleTimerExpiry p) := by
  simp [Statement, Instr.wellFormed]

theorem openTimerExpiry (p : Path) : Statement (.openTimerExpiry p) := by
  simp [Statement, Instr.wellFormed]

theorem surveyProbeDue (p : Path) : Statement (.surveyProbeDue p) := by
  simp [Statement, Instr.wellFormed]

theorem probeTimerExpiry (p : Path) : Statement (.probeTimerExpiry p) := by
  simp [Statement, Instr.wellFormed]

theorem probeDeadlineExpiry (p : Path) (id : BitVec 8) : Statement (.probeDeadlineExpiry p id) := by
  simp [Statement, Instr.wellFormed]

theorem idleTimerExpiry (p : Path) : Statement (.idleTimerExpiry p) := by
  simp [Statement, Instr.wellFormed]

theorem recoveryGapEnd (p : Path) : Statement (.recoveryGapEnd p) := by
  simp [Statement, Instr.wellFormed]

theorem drainWindowExpiry (p : Path) : Statement (.drainWindowExpiry p) := by
  simp [Statement, Instr.wellFormed]

theorem holdDownExpiry : Statement .holdDownExpiry := by
  simp [Statement, Instr.wellFormed]

theorem periodTimerExpiry : Statement .periodTimerExpiry := by
  simp [Statement, Instr.wellFormed]

theorem gapTimerExpiry : Statement .gapTimerExpiry := by
  simp [Statement, Instr.wellFormed]

theorem heartbeatTimerExpiry (c : Nat) : Statement (.heartbeatTimerExpiry c) := by
  simp [Statement, Instr.wellFormed]

theorem grantBoundary : Statement .grantBoundary := by
  simp [Statement, Instr.wellFormed]

theorem positionTimerExpiry : Statement .positionTimerExpiry := by
  simp [Statement, Instr.wellFormed]

theorem intervalExpiry : Statement .intervalExpiry := by
  simp [Statement, Instr.wellFormed]

theorem sweepVisit : Statement .sweepVisit := by
  simp [Statement, Instr.wellFormed]

theorem voyageClockRise : Statement .voyageClockRise := by
  simp [Statement, Instr.wellFormed]

theorem unknownRequest (port : Port) : Statement (.unknownRequest port) := by
  simp [Statement, Instr.wellFormed]

theorem visitorAdd (port : Port) : Statement (.visitorAdd port) := by
  simp [Statement, Instr.wellFormed]

theorem visitorRemove (port : Port) : Statement (.visitorRemove port) := by
  simp [Statement, Instr.wellFormed]

theorem visitorRead (port : Port) : Statement (.visitorRead port) := by
  simp [Statement, Instr.wellFormed]

theorem visitorCredit (port : Port) : Statement (.visitorCredit port) := by
  simp [Statement, Instr.wellFormed]

theorem visitorAllow (port : Port) : Statement (.visitorAllow port) := by
  simp [Statement, Instr.wellFormed]

theorem visitorSettle (port : Port) : Statement (.visitorSettle port) := by
  simp [Statement, Instr.wellFormed]

theorem tariffLoad (port : Port) : Statement (.tariffLoad port) := by
  simp [Statement, Instr.wellFormed]

theorem tariffSwitch (port : Port) : Statement (.tariffSwitch port) := by
  simp [Statement, Instr.wellFormed]

theorem planLoad (port : Port) : Statement (.planLoad port) := by
  simp [Statement, Instr.wellFormed]

theorem partnerLoad (port : Port) : Statement (.partnerLoad port) := by
  simp [Statement, Instr.wellFormed]

theorem recordDrain (port : Port) : Statement (.recordDrain port) := by
  simp [Statement, Instr.wellFormed]

theorem recordRelease (port : Port) : Statement (.recordRelease port) := by
  simp [Statement, Instr.wellFormed]

theorem voyageStart (port : Port) : Statement (.voyageStart port) := by
  simp [Statement, Instr.wellFormed]

theorem recordInterval (port : Port) : Statement (.recordInterval port) := by
  simp [Statement, Instr.wellFormed]

theorem recordFlush (port : Port) : Statement (.recordFlush port) := by
  simp [Statement, Instr.wellFormed]

theorem zoneLoad (port : Port) : Statement (.zoneLoad port) := by
  simp [Statement, Instr.wellFormed]

theorem zoneDefaults (port : Port) : Statement (.zoneDefaults port) := by
  simp [Statement, Instr.wellFormed]

theorem position (port : Port) : Statement (.position port) := by
  simp [Statement, Instr.wellFormed]

theorem zoneForce (port : Port) : Statement (.zoneForce port) := by
  simp [Statement, Instr.wellFormed]

theorem pathConfig (port : Port) : Statement (.pathConfig port) := by
  simp [Statement, Instr.wellFormed]

theorem pathEnable (port : Port) : Statement (.pathEnable port) := by
  simp [Statement, Instr.wellFormed]

theorem pathDisable (port : Port) : Statement (.pathDisable port) := by
  simp [Statement, Instr.wellFormed]

theorem pathSurvey (port : Port) : Statement (.pathSurvey port) := by
  simp [Statement, Instr.wellFormed]

theorem pathTest (port : Port) : Statement (.pathTest port) := by
  simp [Statement, Instr.wellFormed]

theorem selectConfig (port : Port) : Statement (.selectConfig port) := by
  simp [Statement, Instr.wellFormed]

theorem pathPin (port : Port) : Statement (.pathPin port) := by
  simp [Statement, Instr.wellFormed]

theorem reseqConfig (port : Port) : Statement (.reseqConfig port) := by
  simp [Statement, Instr.wellFormed]

theorem cellConfig (port : Port) : Statement (.cellConfig port) := by
  simp [Statement, Instr.wellFormed]

theorem grantConfig (port : Port) : Statement (.grantConfig port) := by
  simp [Statement, Instr.wellFormed]

theorem clockSet (port : Port) : Statement (.clockSet port) := by
  simp [Statement, Instr.wellFormed]

theorem statusRead (port : Port) : Statement (.statusRead port) := by
  simp [Statement, Instr.wellFormed]

theorem noticeArm (port : Port) : Statement (.noticeArm port) := by
  simp [Statement, Instr.wellFormed]

theorem noticeClear (port : Port) : Statement (.noticeClear port) := by
  simp [Statement, Instr.wellFormed]

theorem creditListRead (port : Port) : Statement (.creditListRead port) := by
  simp [Statement, Instr.wellFormed]

theorem partRestart (port : Port) : Statement (.partRestart port) := by
  simp [Statement, Instr.wellFormed]

theorem restartEntryStep : Statement .restartEntryStep := by
  simp [Statement, Instr.wellFormed]

theorem restartIntervalTimer : Statement .restartIntervalTimer := by
  simp [Statement, Instr.wellFormed]

end Sys2Proof.Laws.WellFormedness
end

