-- ==== Sys2Proof/Tests/Slice0.lean ====
section
/-! SUPPORT. Tests: the well-formedness check, the manual's worked figures, one step of each family on a small
state, and for each statement with hypotheses a state and operands that meet them all. -/

namespace Sys2Proof.Tests

open Sys2Proof Sys2Proof.Machine

/-! ## Helpers -/

/-- A request with tag 7. -/
def ask (x : String) (items : List (String × Int)) : Request :=
  { name := nm x, tag := 7, items := items.map (fun i => item i.1 i.2) }

/-- A state with one request in the ship queue. -/
def asked (r : Request) (s : State) : State := s.setShi { s.shi with requests := [r] }

/-- A state with one request in the queue of SP0. -/
def askedShore (r : Request) (s : State) : State :=
  s.setPort .sp0 { s.port .sp0 with requests := [r] }

theorem shipHead_asked (x : String) (items : List (String × Int)) (s : State)
    (h : hasRepeat ((ask x items).items.map (fun i => i.name)) = false) (hr : s.shi.reply = none)
    (hc : s.cfu.restart = none) : ShipHead x (ask x items) (asked (ask x items) s) :=
  ⟨rfl, rfl, h, by simp [portFree, replySlot, asked, State.setShi, hr, hc]⟩

/-- A frame of the part's own type. -/
def frame (body : List Byte) : EthFrame :=
  { checkOk := true, dst := 1, src := 2, etherType := 0x88B6, body := body }

/-- A USER frame of 20 bytes from cell head 0 with bearer tag 5. -/
def userBody : List Byte :=
  [0x01, 0, 0, 0, 0, 0, 0, 5, 0, 20] ++ List.replicate 20 0

/-- What a property says of the next state. -/
def after (o : Host.Outcome State Fault Refusal) (f : State → Bool) : Bool :=
  match o with
  | .next t => f t
  | .fault _ => false
  | .refused _ => false

/-! ## Well-formedness -/

theorem test_wellFormed_last_cell : (Instr.heartbeatTimerExpiry 15).wellFormed = true := by decide

theorem test_wellFormed_refuses_cell_16 : (Instr.heartbeatTimerExpiry 16).wellFormed = false := by decide

theorem test_no_word_spells_a_command : decodeTableWord 0 0 = none := rfl

/-! ## A small state that obeys every law -/

/-- A record with two packets charged, opened under the conditions of the sample. -/
def sampleOpen : OpenRecord :=
  { zone := some .default, region := 0, path := some .sp0, priceEff := 4096, fee := 3, bank := .b0,
    roaming := .permitted, bytesUp := 40, bytesDown := 40, freeBytes := 0, pktsUp := 1, pktsDown := 1,
    feeCharged := 3, charge := 2, openTime := 0 }

/-- Visitor 0: ATTACHED with tag 5 and five CU in its open record and four in the queue. -/
def sampleVisitor : Visitor :=
  { Visitor.freeEntry with
    lifecycle := .attached, tag := 5, servingCell := some 0, charged := 9, zonesCharged := 2 ^ 32,
    openRecord := some sampleOpen }

/-- A queued record of visitor 0. -/
def sampleRecord : Record :=
  { seq := 0, index := 0, tag := 5, reason := .flush, closeTime := 0,
    contents := { sampleOpen with feeCharged := 0, charge := 4 } }

def samplePacket : UplinkEntry := { packet := List.replicate 20 0, tag := 5, length := 20, cell := 0 }

def sampleHeld (q : BitVec 16) : Held :=
  { seq := q, packet := List.replicate 20 0, tag := 5, length := 20, port := .sp0 }

def sampleUp (srtt : Nat) : Psv :=
  { Psv.powerOn with state := .up, srtt := srtt, probeTimer := some 100, idleTimer := some 50 }

def sampleCell : CellHead :=
  { CellHead.powerOn with
    enable := true, base := 20, state := .serving, hbTimer := some 100, target := 20,
    pendingLevel := 20, activeLevel := 20 }

/-- Two paths UP, SP0 active with one packet queued, one visitor, one record queued and released no further
than it was sent, one packet held behind a hole, one cell head SERVING, in the zone DEFAULT. -/
def sample : State :=
  { State.reset with
    freeBuffers := 3070
    shore := {
      sp0 := { ShorePort.powerOn with carrier := true, txQueue := [samplePacket] }
      sp1 := { ShorePort.powerOn with carrier := true }
      sp2 := ShorePort.powerOn
      sp3 := ShorePort.powerOn }
    psv := { sp0 := sampleUp 123, sp1 := sampleUp 240, sp2 := Psv.powerOn, sp3 := Psv.powerOn }
    psl := { Psl.powerOn with active := some .sp0 }
    vtb := { Vtb.powerOn with entries := [(0, sampleVisitor)] }
    rtu := { Rtu.powerOn with
      bank0 := tariffBankZero.set 0 (Vector.replicate 8 { price := 4096, fee := 3 }) }
    rcq := { Rcq.powerOn with records := [sampleRecord], nextSeq := 1, cursorSeq := 1, limitSeq := 1 }
    znu := { Znu.powerOn with
      current := some .default, defaultTerms := { Terms.powerOn with cap := 40 },
      positionState := .fresh, positionTimer := some 1000 }
    drs := { Drs.powerOn with
      locked := true, nextExpected := 10, slots := [sampleHeld 12], gapTimer := some 20 }
    cvu := { Cvu.powerOn with cells := Cvu.powerOn.cells.set 0 sampleCell } }

/-- The sample with a request in the ship queue. -/
def want (x : String) (items : List (String × Int)) : State := asked (ask x items) sample

theorem shipHead_want (x : String) (items : List (String × Int))
    (h : hasRepeat ((ask x items).items.map (fun i => i.name)) = false) :
    ShipHead x (ask x items) (want x items) := shipHead_asked x items sample h rfl rfl

theorem sample_visitor (i : Nat) : sample.visitor i = if i = 0 then sampleVisitor else Visitor.freeEntry := by
  rfl

/-! ## The manual's worked figures -/

/-- Path Selection and Swap, "A worked comparison": SP0 costs 52, SP1 74 and SP3 710. -/
theorem test_worked_costs :
    let s : State := { State.reset with
      psv := {
        sp0 := { Psv.powerOn with srtt := 123, lossWindow := true :: List.replicate 31 false }
        sp1 := { Psv.powerOn with srtt := 240 }
        sp2 := Psv.powerOn
        sp3 := { Psv.powerOn with srtt := 6100 } }
      znu := { Znu.powerOn with
        current := some .default
        defaultTerms := { Terms.powerOn with
          rank := { first := .sp0, second := .sp1, third := .sp3, fourth := .sp2 } } } }
    costOf s .sp0 = 52 ∧ costOf s .sp1 = 74 ∧ costOf s .sp3 = 710 := by decide

/-- Visitor Records, "one visitor from creation to reuse", event 4: 1000 bytes at price 4096 charge 3 CU and
leave a carry of 950272. -/
theorem test_worked_charge :
    (visitorCharged Visitor.freeEntry { sampleOpen with fee := 0 } 1000 .up).charged = 3 ∧
      (visitorCharged Visitor.freeEntry { sampleOpen with fee := 0 } 1000 .up).carry = 950272 := by decide

/-- Rating and Credit, "Worked price computations": the surcharged satellite price and the saturated one. -/
theorem test_worked_prices :
    priceOf 5120 384 .surcharged 320 = 9600 ∧ priceOf 65535 1023 .surcharged 1023 = 65535 := by decide

/-- Rating and Credit, "a surcharged visitor reaching its limit", packet 1. -/
theorem test_worked_allowance :
    let v := { Visitor.freeEntry with allowance := 600, carry := 700000, charged := 9990 }
    let u := visitorCharged v { sampleOpen with priceEff := 9600, zone := none } 1400 .up
    u.charged = 9997 ∧ u.carry = 1039968 ∧ u.allowance = 0 := by decide

/-- Frame and Record Formats, "a one-record drain": the record of 64 bytes. -/
theorem test_worked_record :
    let r : Record :=
      { seq := 8022, index := 40, tag := 0x00A31C05, reason := .flush, closeTime := 1300,
        contents := { sampleOpen with
          zone := some (.entry 6), region := 2, priceEff := 3072, fee := 25, bytesUp := 4000,
          bytesDown := 6000, freeBytes := 500, pktsUp := 3, pktsDown := 5, feeCharged := 2,
          charge := 13, openTime := 1000 } }
    (recordBytes r).take 20 =
      [0, 0, 0x1F, 0x56, 0, 0xA3, 0x1C, 5, 0, 40, 4, 6, 2, 0, 0, 0, 0x0C, 0, 0, 25] := by decide

/-- Cell Heads and Coverage, "a cell head lost and returned": a boosted target is min(30, 18 + 12). -/
theorem test_worked_boost :
    let u : Cvu := { Cvu.powerOn with
      cells := (Cvu.powerOn.cells.set 5 { sampleCell with base := 18, boost := 12 }).set 4
        { sampleCell with state := .lost, backup := some 5 } }
    targetOf 30 u 5 = 30 ∧ targetOf 30 u 4 = 0 := by decide

/-- Downlink Resequencing, "a swap with holes", at 25: the jump for 1270 with NEXT_EXPECTED 1011 and 1013 held
leaves NEXT_EXPECTED 1015, 1270 held and three sequences skipped. -/
theorem test_worked_jump :
    let s : State := { State.reset with
      freeBuffers := 3070,
      drs := { Drs.powerOn with locked := true, nextExpected := 1011, slots := [sampleHeld 1013] } }
    let t := resequence (sampleHeld 1270) s
    t.drs.nextExpected = 1015 ∧ t.drs.slots = [sampleHeld 1270] ∧ t.drs.skipped = 3 := by decide

/-! ## One step of each family -/

theorem test_reset_pool : State.reset.freeBuffers = 3072 := rfl

theorem test_unknown_frame_type_is_foreign :
    after (exec (.shipFrameArrival { frame userBody with etherType := 0x0800 }) sample)
      (fun t => decide (t.shi.counters.dropForeign = 1 ∧ t.shi.counters.rxUser = 0)) = true := by decide

theorem test_user_frame_of_19_bytes_dropped :
    after (exec (.shipFrameArrival (frame ([0x01, 0, 0, 0, 0, 0, 0, 5, 0, 19] ++ List.replicate 20 0)))
      sample) (fun t => decide (t.shi.counters.dropLength = 1)) = true := by decide

theorem test_uplink_take_charges_and_stamps :
    after (exec (.shoreTransmitTake .sp0) sample)
      (fun t => decide (t.uplinkSeq = 1 ∧ t.freeBuffers = 3071 ∧ (t.visitor 0).charged = 9)) = true := by
  decide

theorem test_wrong_name_is_not_taken :
    after (exec (.recordFlush .ship) (want "CLOCK_SET" [("SECONDS", 5)]))
      (fun t => decide (t.shi.requests.length = 1)) = true := by decide

theorem test_clock_set_clamps_negative :
    after (exec (.clockSet .ship) (want "CLOCK_SET" [("SECONDS", -5)]))
      (fun t => decide (t.cfu.clock = 0 ∧ (t.shi.reply.map (fun x => x.adjusted)) = some true)) = true := by
  decide

theorem test_repeated_item_is_malformed :
    after (exec (.clockSet .ship) (want "CLOCK_SET" [("SECONDS", 5), ("SECONDS", 6)]))
      (fun t => decide (t.cfu.clock = 0 ∧ t.cfu.faults = 1 ∧ t.cfu.faultRecord.reason = .repeatedItem)) =
      true := by decide

theorem test_missing_item_is_malformed :
    after (exec (.zoneForce .ship) (want "ZONE_FORCE" []))
      (fun t => decide (t.cfu.faultRecord.reason = .missingItem)) = true := by decide

theorem test_zone_force_unknown_zone_refused :
    after (exec (.zoneForce .ship) (want "ZONE_FORCE" [("ZONE", 33)]))
      (fun t => decide ((t.shi.reply.map (fun x => x.status)) = some .refusedIndex)) = true := by decide

/-- Shore Path Supervision, R111: the disable sets PATH_LOST not pending. -/
theorem test_path_disable_clears_path_lost :
    let r := ask "PATH_DISABLE" [("PATH", 1)]
    after (exec (.pathDisable .ship) (asked r (sample.setNtu { sample.ntu with
        pathLost := { pending := true, armed := true, raised := 3 } })))
      (fun t => decide (t.ntu.pathLost = { pending := false, armed := true, raised := 3 } ∧
        (t.path .sp1).state = .disabled)) = true := by decide

theorem test_tenth_idle_step_ticks :
    after (step { sample with clocks := { stamp := 0, tenth := 9 } })
      (fun t => decide (t.cfu.clockTicks = 1 ∧ t.drs.gapTimer = some 19)) = true := by decide

/-- The 1000th tick raises the voyage clock, and the expiry of the gap timer at that tick delivers the packet held. -/
theorem test_tick_makes_due_expiries :
    after (step { sample with
        clocks := { stamp := 0, tenth := 9 }, cfu := { sample.cfu with clockTicks := 999 }
        drs := { sample.drs with gapTimer := some 1 } })
      (fun t => decide (t.cfu.clock = 1 ∧ t.cfu.clockTicks = 0 ∧ t.drs.gapExpiries = 1 ∧
        t.drs.slots = [])) = true := by decide

/-! ## Witnesses: the laws -/

theorem witness_step_commands_waiting :
    (sample.setPending [.holdDownExpiry]).pending = [.holdDownExpiry] := rfl

theorem witness_step_idle_before_tick : sample.pending = [] ∧ sample.clocks.tenth < 9 := by decide

theorem witness_step_idle_at_tick :
    ({ sample with clocks := { stamp := 0, tenth := 9 } } : State).pending = [] ∧ 9 ≤ 9 := by decide

/-- An expiry that is due and one that is not, with a survey in flight and none. -/
theorem witness_tick :
    let s := sample.setDrs { sample.drs with gapTimer := some 0 }
    let u := sample.setPath .sp1 { sample.path .sp1 with
      survey := .inFlight { entries := List.replicate 8 (.inFlight 3 0 0), dueCount := 8, spacing := none } }
    let c := sample.setCfu { sample.cfu with clockTicks := 1000 }
    .gapTimerExpiry ∈ dueCommands s ∧ .gapTimerExpiry ∉ dueCommands sample ∧
      .probeDeadlineExpiry .sp1 3 ∈ dueCommands u ∧ .voyageClockRise ∈ dueCommands c ∧
      .voyageClockRise ∉ dueCommands sample ∧ (sample.path .sp1).survey = .idle := by decide

theorem sample_bufferLaw : BufferLaw sample :=
  ⟨by decide, fun p h => by cases p <;> first | rfl | exact absurd rfl h,
    fun p => by cases p <;> decide, by decide⟩

theorem sample_activeLaw : ActiveLaw sample :=
  ⟨fun p h => by cases h; exact ⟨rfl, by decide⟩,
    fun p h => by cases p <;> first | rfl | exact absurd rfl h,
    fun p => by cases p <;> exact ⟨fun h => absurd rfl h, fun h => absurd rfl h⟩⟩

theorem sample_coverageLaw : CoverageLaw sample := by
  unfold CoverageLaw LevelLaw
  decide

theorem sample_recordQueueLaw : RecordQueueLaw sample := by
  refine ⟨by decide, fun k r h => ?_, fun r h => ?_, by decide, by decide⟩
  · match k with
    | 0 => cases h; decide
    | k + 1 => cases h
  · cases List.mem_singleton.mp h; decide

theorem sample_chargeLaw : ChargeLaw sample := by
  refine ⟨⟨by decide, by decide⟩, fun i => ?_⟩
  rw [sample_visitor]
  by_cases h : i = 0
  · subst h
    exact ⟨⟨by decide, by decide, by decide⟩, fun r h => by cases h; decide, by decide⟩
  · have hq : sample.rcq.records.filter (fun r => r.index == i) = [] := by
      simp [sample, sampleRecord]; omega
    refine ⟨⟨fun _ => if_neg h, ?_, fun _ => by simp [queuedFor, hq]⟩, ?_, ?_⟩
    · rw [if_neg h]; rfl
    · rw [if_neg h]; intro r hr; cases hr
    · rw [if_neg h]; simp [queuedCharge, hq, openCharge, Visitor.freeEntry]

theorem sample_recordsLaw : RecordsLaw sample := by
  refine ⟨⟨by decide, by decide⟩, fun i h => ?_, fun i h _ => ?_⟩ <;> rw [sample_visitor] at h ⊢ <;>
    by_cases hi : i = 0
  · subst hi; rfl
  · rw [if_neg hi] at h; cases h
  · subst hi; exact ⟨⟨sampleOpen, rfl, rfl, rfl, by decide⟩, fun _ => by decide⟩
  · rw [if_neg hi] at h; cases h

theorem sample_resequencerLaw : ResequencerLaw sample := by unfold ResequencerLaw; decide

theorem sample_engineLaw : EngineLaw sample := by unfold EngineLaw; decide

theorem sample_tagLaw : TagLaw sample := by
  refine ⟨fun i h => ?_, fun i j hi hj _ => ?_⟩
  · rw [sample_visitor] at h ⊢
    by_cases h0 : i = 0
    · subst h0; decide
    · rw [if_neg h0] at h; exact absurd rfl h
  · have zero : ∀ k : Nat, (sample.visitor k).lifecycle ≠ .free → k = 0 := by
      intro k h
      rw [sample_visitor] at h
      by_cases h0 : k = 0
      · exact h0
      · rw [if_neg h0] at h; exact absurd rfl h
    rw [zero i hi, zero j hj]

theorem witness_tagMap : lookupTag sample 5 = some 0 ∧ lookupTag sample 0 = none := by decide

/-- A charge rises at a taking, and an allowance at VISITOR_ALLOW. -/
theorem witness_chargeRises :
    after (exec (.shoreTransmitTake .sp0) (sample.setVisitor 0 { sampleVisitor with carry := 2 ^ 20 - 1 }))
        (fun t => decide (sampleVisitor.charged < (t.visitor 0).charged)) = true ∧
      after (exec (.visitorAllow .ship) (want "VISITOR_ALLOW" [("INDEX", 0), ("ALLOWANCE", 1)]))
        (fun t => decide (sampleVisitor.allowance < (t.visitor 0).allowance)) = true := by decide

/-- The sample obeys every law, and a step from it answers a next state: what each StepKeeps statement asks. -/
theorem witness_stepKeeps :
    BufferLaw sample ∧ ActiveLaw sample ∧ CoverageLaw sample ∧ RecordQueueLaw sample ∧
      ChargeLaw sample ∧ RecordsLaw sample ∧ ResequencerLaw sample ∧ EngineLaw sample ∧
      TagLaw sample ∧ ∃ t : State, step sample = .next t :=
  ⟨sample_bufferLaw, sample_activeLaw, sample_coverageLaw, sample_recordQueueLaw, sample_chargeLaw,
    sample_recordsLaw, sample_resequencerLaw, sample_engineLaw, sample_tagLaw, _, rfl⟩

/-! ## Witnesses: formats and packets -/

theorem witness_framesReadBack_request :
    ((ask "POSITION" [("LAT", -2 ^ 63), ("LON", 2 ^ 63 - 1)]).items.length < 65536) ∧
      ∀ i ∈ (ask "POSITION" [("LAT", -2 ^ 63), ("LON", 2 ^ 63 - 1)]).items,
        -2 ^ 63 ≤ i.value ∧ i.value < 2 ^ 63 := by decide

theorem witness_framesReadBack_data :
    samplePacket.packet.length = samplePacket.length ∧ samplePacket.length < 65536 := by decide

theorem witness_usageRecordLayout :
    sampleRecord.index < 65536 ∧ sampleRecord.contents.bytesUp < 2 ^ 32 ∧
      sampleRecord.contents.bytesDown < 2 ^ 32 ∧ sampleRecord.contents.freeBytes < 2 ^ 32 ∧
      sampleRecord.contents.pktsUp < 2 ^ 32 ∧ sampleRecord.contents.pktsDown < 2 ^ 32 ∧
      sampleRecord.contents.priceEff < 65536 ∧ sampleRecord.contents.fee < 65536 ∧
      sampleRecord.contents.feeCharged < 2 ^ 48 ∧ sampleRecord.contents.charge < 2 ^ 48 := by decide

theorem sample_userPasses : UserPasses (frame userBody) sample := by
  unfold UserPasses OwnFrame; decide

/-- One frame for each kind of discard at the ship port: a cell head of 16, a level of 64, a header one byte short and
an item one byte short. -/
theorem witness_shipFrame_discards :
    OwnFrame 0x03 (frame [0x03]) ∧ OwnFrame 0x01 (frame (userBody.take 9)) ∧
      (frame (userBody.take 9)).body.length < 10 ∧ OwnFrame 0x01 (frame (userBody.set 1 16)) ∧
      16 ≤ byteAt (userBody.set 1 16) 1 ∧ OwnFrame 0x02 (frame ([0x02, 0, 64] ++ List.replicate 7 0)) ∧
      64 ≤ byteAt ([0x02, 0, 64] ++ List.replicate 7 0) 2 ∧
      OwnFrame 0x20 (frame (0x20 :: List.replicate 22 0)) ∧
      (frame ([0x20, 0, 0, 0, 0, 0, 0, 1] ++ List.replicate 39 0)).body.length <
        24 + 24 * field ([0x20, 0, 0, 0, 0, 0, 0, 1] ++ List.replicate 39 0) 6 2 := by
  unfold OwnFrame; decide

/-- A USER frame of bad length, of a cell head that is off, and of one that is enabled and not SERVING. -/
theorem witness_userFrame_discards :
    let s := sample.setCell 1 { CellHead.powerOn with enable := true }
    lengthOk (field (userBody.set 9 19) 8 2) ((userBody.set 9 19).length - 10) = false ∧
      lengthOk (field userBody 8 2) (userBody.length - 10) = true ∧
      (sample.cell (cellField (userBody.set 1 15))).enable = false ∧
      (s.cell (cellField (userBody.set 1 1))).enable = true ∧
      (s.cell (cellField (userBody.set 1 1))).state ≠ .serving := by decide

/-- A REQUEST of no items, with the ship queue one short of full and full. -/
theorem witness_shipRequest :
    let f := frame (0x20 :: List.replicate 23 0)
    let s := sample.setShi { sample.shi with requests := List.replicate 15 (ask "CLOCK_SET" []) }
    let t := sample.setShi { sample.shi with requests := List.replicate 16 (ask "CLOCK_SET" []) }
    OwnFrame 0x20 f ∧ 24 + 24 * field f.body 6 2 ≤ f.body.length ∧ s.shi.requests.length < 16 ∧
      16 ≤ t.shi.requests.length := by
  unfold OwnFrame; decide

theorem witness_userFrame :
    let f := frame userBody
    let s := sample.setFreeBuffers 0
    UserPasses f sample ∧ UserPasses (frame (userBody.set 7 6)) sample ∧
      lookupTag sample (userPacket (userBody.set 7 6)).tag = none ∧
      lookupTag sample (userPacket f.body).tag = some 0 ∧ (sample.visitor 0).lifecycle = .attached ∧
      admission true sample (sample.visitor 0) = none ∧ 0 < sample.freeBuffers ∧
      sample.psl.active = some .sp0 ∧ (sample.port .sp0).txQueue.length < 1024 ∧
      s.freeBuffers = 0 ∧ admission true s (s.visitor 0) = none := by
  unfold UserPasses OwnFrame; decide

theorem witness_userFrame_pathFull :
    1024 ≤ ((sample.setPort .sp0 { sample.port .sp0 with
      txQueue := List.replicate 1024 samplePacket }).port .sp0).txQueue.length := by
  show 1024 ≤ (List.replicate 1024 samplePacket).length
  rw [List.length_replicate]

/-- A refused visitor, and PROVISIONED visitors that are admitted and refused once attached. -/
theorem witness_userFrame_refused_and_attached :
    let s := sample.setVisitor 0 { sampleVisitor with roaming := .barred }
    let v : Visitor := { Visitor.freeEntry with lifecycle := .provisioned, tag := 5 }
    let a := sample.setVisitor 0 v
    let b := sample.setVisitor 0 { v with credit := .exhausted }
    lookupTag s 5 = some 0 ∧ (s.visitor 0).lifecycle ≠ .provisioned ∧
      admission true s (s.visitor 0) = some .barred ∧ lookupTag a 5 = some 0 ∧
      (a.visitor 0).lifecycle = .provisioned ∧ admission true a { a.visitor 0 with
        lifecycle := .attached, roaming := roamingNow a (a.visitor 0).partner } = none ∧
      admission true b { b.visitor 0 with
        lifecycle := .attached, roaming := roamingNow b (b.visitor 0).partner } = some .exhausted := by
  decide

theorem witness_heartbeat_level_63 :
    let f := frame ([0x02, 0, 63] ++ List.replicate 7 0)
    f.checkOk = true ∧ f.etherType = 0x88B6 ∧ f.body = 0x02 :: f.body.tail ∧ 10 ≤ f.body.length ∧
      byteAt f.body 1 < 16 ∧ byteAt f.body 2 < 64 ∧ (sample.cell (cellField f.body)).enable = true := by
  decide

/-- A mismatch at level 21 above the active 20, none at 20, and a join that changes the state of its cell head. -/
theorem witness_heartbeat_mismatch_and_join :
    let a := sample.setCell 1 { CellHead.powerOn with enable := true, join := 1, base := 5 }
    after (exec (.shipFrameArrival (frame ([0x02, 0, 21] ++ List.replicate 7 0))) sample)
        (fun t => decide ((t.cell 0).activeLevel = 20 ∧ (t.cell 0).levelMismatches = 1 ∧
          (t.cell 0).grantOwed = true)) = true ∧
      after (exec (.shipFrameArrival (frame ([0x02, 0, 20] ++ List.replicate 7 0))) sample)
        (fun t => decide ((t.cell 0).levelMismatches = 0 ∧ (t.cell 0).state = .serving)) = true ∧
      after (exec (.shipFrameArrival (frame ([0x02, 1, 0] ++ List.replicate 7 0))) a)
        (fun t => decide ((t.cell 1).state ≠ (a.cell 1).state ∧ (t.cell 1).target = 5)) = true := by decide

/-- A state in which SP2 runs its bring-up timers with 49 or 50 attempts made. -/
def opening (n : Nat) : State :=
  sample.setPath .sp2 { sample.path .sp2 with
    state := .opening, settleTimer := some 0, openTimer := some 0, openCount := n }

/-- A survey in flight with seven of its probes due. -/
def lastProbeOwed : SurveyRun :=
  { entries := List.replicate 8 .unsent, dueCount := 7, spacing := some 0 }

/-- A tunnel frame of 16 bytes on SP0 with probe id 3. -/
def tunnel (kind : Byte) : EthFrame := frame ([kind, 0, 0, 0, 0, 0, 0, 0, 3] ++ List.replicate 7 0)

theorem witness_shoreFrame_discards :
    OwnFrame 0x13 (tunnel 0x13) ∧ OwnFrame 0x10 (frame ((tunnel 0x10).body.take 15)) ∧
      ((tunnel 0x10).body.take 15).length < 16 ∧ OwnFrame 0x15 (tunnel 0x15) ∧
      byteAt (tunnel 0x15).body 1 ≠ Path.sp3.num := by
  unfold OwnFrame; decide

/-- A REQUEST on an UP path with its queue one short of full and full, and on a path that is not UP. -/
theorem witness_shoreRequest :
    let f := frame (0x20 :: List.replicate 23 0)
    let s := sample.setPort .sp0 { sample.port .sp0 with
      requests := List.replicate 3 (ask "STATUS_READ" []) }
    let t := sample.setPort .sp0 { sample.port .sp0 with
      requests := List.replicate 4 (ask "STATUS_READ" []) }
    OwnFrame 0x20 f ∧ 24 + 24 * field f.body 6 2 ≤ f.body.length ∧ (sample.path .sp0).state = .up ∧
      (s.port .sp0).requests.length < 4 ∧ 4 ≤ (t.port .sp0).requests.length ∧
      (sample.path .sp2).state ≠ .up := by
  unfold OwnFrame; decide

/-- The last answer that a port can hold due, and one more. -/
theorem witness_shoreProbe :
    let s := sample.setPort .sp0 { sample.port .sp0 with due := List.replicate 15 (.echo 1 2) }
    let t := sample.setPort .sp0 { sample.port .sp0 with due := List.replicate 16 (.echo 1 2) }
    TunnelFrame 0x11 .sp0 (tunnel 0x11) ∧ (s.path .sp0).state = .up ∧
      ((s.port .sp0).due.filter isEcho).length < 16 ∧
      16 ≤ ((t.port .sp0).due.filter isEcho).length ∧ (sample.path .sp2).state = .disabled := by
  unfold TunnelFrame OwnFrame; decide

/-- A path in a state with one steady probe of id 3 outstanding. -/
def probing (st : PathState) : State :=
  sample.setPath .sp0 { sample.path .sp0 with
    state := st, outstanding := [{ id := 3, stamp := 0, left := 1 }] }

theorem witness_testProbe :
    ((probing .test).path .sp0).state = .test ∧ ((probing .test).path .sp0).outstanding.find?
        (fun y => y.id == BitVec.ofNat 8 (byteAt (tunnel 0x11).body 8)) =
      some { id := 3, stamp := 0, left := 1 } := by decide

theorem witness_pathAccept :
    let s := (opening 1).setPath .sp2 { (opening 1).path .sp2 with gap := some 1 }
    let f := frame ((tunnel 0x15).body.set 1 2)
    TunnelFrame 0x15 .sp2 f ∧ ((opening 1).path .sp2).state = .opening ∧
      ((opening 1).path .sp2).gap = none ∧ (s.path .sp2).state = .opening ∧ (s.path .sp2).gap ≠ none ∧
      (sample.path .sp2).state ≠ .opening := by
  unfold TunnelFrame OwnFrame; decide

theorem witness_dataFrame :
    let f := frame ([0x10, 0, 0, 10, 0, 0, 0, 5, 0, 0, 0, 0, 0, 0, 0, 20] ++ List.replicate 20 0)
    let g := frame ([0x10, 0, 0, 10, 0, 0, 0, 5, 0, 0, 0, 0, 0, 0, 0, 21] ++ List.replicate 20 0)
    let s := sample.setPsl { sample.psl with drain := sample.psl.drain.set .sp1 (some 1) }
    TunnelFrame 0x10 .sp0 f ∧ lengthOk (field f.body 14 2) (f.body.length - 16) = true ∧
      lengthOk (field g.body 14 2) (g.body.length - 16) = false ∧ sample.psl.active = some .sp0 ∧
      0 < sample.freeBuffers ∧ (sample.setFreeBuffers 0).freeBuffers = 0 ∧
      s.psl.drain.get .sp1 ≠ none ∧ sample.psl.active ≠ some .sp1 ∧ sample.psl.drain.get .sp1 = none := by
  unfold TunnelFrame OwnFrame; decide

theorem witness_resequencer_hunt :
    State.reset.drs.locked = false ∧ State.reset.drs.slots = [] := by decide

/-- The packet at the hole, alone and with one packet behind it. -/
theorem witness_resequencer_in_order :
    let s := sample.setDrs { sample.drs with slots := [sampleHeld 11, sampleHeld 13] }
    sample.drs.locked = true ∧ seqDistance sample.drs 10 = 0 ∧ (∀ x ∈ sample.drs.slots, x.seq ≠ 11) ∧
      s.drs.slots = [sampleHeld 11] ++ [sampleHeld 13] ∧ (sampleHeld 11).seq = 10 + BitVec.ofNat 16 1 ∧
      ∀ x ∈ [sampleHeld 13].head?, x.seq ≠ 10 + BitVec.ofNat 16 2 := by decide

/-- The nearest sequence far ahead, 266: 12 is beyond the new NEXT_EXPECTED 11; and 267, for which the run at 12 is
delivered. -/
theorem witness_resequencer_jump :
    seqDistance sample.drs 266 = 256 ∧ seqDistance sample.drs 267 = 257 ∧
      seqDistance sample.drs 32777 = 32767 ∧ sample.drs.slots = [] ++ ([] ++ [sampleHeld 12]) ∧
      sample.drs.slots = [] ++ ([sampleHeld 12] ++ []) ∧ sample.drs.slots = [sampleHeld 12] ++ ([] ++ []) ∧
      (256 : Nat) - 255 ≤ seqDistance sample.drs 12 ∧ (257 : Nat) - 255 ≤ seqDistance sample.drs 12 ∧
      seqDistance sample.drs 12 < 32767 - 255 ∧ (sampleHeld 12).seq = 267 - 255 + BitVec.ofNat 16 0 ∧
      (sampleHeld 12).seq ≠ 266 - 255 + BitVec.ofNat 16 0 := by decide

theorem witness_resequencer_held_at_1_and_255 :
    sample.drs.locked = true ∧ seqDistance sample.drs 11 = 1 ∧ seqDistance sample.drs 265 = 255 ∧
      (∀ x ∈ sample.drs.slots, x.seq ≠ 11) ∧ ∀ x ∈ sample.drs.slots, x.seq ≠ 265 := by decide

theorem witness_resequencer_duplicate :
    1 ≤ seqDistance sample.drs 12 ∧ seqDistance sample.drs 12 ≤ 255 ∧
      ∃ x ∈ sample.drs.slots, x.seq = 12 := by decide

theorem witness_resequencer_late :
    seqDistance sample.drs 32778 = 32768 ∧ seqDistance sample.drs 9 = 65535 := by decide

theorem witness_admission :
    sampleVisitor.lifecycle = .attached ∧ sampleVisitor.roaming ≠ .barred ∧
      sampleVisitor.credit ≠ .exhausted ∧ sample.psl.active = some .sp0 ∧
      State.reset.psl.active = none := by decide

theorem witness_shoreTake :
    (sample.port .sp0).carrier = true ∧ (sample.port .sp0).transmitter = none ∧
      (sample.port .sp0).due = [] ∧ (sample.port .sp0).reply = none ∧
      (sample.port .sp0).txQueue = [samplePacket] ∧ lookupTag sample samplePacket.tag = some 0 ∧
      (sample.visitor 0).reviewMark = false ∧ (sample.visitor 0).closeMark = false ∧
      admission true sample (sample.visitor 0) = none ∧
      (sample.visitor 0).openRecord = some sampleOpen ∧
      volumeFull sampleOpen samplePacket.length .up = false ∧
      chargedAfter (sample.visitor 0) sampleOpen samplePacket.length ≤ 2 ^ 48 - 1 := by decide

/-- A probe due with seven and with eight probes outstanding, a survey probe due, and a reply alone. -/
theorem witness_shoreTake_due :
    let e : Probe := { id := 9, stamp := 0, left := 1 }
    let s := probing .up
    let d := (s.setPort .sp0 { s.port .sp0 with due := [.probe] }).setPath .sp0 { s.path .sp0 with
      outstanding := List.replicate 7 e }
    let f := d.setPath .sp0 { s.path .sp0 with outstanding := List.replicate 8 e }
    let r := s.setPort .sp0 { s.port .sp0 with
      reply := some (plainReply (ask "STATUS_READ" []) .notPermitted false) }
    (d.port .sp0).due = .probe :: [] ∧ (d.path .sp0).outstanding.length < 8 ∧
      8 ≤ (f.path .sp0).outstanding.length ∧ (r.port .sp0).due = [] ∧ (r.port .sp0).reply ≠ none ∧
      (sample.port .sp1).due = [] ∧ (sample.port .sp1).reply = none ∧ (sample.port .sp1).txQueue = [] ∧
      (sample.port .sp2).carrier = false := by decide

theorem witness_shoreTake_survey :
    let s := (sample.setPort .sp0 { sample.port .sp0 with due := [.surveyProbe 7] }).setPath .sp0
      { sample.path .sp0 with survey := .inFlight lastProbeOwed }
    (s.port .sp0).due = .surveyProbe 7 :: [] ∧ (s.path .sp0).survey = .inFlight lastProbeOwed := by decide

/-- The head packet of a stale tag, of a visitor refused after its owed review, of one whose record is full, and of one
at the ceiling. -/
theorem witness_shoreTake_others :
    let q := { samplePacket with tag := 6 }
    let s := sample.setVisitor 0 { sampleVisitor with reviewMark := true, roaming := .barred }
    let x : Partner := { Partner.powerOn with policy := Vector.replicate 16 .barred }
    let b := s.setRtu { s.rtu with partners := s.rtu.partners.set 0 x }
    let v := sample.setVisitor 0 { sampleVisitor with
      openRecord := some { sampleOpen with bytesUp := 2 ^ 32 - 20 } }
    let e := { sampleOpen with priceEff := 65535 }
    let c := sample.setVisitor 0 { sampleVisitor with charged := 2 ^ 48 - 1, openRecord := some e }
    lookupTag sample q.tag = none ∧ (owedWork 0 s).psl = s.psl ∧
      admission true (owedWork 0 s) ((owedWork 0 s).visitor 0) = none ∧
      admission true (owedWork 0 b) ((owedWork 0 b).visitor 0) = some .barred ∧
      volumeFull { sampleOpen with bytesUp := 2 ^ 32 - 20 } 20 .up = true ∧
      admission true v (v.visitor 0) = none ∧ admission true c (c.visitor 0) = none ∧
      volumeFull e 20 .up = false ∧ 2 ^ 48 - 1 < chargedAfter (c.visitor 0) e 20 ∧
      (charge 0 20 .up c).2 = false ∧ (charge 0 20 .up sample).2 = true := by decide

/-- The credit notice list with the index on it, with room for one more, and full. -/
theorem witness_offerCredit :
    (0 ∈ List.range 64) ∧ 99 ∉ List.range 63 ∧ (List.range 63).length < 64 ∧ 99 ∉ List.range 64 ∧
      64 ≤ (List.range 64).length := by decide

theorem witness_charge_zones :
    zoneCharged (2 ^ 32) .default = true ∧ zoneCharged (2 ^ 32) (.entry 31) = false := by decide

theorem witness_grant_of_last_cell :
    let s := sample.setCell 15 { sample.cell 15 with grantOwed := true }
    s.shi.link = true ∧ s.shi.transmitter = none ∧ s.shi.lastOwn = false ∧
      (s.cell 15).grantOwed = true ∧ ∀ d : Cell, d < 15 → (s.cell d).grantOwed = false := by decide

/-- What each later source of the ship transmitter needs: a reply, a notice of lowest priority, a packet in the egress
queue after a frame of the part's own, and nothing at all. -/
theorem witness_shipTake :
    let r := sample.setShi { sample.shi with
      reply := some (plainReply (ask "CLOCK_SET" []) .done false) }
    let n := sample.setNtu { sample.ntu with
      controlFault := { pending := true, armed := true, raised := 1 } }
    let e : EgressEntry := { packet := List.replicate 20 0, tag := 5, length := 20, cell := 0 }
    let u := sample.setShi { sample.shi with lastOwn := true, egress := [e] }
    (∀ c : Cell, (sample.cell c).grantOwed = false) ∧ sample.shi.link = true ∧
      sample.shi.transmitter = none ∧ r.shi.reply ≠ none ∧ noticeReady n.ntu .controlFault = true ∧
      noticeReady n.ntu .pathLost = false ∧ noticeReady n.ntu .surveyDone = false ∧
      u.shi.egress = e :: [] ∧ u.shi.lastOwn = true ∧ sample.shi.lastOwn = false ∧
      sample.shi.reply = none ∧ sample.shi.egress = [] ∧ arbiter sample.ntu = none := by decide

/-! ## Witnesses: shore paths -/

theorem witness_carrierArrival :
    let s := sample.setPath .sp2 { sample.path .sp2 with state := .down }
    (s.port .sp2).carrier = false ∧ (s.path .sp2).state = .down ∧ (s.port .sp3).carrier = false ∧
      (s.path .sp3).state = .disabled := by decide

theorem witness_carrierLoss : (sample.port .sp0).carrier = true ∧ (sample.path .sp0).state = .up := by
  decide

/-- Carrier at a DISABLED and at a TEST path, and at an UP path with a survey in flight, deferred and none. -/
theorem witness_carrierLoss_others :
    let d := sample.setPath .sp1 { sample.path .sp1 with state := .disabled }
    let t := sample.setPath .sp1 { sample.path .sp1 with state := .test }
    let f := sample.setPath .sp1 { sample.path .sp1 with survey := .inFlight lastProbeOwed }
    let w := sample.setPath .sp1 { sample.path .sp1 with survey := .deferred }
    (d.port .sp1).carrier = true ∧ (d.path .sp1).state = .disabled ∧ (t.port .sp1).carrier = true ∧
      (t.path .sp1).state = .test ∧ (f.port .sp1).carrier = true ∧ (f.path .sp1).state = .up ∧
      (f.path .sp1).survey = .inFlight lastProbeOwed ∧ (w.path .sp1).survey = .deferred ∧
      (sample.path .sp1).survey = .idle := by decide

theorem witness_bringUp :
    (∀ d ∈ ((opening 49).port .sp2).due, isPathOpen d = false) ∧
      ((opening 49).path .sp2).settleTimer ≠ none ∧ ((opening 49).path .sp2).openTimer ≠ none ∧
      ((opening 49).path .sp2).openCount < 50 ∧ 50 ≤ ((opening 50).path .sp2).openCount := by decide

theorem witness_surveyProbe :
    ((sample.setPath .sp0 { sample.path .sp0 with survey := .inFlight lastProbeOwed }).path .sp0).survey =
      .inFlight lastProbeOwed ∧ lastProbeOwed.spacing ≠ none ∧ lastProbeOwed.dueCount < 8 := by decide

theorem witness_probeTimers :
    let s := sample.setPath .sp2 { sample.path .sp2 with state := .test, probeTimer := some 0 }
    (s.path .sp0).probeTimer ≠ none ∧ (s.path .sp0).state ≠ .test ∧ (s.path .sp2).probeTimer ≠ none ∧
      (s.path .sp2).state = .test ∧ (s.port .sp2).carrier = false := by decide

theorem witness_idleTimers :
    (sample.path .sp0).idleTimer ≠ none ∧ sample.psl.active = some .sp0 ∧
      (∀ d ∈ (sample.port .sp0).due, isFill d = false) ∧ (sample.path .sp1).idleTimer ≠ none ∧
      sample.psl.active ≠ some .sp1 := by decide

theorem witness_probeDeadline :
    ((probing .up).path .sp0).outstanding.find? (fun y => y.id == 3) =
      some { id := 3, stamp := 0, left := 1 } := by decide

/-- A survey whose last probe, of id 3, is in flight, with seven samples or with one entry not yet sent. -/
def lastInFlight (first : SurveyEntry) : SurveyRun :=
  { entries := first :: (List.replicate 6 (.echoed 9 100) ++ [.inFlight 3 0 1]), dueCount := 8,
    spacing := none }

/-- A path in a state with a survey in flight. -/
def surveying (st : PathState) (run : SurveyRun) : State :=
  sample.setPath .sp1 { sample.path .sp1 with state := st, survey := .inFlight run }

theorem witness_probeEcho :
    TunnelFrame 0x12 .sp0 (tunnel 0x12) ∧ ((probing .up).path .sp0).state ≠ .test ∧
      (sample.path .sp1).outstanding.find? (fun y => y.id == 3) = none ∧
      ((surveying .up (lastInFlight .unsent)).path .sp1).survey = .inFlight (lastInFlight .unsent) ∧
      inFlightStamp 3 (lastInFlight .unsent).entries = some 0 ∧
      ((lastInFlight .unsent).entries.map (echoEntry 3 5)).all entryResolved = false ∧
      ((lastInFlight (.lost 8)).entries.map (echoEntry 3 5)).all entryResolved = true ∧
      ((lastInFlight (.lost 8)).entries.map (loseEntry 3)).all entryResolved = true ∧
      inFlightStamp 4 (lastInFlight .unsent).entries = none ∧
      ((probing .test).path .sp0).state = .test := by
  unfold TunnelFrame OwnFrame; decide

/-- Six samples of eight pass and five fail, no path is active, and SP1 alone may become so. -/
theorem witness_survey :
    let es := List.replicate 6 (.echoed 9 100) ++ [.lost 7, .lost 8]
    let s := (surveying .surveying (lastInFlight .unsent)).setPsl
      { sample.psl with active := none }
    let t := s.setPath .sp0 { s.path .sp0 with state := .down }
    (surveyResult PathConfig.powerOn es).pass = true ∧
      (surveyResult PathConfig.powerOn (es.drop 1)).pass = false ∧ surveySamples es ≠ [] ∧
      surveySamples [.lost 7] = [] ∧ (t.path .sp1).state = .surveying ∧ t.psl.active = none ∧
      permitted t .sp1 = true ∧ (∀ q ∈ Path.all, eligible t q = false) ∧
      (surveying .surveying (lastInFlight .unsent)).psl.active ≠ none ∧
      ((surveying .up (lastInFlight .unsent)).path .sp1).state = .up := by decide

theorem witness_gapEnd :
    let s := sample.setPath .sp0 { sample.path .sp0 with gap := some 0, survey := .deferred }
    let t := sample.setPath .sp0 { sample.path .sp0 with gap := some 0 }
    (s.path .sp0).gap ≠ none ∧ (s.path .sp0).survey = .deferred ∧ (s.path .sp0).state = .up ∧
      (t.path .sp0).gap ≠ none ∧ (t.path .sp0).survey ≠ .deferred := by decide

/-! ## Witnesses: path selection -/

theorem witness_candidate :
    let s := sample.setPsl { sample.psl with pin := some .sp1 }
    s.psl.pin = some .sp1 ∧ eligible s .sp1 = true ∧ sample.psl.pin = none ∧
      candidateNow sample = some .sp0 ∧ candidateNow State.reset = none := by decide

/-- The ranks 0 to 3 of the four paths, and the three kinds of current zone. -/
theorem witness_ranks :
    let r := (currentTerms sample).rank
    let z := sample.setZnu { sample.znu with current := some (.entry 31) }
    r.first = .sp0 ∧ r.first ≠ .sp1 ∧ r.second = .sp1 ∧ r.first ≠ .sp2 ∧ r.second ≠ .sp2 ∧
      r.third = .sp2 ∧ r.first ≠ .sp3 ∧ r.second ≠ .sp3 ∧ r.third ≠ .sp3 ∧
      State.reset.znu.current = none ∧ sample.znu.current = some .default ∧
      z.znu.current = some (.entry 31) := by decide

theorem witness_swap : sample.psl.active = some .sp0 ∧ (sample.path .sp0).state = .up := by decide

/-- SP0 has lost five probes, and SP1 has led for two evaluations of the three that CONFIRM needs. -/
def nearSwap : State :=
  { sample with
    psv := { sample.psv with
      sp0 := { sampleUp 150 with
        lossWindow := List.replicate 5 true ++ List.replicate 27 false } }
    psl := { sample.psl with confirmFor := some .sp1, confirmCount := 2 } }

theorem witness_selector_keeps :
    candidateNow sample = some .sp0 ∧ State.reset.psl.active = none ∧
      candidateNow { sample with psl := { sample.psl with pin := some .sp1 } } = some .sp1 ∧
      ({ sample.psl with holdDown := some 1 } : Psl).holdDown ≠ none := by decide

/-- SP1 is cheaper than SP0 by the margin exactly, which is not enough, and by one more. -/
theorem witness_selector_margin :
    let s := { sample with
      psv := { sample.psv with sp0 := sampleUp 240, sp1 := sampleUp 240 }
      psl := { sample.psl with settings := { sample.psl.settings with rankStep := 0, hysteresis := 0 } } }
    let t := { s with psv := { s.psv with sp0 := sampleUp 250 } }
    let u := { s with znu := { s.znu with defaultTerms := { s.znu.defaultTerms with
      pathMask := { s.znu.defaultTerms.pathMask with sp0 := false } } } }
    costOf s .sp0 ≤ costOf s .sp1 + s.psl.settings.hysteresis ∧ candidateNow s = some .sp0 ∧
      candidateNow t = some .sp1 ∧ costOf t .sp1 + t.psl.settings.hysteresis < costOf t .sp0 ∧
      candidateNow { t with psl := { t.psl with settings :=
        { t.psl.settings with hysteresis := 1 } } } = some .sp1 ∧
      costOf t .sp0 ≤ costOf t .sp1 + 1 ∧ eligible t .sp0 = true ∧ t.psl.confirmFor ≠ some .sp1 ∧
      1 ≠ t.psl.settings.confirm ∧ candidateNow u = some .sp1 := by decide

theorem witness_selector_swaps :
    nearSwap.psl.active = some .sp0 ∧ candidateNow nearSwap = some .sp1 ∧ nearSwap.psl.pin ≠ some .sp1 ∧
      eligible nearSwap .sp0 = true ∧
      costOf nearSwap .sp1 + nearSwap.psl.settings.hysteresis < costOf nearSwap .sp0 ∧
      nearSwap.psl.settings.confirm = (if nearSwap.psl.confirmFor = some .sp1
        then min (nearSwap.psl.confirmCount + 1) nearSwap.psl.settings.confirm else 1) ∧
      nearSwap.psl.holdDown = none := by
  decide

theorem witness_drainWindow :
    ({ sample.psl with drain := sample.psl.drain.set .sp1 (some 0) } : Psl).drain.get .sp1 ≠ none := by
  decide

/-- The sample with SP1 out of service, so that no other path is eligible. -/
def lonePath : State := sample.setPath .sp1 Psv.powerOn

theorem witness_pathDisable_active :
    ShipHead "PATH_DISABLE" (ask "PATH_DISABLE" [("PATH", 0)])
        (asked (ask "PATH_DISABLE" [("PATH", 0)]) lonePath) ∧
      arg "PATH" (ask "PATH_DISABLE" [("PATH", 0)]) = some (Path.sp0.num : Int) ∧
      lonePath.psl.active = some .sp0 ∧ (lonePath.path .sp0).state = .up ∧
      ∀ q : Path, q ≠ .sp0 → eligible lonePath q = false :=
  ⟨shipHead_asked _ _ _ (by decide) rfl rfl, by decide, rfl, rfl,
    fun q h => by cases q <;> first | exact absurd rfl h | decide⟩

theorem witness_pathDisable_others :
    ShipHead "PATH_DISABLE" (ask "PATH_DISABLE" [("PATH", 2)]) (want "PATH_DISABLE" [("PATH", 2)]) ∧
      arg "PATH" (ask "PATH_DISABLE" [("PATH", 2)]) = some (Path.sp2.num : Int) ∧
      (sample.path .sp2).state = .disabled ∧ ((opening 1).path .sp2).state ≠ .disabled ∧
      ((opening 1).path .sp2).state ≠ .up :=
  ⟨shipHead_want _ _ (by decide), by decide, rfl, by decide, by decide⟩

/-- PATH_DISABLE of the active SP0 with SP1 eligible, cheapest and pinned, and of SP1, which is UP and not active. -/
theorem witness_pathDisable_swap :
    let r := ask "PATH_DISABLE" [("PATH", 0)]
    let n := sample.setPsl { sample.psl with pin := some .sp1 }
    ShipHead "PATH_DISABLE" r (asked r sample) ∧ ShipHead "PATH_DISABLE" r (asked r n) ∧
      ShipHead "PATH_DISABLE" (ask "PATH_DISABLE" [("PATH", 1)]) (want "PATH_DISABLE" [("PATH", 1)]) ∧
      sample.psl.active = some .sp0 ∧ (sample.path .sp0).state = .up ∧ eligible sample .sp1 = true ∧
      eligible n .sp1 = true ∧ n.psl.pin = some .sp1 ∧ sample.psl.pin = none ∧
      (∀ q ∈ Path.all, q ≠ .sp0 → q ≠ .sp1 → eligible sample q = false) ∧
      sample.psl.active ≠ some .sp1 ∧ (sample.path .sp1).state = .up :=
  ⟨shipHead_asked _ _ _ (by decide) rfl rfl, shipHead_asked _ _ _ (by decide) rfl rfl,
    shipHead_want _ _ (by decide), by decide, by decide, by decide, by decide, by decide, by decide,
    by decide, by decide, by decide⟩

/-! ## Witnesses: resequencer, coverage, zones -/

/-- The nearest packet with nothing behind it, and with a run of two and one more beyond a second hole. -/
theorem witness_gapExpiry :
    let s := sample.setDrs { sample.drs with
      slots := [sampleHeld 12, sampleHeld 13, sampleHeld 14, sampleHeld 16] }
    sample.drs.slots = sampleHeld 12 :: ([] ++ []) ∧ sample.drs.gapTimer ≠ none ∧
      s.drs.slots = sampleHeld 12 :: ([sampleHeld 13, sampleHeld 14] ++ [sampleHeld 16]) ∧
      s.drs.gapTimer ≠ none ∧ (sampleHeld 13).seq = (sampleHeld 12).seq + BitVec.ofNat 16 1 ∧
      (sampleHeld 14).seq = (sampleHeld 12).seq + BitVec.ofNat 16 2 ∧
      ∀ x ∈ [sampleHeld 16].head?, x.seq ≠ (sampleHeld 12).seq + BitVec.ofNat 16 3 := by decide

/-- A packet of an unknown tag, of a visitor refused, of one without coverage, of one whose backup forwards, and one
that finds the egress queue one short of full. -/
theorem witness_delivery :
    let n := sample.setVisitor 0 { sampleVisitor with servingCell := some 1 }
    let b := n.setCell 1 { n.cell 1 with backup := some 0 }
    let r := sample.setVisitor 0 { sampleVisitor with credit := .exhausted }
    lookupTag sample 6 = none ∧ lookupTag sample (sampleHeld 12).tag = some 0 ∧
      admission false (owedWork 0 r) ((owedWork 0 r).visitor 0) = some .exhausted ∧
      admission false sample (sample.visitor 0) = none ∧
      forwardingChoice sample (sample.visitor 0) = some (0, false) ∧
      forwardingChoice n (n.visitor 0) = none ∧ forwardingChoice b (b.visitor 0) = some (0, true) ∧
      sample.shi.egress.length < 2048 ∧ (charge 0 20 .down sample).2 = true := by decide

theorem witness_delivery_egressFull (e : EgressEntry) :
    2048 ≤ (sample.setShi { sample.shi with egress := List.replicate 2048 e }).shi.egress.length := by
  show 2048 ≤ (List.replicate 2048 e).length
  rw [List.length_replicate]

theorem witness_heartbeatExpiry :
    (sample.cell 0).hbTimer ≠ none ∧ (sample.cell 0).state = .serving ∧
      0 < (sample.cell 0).activeLevel := by decide

/-- A SERVING cell head that two LOST ones name has one boost, and one that is not SERVING has no target. -/
theorem witness_targets :
    let l := { sampleCell with state := .lost, backup := some 0 }
    let u := { sample.cvu with
      cells := ((sample.cvu.cells.set 0 { sampleCell with boost := 7 }).set 1 l).set 2 l }
    boosted u 0 = true ∧ u.cells[(0 : Cell)].state = .serving ∧ targetOf 63 u 0 = 27 ∧
      targetOf 25 u 0 = 25 ∧ boosted u 1 = false ∧ u.cells[(1 : Cell)].state ≠ .serving := by decide

theorem witness_grantBoundary :
    (sample.cell 0).state = .serving ∧ (sample.cell 15).state ≠ .serving := by decide

theorem witness_positionExpiry :
    let s := sample.setZnu { sample.znu with current := none }
    sample.znu.positionTimer ≠ none ∧ sample.znu.current = some (fallbackZone sample.znu) ∧
      s.znu.positionTimer ≠ none ∧ s.znu.current ≠ some (fallbackZone s.znu) := by decide

/-- FALLBACK names DEFAULT, a VALID entry, and one that is not VALID. -/
theorem witness_fallbackZone :
    let v := sample.znu.zones.set 31 { ZoneRow.powerOn with valid := true }
    let u := { sample.znu with zones := v, fallback := .entry 31 }
    let w := { sample.znu with fallback := .entry 31 }
    sample.znu.fallback = .default ∧ u.fallback = .entry 31 ∧ u.zones[(31 : ZoneIndex)].valid = true ∧
      w.fallback = .entry 31 ∧ w.zones[(31 : ZoneIndex)].valid = false := by decide

/-- A POSITION at the ends of the ranges of LAT and LON, which matches DEFAULT. -/
def corner : List (String × Int) := [("LAT", -9000000), ("LON", 18000000)]

theorem witness_position :
    let r := ask "POSITION" corner
    let s := sample.setZnu { sample.znu with current := none }
    let u := sample.setZnu { sample.znu with
      current := none, candidate := some .default, candidateCount := 2 }
    ShipHead "POSITION" r (want "POSITION" corner) ∧ arg "LAT" r = some (-9000000) ∧
      arg "LON" r = some 18000000 ∧ Zone.default = matchZone sample.znu (-9000000) 18000000 ∧
      sample.znu.current = some .default ∧ s.znu.current ≠ some .default ∧ 1 < s.znu.confirm ∧
      u.znu.confirm ≤ 2 + 1 :=
  ⟨shipHead_want _ _ (by decide), by decide, by decide, by decide, by decide, by decide, by decide,
    by decide⟩

/-- The sample with zone 31 VALID. -/
def zone31 : State :=
  sample.setZnu { sample.znu with zones := sample.znu.zones.set 31 { ZoneRow.powerOn with valid := true } }

theorem witness_zoneForce :
    ShipHead "ZONE_FORCE" (ask "ZONE_FORCE" [("ZONE", 31)])
        (asked (ask "ZONE_FORCE" [("ZONE", 31)]) zone31) ∧
      arg "ZONE" (ask "ZONE_FORCE" [("ZONE", 31)]) = some (zoneNum (.entry 31) : Int) ∧
      zoneUsable zone31.znu (.entry 31) = true ∧ zone31.znu.current ≠ some (.entry 31) :=
  ⟨shipHead_asked _ _ _ (by decide) rfl rfl, by decide, by decide, by decide⟩

theorem witness_zoneForce_current :
    ShipHead "ZONE_FORCE" (ask "ZONE_FORCE" [("ZONE", 32)]) (want "ZONE_FORCE" [("ZONE", 32)]) ∧
      arg "ZONE" (ask "ZONE_FORCE" [("ZONE", 32)]) = some (zoneNum .default : Int) ∧
      zoneUsable sample.znu .default = true ∧ sample.znu.current = some .default :=
  ⟨shipHead_want _ _ (by decide), by decide, by decide, by decide⟩

theorem witness_zoneForce_refusals :
    ShipHead "ZONE_FORCE" (ask "ZONE_FORCE" []) (want "ZONE_FORCE" []) ∧
      arg "ZONE" (ask "ZONE_FORCE" []) = none ∧
      ShipHead "ZONE_FORCE" (ask "ZONE_FORCE" [("ZONE", 33)]) (want "ZONE_FORCE" [("ZONE", 33)]) ∧
      arg "ZONE" (ask "ZONE_FORCE" [("ZONE", 33)]) = some 33 ∧
      ShipHead "ZONE_FORCE" (ask "ZONE_FORCE" [("ZONE", -1)]) (want "ZONE_FORCE" [("ZONE", -1)]) ∧
      arg "ZONE" (ask "ZONE_FORCE" [("ZONE", -1)]) = some (-1) ∧
      ShipHead "ZONE_FORCE" (ask "ZONE_FORCE" [("ZONE", 31)]) (want "ZONE_FORCE" [("ZONE", 31)]) ∧
      arg "ZONE" (ask "ZONE_FORCE" [("ZONE", 31)]) = some (((31 : ZoneIndex)).val : Int) ∧
      sample.znu.zones[(31 : ZoneIndex)].valid = false :=
  ⟨shipHead_want _ _ (by decide), by decide, shipHead_want _ _ (by decide), by decide,
    shipHead_want _ _ (by decide), by decide, shipHead_want _ _ (by decide), by decide, by decide⟩

theorem witness_zoneLoad :
    let r := ask "ZONE_LOAD" [("INDEX", 31), ("VALID", 0)]
    let s := zone31.setZnu { zone31.znu with current := some (.entry 31) }
    rankItems r ≠ .bad ∧ ShipHead "ZONE_LOAD" r (asked r zone31) ∧ ShipHead "ZONE_LOAD" r (asked r s) ∧
      arg "INDEX" r = some (31 : Int) ∧
      (rowLoaded r zone31.znu.zones[31]).latMin ≤ (rowLoaded r zone31.znu.zones[31]).latMax ∧
      zone31.znu.current ≠ some (.entry 31) ∧ s.znu.current = some (.entry 31) :=
  ⟨by decide, shipHead_asked _ _ _ (by decide) rfl rfl, shipHead_asked _ _ _ (by decide) rfl rfl,
    by decide, by decide, by decide, by decide⟩

theorem witness_zoneDefaults :
    let r := ask "ZONE_DEFAULTS" [("CAP", 63)]
    let q := ask "ZONE_DEFAULTS" [("CONFIRM", 1)]
    rankItems r ≠ .bad ∧ rankItems q ≠ .bad ∧
      ShipHead "ZONE_DEFAULTS" r (want "ZONE_DEFAULTS" [("CAP", 63)]) ∧
      ShipHead "ZONE_DEFAULTS" q (want "ZONE_DEFAULTS" [("CONFIRM", 1)]) ∧
      fallbackBad (arg "FALLBACK" r) = false ∧ fallbackBad (arg "FALLBACK" q) = false ∧
      termsPresent r = true ∧ termsPresent q = false ∧ sample.znu.current = some .default :=
  ⟨by decide, by decide, shipHead_want _ _ (by decide), shipHead_want _ _ (by decide), by decide,
    by decide, by decide, by decide, by decide⟩

/-- FALLBACK at its highest entry, CONFIRM and POSITION_TIMEOUT one past their ranges. -/
theorem witness_defaultsWritten :
    let r := ask "ZONE_DEFAULTS" [("FALLBACK", 31), ("CONFIRM", 9), ("POSITION_TIMEOUT", 0)]
    arg "FALLBACK" r = some (zoneNum (.entry 31) : Int) ∧ arg "CONFIRM" r = some 9 ∧
      arg "POSITION_TIMEOUT" r = some 0 ∧ arg "FALLBACK" (ask "ZONE_DEFAULTS" []) = none := by decide

/-- The four RANK items in reversed order, and none of them. -/
theorem witness_termsWritten :
    let r := ask "ZONE_DEFAULTS" [("RANK_0", 3), ("RANK_1", 2), ("RANK_2", 1), ("RANK_3", 0)]
    [Path.sp3, .sp2, .sp1, .sp0].Nodup ∧ argK "RANK_" 0 r = some (Path.sp3.num : Int) ∧
      argK "RANK_" 1 r = some (Path.sp2.num : Int) ∧ argK "RANK_" 2 r = some (Path.sp1.num : Int) ∧
      argK "RANK_" 3 r = some (Path.sp0.num : Int) ∧
      ∀ k : Fin 4, argK "RANK_" k.val (ask "ZONE_DEFAULTS" []) = none := by decide

/-! ## Witnesses: records, reviews and the sweep -/

/-- What the price of a new record is worked from: no current zone, DEFAULT and an entry, no active path and one, and
a SURCHARGED visitor. -/
theorem witness_price :
    let z := sample.setZnu { sample.znu with current := some (.entry 31) }
    let v := { sampleVisitor with roaming := .surcharged }
    State.reset.znu.current = none ∧ sample.znu.current = some .default ∧
      sample.znu.defaultTerms.region = 0 ∧ z.znu.current = some (.entry 31) ∧
      State.reset.psl.active = none ∧ sample.psl.active = some .sp0 ∧ v.roaming = .surcharged ∧
      sampleVisitor.roaming ≠ .surcharged := by decide

theorem witness_close_queued_and_empty :
    (sample.visitor 0).openRecord = some sampleOpen ∧ (sample.visitor 0).lifecycle ≠ .free ∧
      holdsTraffic sampleOpen = true ∧ held sample.rcq < 1024 ∧
      holdsTraffic { sampleOpen with pktsUp := 0, pktsDown := 0, feeCharged := 0 } = false := by decide

theorem witness_close_spilled :
    1024 ≤ held { sample.rcq with records := List.replicate 1024 sampleRecord } := by
  unfold held
  rw [List.length_replicate]

theorem witness_sweep :
    let s := sample.setRse { sample.rse with running := true }
    let t := s.setVisitor 0 { sampleVisitor with reviewMark := true }
    s.rse.running = true ∧ (s.visitor s.rse.cursor).reviewMark = false ∧
      (s.visitor s.rse.cursor).closeMark = false ∧ t.rse.running = true ∧
      (t.visitor t.rse.cursor).lifecycle ≠ .free ∧ (t.visitor t.rse.cursor).reviewMark = true := by decide

/-- Records that agree with the conditions, and that differ in zone, in path and in price alone. -/
theorem witness_owedWork :
    let c := sample.setVisitor 0 { sampleVisitor with closeMark := true }
    let both := sample.setVisitor 0 { sampleVisitor with closeMark := true, reviewMark := true }
    (c.visitor 0).openRecord = some sampleOpen ∧ (c.visitor 0).closeMark = true ∧
      (c.visitor 0).reviewMark = false ∧ (both.visitor 0).closeMark = true ∧
      (both.visitor 0).reviewMark = true ∧ sampleOpen.zone = sample.znu.current ∧
      sampleOpen.path = sample.psl.active ∧ sampleOpen.priceEff = priceNow sample sampleVisitor ∧
      ({ sampleOpen with zone := none } : OpenRecord).zone ≠ sample.znu.current ∧
      ({ sampleOpen with path := some .sp1 } : OpenRecord).path ≠ sample.psl.active ∧
      ({ sampleOpen with priceEff := 4095 } : OpenRecord).priceEff ≠
        priceNow sample sampleVisitor := by decide

theorem witness_intervalExpiry :
    let s := sample.setRse { sample.rse with interval := 240, intervalTimer := some 0 }
    let t := (s.setVisitor 0 { sampleVisitor with closeMark := true }).setRse
      { s.rse with running := true, closeReason := .flush }
    s.rse.intervalTimer ≠ none ∧ s.rse.interval ≠ 0 ∧ closePending s = 0 ∧ EngineLaw s ∧
      t.rse.intervalTimer ≠ none ∧ t.rse.interval ≠ 0 ∧ closePending t ≠ 0 ∧ EngineLaw t := by
  unfold EngineLaw; decide

theorem witness_flush_and_voyage :
    ShipHead "RECORD_FLUSH" (ask "RECORD_FLUSH" []) (want "RECORD_FLUSH" []) ∧
      ShipHead "VOYAGE_START" (ask "VOYAGE_START" []) (want "VOYAGE_START" []) ∧
      (sample.visitor 0).lifecycle ≠ .free ∧ (sample.visitor 1).lifecycle = .free :=
  ⟨shipHead_want _ _ (by decide), shipHead_want _ _ (by decide), by decide, by decide⟩

/-- One past each end of MINUTES. -/
theorem witness_interval :
    ShipHead "RECORD_INTERVAL" (ask "RECORD_INTERVAL" [("MINUTES", 241)])
        (want "RECORD_INTERVAL" [("MINUTES", 241)]) ∧
      ((240 : Nat) : Int) = max 0 (min 240 241) ∧ ((0 : Nat) : Int) = max 0 (min 240 (-1)) :=
  ⟨shipHead_want _ _ (by decide), by decide, by decide⟩

theorem witness_drain :
    let r := ask "RECORD_DRAIN" [("COUNT", 17)]
    let q := ask "RECORD_DRAIN" [("COUNT", 0), ("REWIND", 1)]
    ShipHead "RECORD_DRAIN" r (want "RECORD_DRAIN" [("COUNT", 17)]) ∧
      ShipHead "RECORD_DRAIN" q (want "RECORD_DRAIN" [("COUNT", 0), ("REWIND", 1)]) ∧
      arg "COUNT" r = some 17 ∧ arg "REWIND" r = none ∧ arg "COUNT" q = some 0 ∧
      arg "REWIND" q = some 1 ∧ headSeq sample.rcq = 0 :=
  ⟨shipHead_want _ _ (by decide), shipHead_want _ _ (by decide), by decide, by decide, by decide,
    by decide, by decide⟩

theorem witness_release_behind_head :
    let r := ask "RECORD_RELEASE" [("SEQ", 4294967295)]
    ShipHead "RECORD_RELEASE" r (want "RECORD_RELEASE" [("SEQ", 4294967295)]) ∧
      arg "SEQ" r = some ((0xFFFFFFFF : BitVec 32).toNat : Int) ∧
      2 ^ 31 ≤ ((0xFFFFFFFF : BitVec 32) - headSeq sample.rcq).toNat :=
  ⟨shipHead_want _ _ (by decide), by decide, by decide⟩

theorem witness_release_head :
    let r := ask "RECORD_RELEASE" [("SEQ", 0)]
    ShipHead "RECORD_RELEASE" r (want "RECORD_RELEASE" [("SEQ", 0)]) ∧
      arg "SEQ" r = some ((0 : BitVec 32).toNat : Int) ∧ sample.rcq.records = [sampleRecord] ∧
      (0 : BitVec 32) = sampleRecord.seq ∧ 1 ≤ (sample.rcq.limitSeq - sampleRecord.seq).toNat ∧
      (sample.visitor sampleRecord.index).lifecycle = .attached ∧
      ((0 : BitVec 32) - headSeq sample.rcq).toNat < 2 ^ 31 :=
  ⟨shipHead_want _ _ (by decide), by decide, by decide, by decide, by decide, by decide, by decide⟩

/-- The same visitor CLOSING, with its last record at the head and with one more behind it. -/
theorem witness_release_closing :
    let s := sample.setVisitor 0 { sampleVisitor with lifecycle := .closing }
    let t := s.setRcq { s.rcq with
      records := [sampleRecord, { sampleRecord with seq := 1 }], nextSeq := 2 }
    TableLaw s ∧ (s.visitor sampleRecord.index).lifecycle = .closing ∧
      s.rcq.records = sampleRecord :: [] ∧
      (t.visitor sampleRecord.index).lifecycle = .closing ∧
      t.rcq.records = sampleRecord :: [{ sampleRecord with seq := 1 }] ∧
      ∃ y ∈ [{ sampleRecord with seq := 1 }], y.index = sampleRecord.index := by
  refine ⟨⟨by decide, by decide⟩, by decide, by decide, by decide, by decide, by decide⟩

/-! ## Witnesses: requests on visitors -/

/-- A VISITOR_ADD at the last index, for the last partner and plan, with the greatest tag. -/
def lastAdd (tag : Int) (i : Int) : List (String × Int) :=
  [("INDEX", i), ("TAG", tag), ("PARTNER", 127), ("PLAN", 7)]

theorem witness_visitorAdd :
    let r := ask "VISITOR_ADD" (lastAdd 4294967295 4095)
    ShipHead "VISITOR_ADD" r (want "VISITOR_ADD" (lastAdd 4294967295 4095)) ∧
      arg "INDEX" r = some (((4095 : Fin 4096)).val : Int) ∧
      arg "TAG" r = some ((0xFFFFFFFF : Tag).toNat : Int) ∧ (0xFFFFFFFF : Tag) ≠ 0 ∧
      arg "PARTNER" r = some ((127 : Fin 128).val : Int) ∧ arg "PLAN" r = some ((7 : Fin 8).val : Int) ∧
      (sample.visitor 4095).lifecycle = .free ∧ lookupTag sample 0xFFFFFFFF = none :=
  ⟨shipHead_want _ _ (by decide), by decide, by decide, by decide, by decide, by decide, by decide,
    by decide⟩

theorem witness_visitorAdd_refused :
    (sample.visitor 0).lifecycle ≠ .free ∧ (sample.visitor 4095).lifecycle = .free ∧
      lookupTag sample 5 ≠ none ∧
      ShipHead "VISITOR_ADD" (ask "VISITOR_ADD" (lastAdd 5 0)) (want "VISITOR_ADD" (lastAdd 5 0)) ∧
      ShipHead "VISITOR_ADD" (ask "VISITOR_ADD" (lastAdd 5 4095)) (want "VISITOR_ADD" (lastAdd 5 4095)) :=
  ⟨by decide, by decide, by decide, shipHead_want _ _ (by decide), shipHead_want _ _ (by decide)⟩

theorem witness_visitorRemove :
    let r := ask "VISITOR_REMOVE" [("INDEX", 0)]
    let s := sample.setVisitor 0 { Visitor.freeEntry with lifecycle := .provisioned, tag := 5 }
    ShipHead "VISITOR_REMOVE" r (want "VISITOR_REMOVE" [("INDEX", 0)]) ∧ TableLaw sample ∧
      ShipHead "VISITOR_REMOVE" r (asked r s) ∧ TableLaw s ∧
      arg "INDEX" r = some ((0 : Fin 4096).val : Int) ∧ (s.visitor 0).lifecycle = .provisioned ∧
      (sample.visitor 0).lifecycle = .attached ∧ (sample.visitor 0).openRecord = some sampleOpen ∧
      queuedFor sample.rcq 0 ≠ 0 ∧ queuedFor State.reset.rcq 0 = 0 :=
  ⟨shipHead_want _ _ (by decide), ⟨by decide, by decide⟩, shipHead_asked _ _ _ (by decide) rfl rfl,
    ⟨by decide, by decide⟩, by decide, by decide, by decide, by decide, by decide, by decide⟩

theorem witness_visitorRead :
    let r := ask "VISITOR_READ" [("INDEX", 4095)]
    let s := askedShore r sample
    headRequest s (.shore .sp0) = some r ∧ r.name = nm "VISITOR_READ" ∧
      hasRepeat (r.items.map (fun x => x.name)) = false ∧ portFree s (.shore .sp0) = true ∧
      arg "INDEX" r = some ((4095 : Fin 4096).val : Int) ∧ arg "TAG" r = none := by decide

theorem witness_visitorFigures :
    let r := ask "VISITOR_CREDIT" [("INDEX", 0), ("LIMIT", -1)]
    let q := ask "VISITOR_ALLOW" [("INDEX", 0), ("ALLOWANCE", 4294967296)]
    let z := ask "VISITOR_SETTLE" [("INDEX", 0)]
    ShipHead "VISITOR_CREDIT" r (asked r sample) ∧ ShipHead "VISITOR_ALLOW" q (asked q sample) ∧
      ShipHead "VISITOR_SETTLE" z (asked z sample) ∧ arg "INDEX" r = some ((0 : Fin 4096).val : Int) ∧
      arg "LIMIT" r = some (-1) ∧ arg "ALLOWANCE" q = some 4294967296 ∧
      ((4294967295 : Nat) : Int) = max 0 (min (2 ^ 32 - 1) 4294967296) ∧
      (sample.visitor 0).lifecycle ≠ .free :=
  ⟨shipHead_asked _ _ _ (by decide) rfl rfl, shipHead_asked _ _ _ (by decide) rfl rfl,
    shipHead_asked _ _ _ (by decide) rfl rfl, by decide, by decide, by decide, by decide, by decide⟩

theorem witness_creditStanding : (5 ≤ 5) ∧ (4 < 5 ∧ 4 ≤ 4) ∧ (3 < 5 ∧ 3 < 4) ∧ ((-2 : Int) < -1) := by
  decide

/-! ## Witnesses: tables, paths and settings -/

/-- The greatest region and plan, PRICE and FEE one past their ranges. -/
theorem witness_tariff :
    let r := ask "TARIFF_LOAD" [("REGION", 15), ("PLAN", 7), ("PRICE", 65536), ("FEE", -1), ("BANK", 1)]
    let q := ask "TARIFF_SWITCH" []
    ShipHead "TARIFF_LOAD" r (asked r sample) ∧ ShipHead "TARIFF_SWITCH" q (asked q sample) ∧
      arg "BANK" r = some (bankCode sample.rtu.activeBank.other : Int) ∧ arg "BANK" q = none ∧
      arg "REGION" r = some ((15 : Region).val : Int) ∧ arg "PLAN" r = some ((7 : Fin 8).val : Int) ∧
      arg "PRICE" r = some 65536 ∧ arg "FEE" r = some (-1) :=
  ⟨shipHead_asked _ _ _ (by decide) rfl rfl, shipHead_asked _ _ _ (by decide) rfl rfl, by decide,
    by decide, by decide, by decide, by decide, by decide⟩

theorem witness_planAndPartner :
    let r := ask "PLAN_LOAD" [("PLAN", 7)]
    let q := ask "PARTNER_LOAD" [("PARTNER", 127), ("MULT", 1024), ("POLICY_15", 2), ("HOME_CODE", -1)]
    ShipHead "PLAN_LOAD" r (asked r sample) ∧ ShipHead "PARTNER_LOAD" q (asked q sample) ∧
      arg "PLAN" r = some ((7 : Fin 8).val : Int) ∧ arg "PARTNER" q = some ((127 : Fin 128).val : Int) ∧
      (∀ k : Region, policyBad q k = false) ∧ arg "MULT" q = some 1024 ∧ arg "MULT" r = none ∧
      argK "POLICY_" (15 : Region).val q = some (roamingCode .barred : Int) ∧
      argK "POLICY_" (0 : Region).val q = none ∧ arg "HOME_CODE" q = some (-1) :=
  ⟨shipHead_asked _ _ _ (by decide) rfl rfl, shipHead_asked _ _ _ (by decide) rfl rfl, by decide,
    by decide, by decide, by decide, by decide, by decide, by decide, by decide⟩

theorem witness_pathConfig :
    let r := ask "PATH_CONFIG" [("PATH", 0), ("S", 300)]
    arg "PATH" r = some (Path.sp0.num : Int) ∧ ShipHead "PATH_CONFIG" r (asked r sample) ∧
      kindBad (arg "KIND" r) = false ∧ sample.psl.active = some .sp0 ∧
      (configWritten r (sample.path .sp0).config).surcharge ≠ (sample.path .sp0).config.surcharge ∧
      sample.psl.active ≠ some .sp1 :=
  ⟨by decide, shipHead_asked _ _ _ (by decide) rfl rfl, by decide, by decide, by decide, by decide⟩

/-- Both kinds, one that is refused, and PRESCALE on each side of its steps. -/
theorem witness_configWritten :
    arg "KIND" (ask "PATH_CONFIG" [("KIND", 0)]) = some 0 ∧
      arg "KIND" (ask "PATH_CONFIG" [("KIND", 1)]) = some 1 ∧ arg "KIND" (ask "PATH_CONFIG" []) = none ∧
      kindBad (some 2) = true ∧ arg "PRESCALE" (ask "PATH_CONFIG" []) = none ∧
      (∀ v ∈ [(1 : Int), 2, 4, 5], arg "PRESCALE" (ask "PATH_CONFIG" [("PRESCALE", v)]) = some v) ∧
      ∀ k : Fin 4, (configWritten (ask "PATH_CONFIG" [("PRESCALE", ([1, 2, 4, 5].getD k.val 0 : Nat))])
        PathConfig.powerOn).prescale = [1, 4, 4, 16].getD k.val 0 := by decide

theorem witness_pathEnable :
    let r := ask "PATH_ENABLE" [("PATH", 3)]
    let s := sample.setPath .sp3 { sample.path .sp3 with state := .test }
    arg "PATH" r = some (Path.sp3.num : Int) ∧ ShipHead "PATH_ENABLE" r (asked r sample) ∧
      ShipHead "PATH_ENABLE" r (asked r s) ∧ (sample.path .sp3).state = .disabled ∧
      (s.path .sp3).state = .test ∧ (sample.path .sp0).state ≠ .disabled ∧
      (sample.path .sp0).state ≠ .test :=
  ⟨by decide, shipHead_asked _ _ _ (by decide) rfl rfl, shipHead_asked _ _ _ (by decide) rfl rfl,
    by decide, by decide, by decide, by decide⟩

theorem witness_pathSurvey :
    let r := ask "PATH_SURVEY" [("PATH", 0)]
    let s := sample.setPath .sp0 { sample.path .sp0 with gap := some 1 }
    let u := sample.setPath .sp0 { sample.path .sp0 with survey := .inFlight lastProbeOwed }
    arg "PATH" r = some (Path.sp0.num : Int) ∧ ShipHead "PATH_SURVEY" r (asked r sample) ∧
      ShipHead "PATH_SURVEY" r (asked r s) ∧ ShipHead "PATH_SURVEY" r (asked r u) ∧
      (sample.path .sp0).state = .up ∧ surveyInFlight (sample.path .sp0) = false ∧
      (sample.path .sp0).gap = none ∧ (s.path .sp0).gap ≠ none ∧
      surveyInFlight (u.path .sp0) = true ∧ (sample.path .sp2).state ≠ .up :=
  ⟨by decide, shipHead_asked _ _ _ (by decide) rfl rfl, shipHead_asked _ _ _ (by decide) rfl rfl,
    shipHead_asked _ _ _ (by decide) rfl rfl, by decide, by decide, by decide, by decide, by decide,
    by decide⟩

theorem witness_pathTest :
    let r := ask "PATH_TEST" [("PATH", 2)]
    let s := sample.setPath .sp2 { sample.path .sp2 with state := .test }
    arg "PATH" r = some (Path.sp2.num : Int) ∧ ShipHead "PATH_TEST" r (asked r sample) ∧
      ShipHead "PATH_TEST" r (asked r s) ∧ (sample.path .sp2).state = .disabled ∧
      (s.path .sp2).state = .test ∧ ((opening 1).path .sp2).state = .opening :=
  ⟨by decide, shipHead_asked _ _ _ (by decide) rfl rfl, shipHead_asked _ _ _ (by decide) rfl rfl,
    by decide, by decide, by decide⟩

theorem witness_selectorSettings :
    let r := ask "SELECT_CONFIG" [("CONFIRM", 1)]
    let q := ask "PATH_PIN" [("PATH", -1)]
    ShipHead "SELECT_CONFIG" r (asked r sample) ∧ (arg "CONFIRM" r).isSome = true ∧
      ShipHead "PATH_PIN" q (asked q sample) ∧ arg "PATH" q = some (pathCode none) :=
  ⟨shipHead_asked _ _ _ (by decide) rfl rfl, by decide, shipHead_asked _ _ _ (by decide) rfl rfl,
    by decide⟩

theorem witness_reseqConfig :
    let r := ask "RESEQ_CONFIG" [("GAP_HOLD", 256)]
    let q := ask "RESEQ_CONFIG" [("RESYNC", 1)]
    ShipHead "RESEQ_CONFIG" r (asked r sample) ∧ arg "RESYNC" r = none ∧
      ShipHead "RESEQ_CONFIG" q (asked q sample) ∧ arg "RESYNC" q = some 1 ∧
      sample.drs.locked = true :=
  ⟨shipHead_asked _ _ _ (by decide) rfl rfl, by decide, shipHead_asked _ _ _ (by decide) rfl rfl,
    by decide, by decide⟩

theorem witness_cellConfig :
    let r := ask "CELL_CONFIG" [("CELL", 0), ("ENABLE", 0), ("BACKUP", 15)]
    ShipHead "CELL_CONFIG" r (asked r sample) ∧ arg "CELL" r = some ((0 : Cell).val : Int) ∧
      backupBad (arg "BACKUP" r) = false ∧ arg "BACKUP" r = some (cellCode (some 15)) ∧
      (sample.cell 0).enable = true ∧ clampedBool (sample.cell 0).enable (arg "ENABLE" r) = false ∧
      (sample.cell 0).state = .serving ∧ 0 < (sample.cell 0).activeLevel :=
  ⟨shipHead_asked _ _ _ (by decide) rfl rfl, by decide, by decide, by decide, by decide, by decide,
    by decide, by decide⟩

theorem witness_grantConfig :
    ShipHead "GRANT_CONFIG" (ask "GRANT_CONFIG" [("HB_TIMEOUT", 1), ("GRANT_PERIOD", 2551)])
      (want "GRANT_CONFIG" [("HB_TIMEOUT", 1), ("GRANT_PERIOD", 2551)]) :=
  shipHead_want _ _ (by decide)

/-! ## Witnesses: control, notices and restart -/

theorem witness_clockSet :
    let r := ask "CLOCK_SET" [("SECONDS", 4294967296)]
    ShipHead "CLOCK_SET" r (asked r sample) ∧ arg "SECONDS" r = some 4294967296 ∧
      ((0xFFFFFFFF : BitVec 32).toNat : Int) = max 0 (min (2 ^ 32 - 1) 4294967296) :=
  ⟨shipHead_asked _ _ _ (by decide) rfl rfl, by decide, by decide⟩

theorem witness_statusRead :
    let r := ask "STATUS_READ" [("GROUP", 33)]
    let q := ask "STATUS_READ" []
    headRequest (asked r sample) .ship = some r ∧ portFree (asked r sample) .ship = true ∧
      r.name = nm "STATUS_READ" ∧ hasRepeat (r.items.map (fun x => x.name)) = false ∧
      (arg "GROUP" r).getD 0 = ((33 : Fin 34).val : Int) ∧
      headRequest (askedShore q sample) (.shore .sp0) = some q ∧
      portFree (askedShore q sample) (.shore .sp0) = true ∧ (arg "GROUP" q).getD 0 = 0 := by decide

theorem witness_notices :
    let r := ask "NOTICE_ARM" [("CREDIT", 1)]
    let q := ask "NOTICE_CLEAR" [("CREDIT", 1)]
    let z := ask "CREDIT_LIST_READ" [("COUNT", 17)]
    let s := sample.setNtu { sample.ntu with creditList := List.range 17 }
    ShipHead "NOTICE_ARM" r (asked r sample) ∧ ShipHead "NOTICE_CLEAR" q (asked q sample) ∧
      ShipHead "CREDIT_LIST_READ" z (asked z s) ∧
      ((16 : Nat) : Int) = max 1 (min 16 ((arg "COUNT" z).getD 16)) ∧ 16 < s.ntu.creditList.length ∧
      sample.ntu.creditList.length ≤ 16 :=
  ⟨shipHead_asked _ _ _ (by decide) rfl rfl, shipHead_asked _ _ _ (by decide) rfl rfl,
    shipHead_asked _ _ _ (by decide) rfl rfl, by decide, by decide, by decide⟩

theorem witness_unknownAndForeign :
    let r := ask "NO_SUCH_REQUEST" []
    let q := ask "PART_RESTART" []
    headRequest (asked r sample) .ship = some r ∧ portFree (asked r sample) .ship = true ∧
      r.name ∉ requestNames ∧ headRequest (askedShore q sample) (.shore .sp0) = some q ∧
      portFree (askedShore q sample) (.shore .sp0) = true ∧
      q.name = nm "PART_RESTART" ∧ ("PART_RESTART", Instr.partRestart (.shore .sp0)) ∈ shipOnly .sp0 ∧
      headRequest (askedShore r sample) (.shore .sp0) = some r := by decide

theorem witness_partRestart :
    ShipHead "PART_RESTART" (ask "PART_RESTART" []) (want "PART_RESTART" []) ∧
      BufferLaw (want "PART_RESTART" []) :=
  ⟨shipHead_want _ _ (by decide), by decide, sample_bufferLaw.2.1, sample_bufferLaw.2.2.1, by decide⟩

/-- Each class of path at the restart: DISABLED, TEST, and others with and without carrier. -/
theorem witness_partRestart_paths :
    let s := sample.setPath .sp1 { sample.path .sp1 with state := .test }
    (sample.path .sp2).state = .disabled ∧ (s.path .sp1).state = .test ∧
      (sample.path .sp0).state ≠ .disabled ∧ (sample.path .sp0).state ≠ .test ∧
      (sample.port .sp0).carrier = true ∧ ((opening 1).path .sp2).state ≠ .disabled ∧
      ((opening 1).path .sp2).state ≠ .test ∧ ((opening 1).port .sp2).carrier = false := by decide

/-- A restart whose pass stands at an index. -/
def passAt (n : Nat) : RestartRun :=
  { nextIndex := n, tag := 7, ignoredItem := false, queued := 0, spilled := 0 }

theorem witness_restartPass :
    let s := sample.setCfu { sample.cfu with restart := some (passAt 0) }
    let p := s.setVisitor 0 { Visitor.freeEntry with lifecycle := .provisioned, tag := 5 }
    let e := sample.setCfu { sample.cfu with restart := some (passAt 1) }
    s.cfu.restart = some (passAt 0) ∧ nextRestartEntry 0 s = some 0 ∧
      lifecycleOpen (s.visitor 0).lifecycle = true ∧ (s.visitor 0).openRecord = some sampleOpen ∧
      p.cfu.restart = some (passAt 0) ∧ nextRestartEntry 0 p = some 0 ∧
      (p.visitor 0).lifecycle = .provisioned ∧ (p.visitor 0).openRecord = none ∧
      e.cfu.restart = some (passAt 1) ∧ nextRestartEntry 1 e = none := by decide

/-- Records of the pass that agree with the conditions, with room and none in the queue, and without traffic; and that
differ in zone, in path and in price alone. -/
theorem witness_restartClose :
    let s := sample.setCfu { sample.cfu with restart := some (passAt 0) }
    let w := { s.visitor 0 with roaming := roamingNow s (s.visitor 0).partner }
    sampleOpen.zone = s.znu.current ∧ sampleOpen.path = s.psl.active ∧
      sampleOpen.priceEff = priceNow s w ∧ holdsTraffic sampleOpen = true ∧ held s.rcq < 1024 ∧
      holdsTraffic { sampleOpen with pktsUp := 0, pktsDown := 0, feeCharged := 0 } = false ∧
      ({ sampleOpen with zone := none } : OpenRecord).zone ≠ s.znu.current ∧
      ({ sampleOpen with path := some .sp1 } : OpenRecord).path ≠ s.psl.active ∧
      ({ sampleOpen with priceEff := 4095 } : OpenRecord).priceEff ≠ priceNow s w := by decide

end Sys2Proof.Tests
end

section
/-! SUPPORT. What the conservation of buffers (R7) reads of a state, as a view of its own: the free count, the
transmit queues, the active path, the ship egress queue and the resequencer's slots; and what each way of moving a
packet does to the law on that view. -/

namespace Sys2Proof.Machine

/-! ## The view and its law -/

/-- What the conservation of buffers reads of a state. -/
structure BufferView where
  free : Nat
  queue : Path → List UplinkEntry
  active : Option Path
  egress : List EgressEntry
  slots : List Held

def bufferView (s : State) : BufferView :=
  { free := s.freeBuffers, queue := fun p => (s.port p).txQueue, active := s.psl.active,
    egress := s.shi.egress, slots := s.drs.slots }

/-- The packets in the four transmit queues. -/
def queuedPackets (q : Path → List UplinkEntry) : Nat :=
  (q .sp0).length + (q .sp1).length + (q .sp2).length + (q .sp3).length

/-- BufferLaw on the view, in the middle of a step that has k packets in hand: each holds a buffer and stands in
no queue (R7). -/
def BufferView.Law (k : Nat) (v : BufferView) : Prop :=
  v.free + k + (queuedPackets v.queue + v.egress.length + v.slots.length) = Config.poolSize ∧
  (∀ p : Path, v.active ≠ some p → v.queue p = []) ∧
  (∀ p : Path, (v.queue p).length ≤ Config.transmitQueueSize) ∧
  v.egress.length ≤ Config.egressQueueSize

/-- Between steps no packet is in hand. -/
theorem bufferLaw_iff {s : State} : BufferLaw s ↔ (bufferView s).Law 0 := Iff.rfl

theorem BufferLaw.of_view {s t : State} (h : BufferLaw s) (e : bufferView t = bufferView s) :
    BufferLaw t := by
  rw [bufferLaw_iff, e]; exact h

/-! ## Counting the queues -/

theorem queuedPackets_update (q : Path → List UplinkEntry) (p : Path) (x : List UplinkEntry) :
    queuedPackets (Function.update q p x) + (q p).length = queuedPackets q + x.length := by
  cases p <;> simp [queuedPackets] <;> omega

namespace BufferView

variable {k : Nat} {v : BufferView}

/-- With no active path no packet is queued for the shore (R129). -/
theorem Law.queue_of_inactive (h : v.Law k) (ha : v.active = none) (p : Path) : v.queue p = [] := by
  obtain ⟨-, hactive, -⟩ := h
  exact hactive p (by simp [ha])

/-- A path that queues a packet is the active one (R129). -/
theorem Law.active_of_queue (h : v.Law k) {p : Path} (hq : v.queue p ≠ []) : v.active = some p := by
  obtain ⟨-, hactive, -⟩ := h
  exact Classical.not_not.1 fun hn => hq (hactive p hn)

/-- Every queue is empty once the active path's is (R129). -/
theorem Law.queue_cleared {a : Path} (h : v.Law k) (ha : v.active = some a) (p : Path) :
    Function.update v.queue a [] p = [] := by
  obtain ⟨-, hactive, -⟩ := h
  by_cases hpa : p = a
  · simp [hpa]
  · simpa [hpa] using hactive p (by simpa [ha] using Ne.symm hpa)

/-! ## Moves of a packet between the pool, the queues and the hand -/

/-- A packet in hand is given up. -/
theorem Law.giveBack (h : v.Law (k + 1)) : Law k { v with free := v.free + 1 } := by
  obtain ⟨hsum, hrest⟩ := h
  exact ⟨by dsimp only; omega, hrest⟩

/-- A packet is accepted and takes a buffer (R6). -/
theorem Law.take (h : v.Law k) (hf : v.free ≠ 0) : Law (k + 1) { v with free := v.free - 1 } := by
  obtain ⟨hsum, hrest⟩ := h
  exact ⟨by dsimp only; omega, hrest⟩

/-- The resequencer lets packets go or takes them from the hand. -/
theorem Law.setSlots {j : Nat} {l : List Held} (h : v.Law k)
    (hl : j + l.length = k + v.slots.length) : Law j { v with slots := l } := by
  obtain ⟨hsum, hrest⟩ := h
  exact ⟨by dsimp only; omega, hrest⟩

/-- A packet in hand joins the ship egress queue (R9). -/
theorem Law.joinEgress (h : v.Law (k + 1)) (e : EgressEntry)
    (hr : v.egress.length < Config.egressQueueSize) :
    Law k { v with egress := v.egress ++ [e] } := by
  obtain ⟨hsum, hactive, hqueue, -⟩ := h
  exact ⟨by simp only [List.length_append, List.length_singleton]; omega, hactive, hqueue,
    by simpa using hr⟩

/-- The head of the ship egress queue is sent (R15). -/
theorem Law.leaveEgress {e : EgressEntry} {left : List EgressEntry} (h : v.Law k)
    (he : v.egress = e :: left) : Law k { v with free := v.free + 1, egress := left } := by
  obtain ⟨hsum, hactive, hqueue, hegress⟩ := h
  rw [he, List.length_cons] at hsum hegress
  exact ⟨by dsimp only; omega, hactive, hqueue, by dsimp only; omega⟩

/-- A packet joins the active path's transmit queue (R8, R10). -/
theorem Law.enqueue {p : Path} (h : v.Law (k + 1)) (ha : v.active = some p) (e : UplinkEntry)
    (hr : (v.queue p).length < Config.transmitQueueSize) :
    Law k { v with queue := Function.update v.queue p (v.queue p ++ [e]) } := by
  obtain ⟨hsum, hactive, hqueue, hegress⟩ := h
  have hcount := queuedPackets_update v.queue p (v.queue p ++ [e])
  rw [List.length_append, List.length_singleton] at hcount
  refine ⟨by dsimp only; omega, fun q hq => ?_, fun q => ?_, hegress⟩
  · have hne : q ≠ p := by rintro rfl; exact hq ha
    simpa [hne] using hactive q hq
  · by_cases hqp : q = p
    · subst hqp; simpa using hr
    · simpa [hqp] using hqueue q

/-- The head of a transmit queue is taken and its buffer returned (R11). -/
theorem Law.dequeue {p : Path} {e : UplinkEntry} {left : List UplinkEntry} (h : v.Law k)
    (he : v.queue p = e :: left) :
    Law k { v with free := v.free + 1, queue := Function.update v.queue p left } := by
  have ha : v.active = some p := h.active_of_queue (by simp [he])
  obtain ⟨hsum, hactive, hqueue, hegress⟩ := h
  have hcount := queuedPackets_update v.queue p left
  have hlen := hqueue p
  rw [he, List.length_cons] at hcount hlen
  refine ⟨by dsimp only; omega, fun q hq => ?_, fun q => ?_, hegress⟩
  · have hne : q ≠ p := by rintro rfl; exact hq ha
    simpa [hne] using hactive q hq
  · by_cases hqp : q = p
    · subst hqp; simp; omega
    · simpa [hqp] using hqueue q

/-! ## Changes of the active path -/

/-- With every queue empty any path may become the active one (R139). -/
theorem Law.activate (h : v.Law k) (ha : v.active = none) (b : Path) :
    Law k { v with active := some b } := by
  have hempty := h.queue_of_inactive ha
  obtain ⟨hsum, -, hbounds⟩ := h
  exact ⟨hsum, fun p _ => hempty p, hbounds⟩

/-- The whole queue of the path left goes with the swap (R16). -/
theorem Law.swap {a : Path} (h : v.Law k) (ha : v.active = some a) (b : Path) :
    Law k { v with
      active := some b
      queue := Function.update (Function.update v.queue a []) b (v.queue a) } := by
  have hempty := h.queue_cleared ha
  obtain ⟨hsum, -, hqueue, hegress⟩ := h
  have hout := queuedPackets_update v.queue a []
  have hin := queuedPackets_update (Function.update v.queue a []) b (v.queue a)
  rw [hempty b] at hin
  rw [List.length_nil] at hout hin
  refine ⟨by dsimp only; omega, fun q hq => ?_, fun q => ?_, hegress⟩
  · have hne : q ≠ b := by rintro rfl; exact hq rfl
    simpa [hne] using hempty q
  · by_cases hqb : q = b
    · subst hqb; simpa using hqueue a
    · simp [hqb, hempty q]

/-- The queue of the path left is given up with no path to take it (R16, R137). -/
theorem Law.flush {a : Path} (h : v.Law k) (ha : v.active = some a) :
    Law k { v with
      free := v.free + (v.queue a).length
      queue := Function.update v.queue a []
      active := none } := by
  have hempty := h.queue_cleared ha
  obtain ⟨hsum, -, -, hegress⟩ := h
  have hcount := queuedPackets_update v.queue a []
  rw [List.length_nil] at hcount
  exact ⟨by dsimp only; omega, fun q _ => hempty q, fun q => by simp [hempty q], hegress⟩

end BufferView

end Sys2Proof.Machine
end

section
/-! SUPPORT. The operations that move no packet leave the view of the buffers as it stands, one lemma per
operation. -/

namespace Sys2Proof.Machine

variable {s : State}

/-! ## One field -/

@[simp] theorem bufferView_setUplinkSeq (x : BitVec 16) :
    bufferView (s.setUplinkSeq x) = bufferView s := rfl
@[simp] theorem bufferView_setVtb (x : Vtb) : bufferView (s.setVtb x) = bufferView s := rfl
@[simp] theorem bufferView_setRtu (x : Rtu) : bufferView (s.setRtu x) = bufferView s := rfl
@[simp] theorem bufferView_setRcq (x : Rcq) : bufferView (s.setRcq x) = bufferView s := rfl
@[simp] theorem bufferView_setRse (x : Rse) : bufferView (s.setRse x) = bufferView s := rfl
@[simp] theorem bufferView_setZnu (x : Znu) : bufferView (s.setZnu x) = bufferView s := rfl
@[simp] theorem bufferView_setPsv (x : PerPath Psv) : bufferView (s.setPsv x) = bufferView s := rfl
@[simp] theorem bufferView_setCvu (x : Cvu) : bufferView (s.setCvu x) = bufferView s := rfl
@[simp] theorem bufferView_setCfu (x : Cfu) : bufferView (s.setCfu x) = bufferView s := rfl
@[simp] theorem bufferView_setNtu (x : Ntu) : bufferView (s.setNtu x) = bufferView s := rfl
@[simp] theorem bufferView_setClocks (x : Clocks) : bufferView (s.setClocks x) = bufferView s := rfl
@[simp] theorem bufferView_setPending (x : List Instr) :
    bufferView (s.setPending x) = bufferView s := rfl
@[simp] theorem bufferView_setPath (p : Path) (x : Psv) :
    bufferView (s.setPath p x) = bufferView s := rfl
@[simp] theorem bufferView_modPath (p : Path) (f : Psv → Psv) :
    bufferView (s.modPath p f) = bufferView s := rfl
@[simp] theorem bufferView_setCell (c : Cell) (x : CellHead) :
    bufferView (s.setCell c x) = bufferView s := rfl
@[simp] theorem bufferView_setVisitor (i : Nat) (x : Visitor) :
    bufferView (s.setVisitor i x) = bufferView s := rfl
@[simp] theorem bufferView_countShip (f : ShipCounters → ShipCounters) :
    bufferView (s.countShip f) = bufferView s := rfl

theorem bufferView_returnBuffers (n : Nat) :
    bufferView (s.returnBuffers n) = { bufferView s with free := s.freeBuffers + n } := rfl

theorem bufferView_takeBuffer :
    bufferView s.takeBuffer = { bufferView s with free := s.freeBuffers - 1 } := rfl

theorem bufferView_setShi (x : Shi) :
    bufferView (s.setShi x) = { bufferView s with egress := x.egress } := rfl

theorem bufferView_setPsl (x : Psl) :
    bufferView (s.setPsl x) = { bufferView s with active := x.active } := rfl

theorem bufferView_setDrs (x : Drs) :
    bufferView (s.setDrs x) = { bufferView s with slots := x.slots } := rfl

theorem bufferView_setPort (p : Path) (x : ShorePort) :
    bufferView (s.setPort p x) =
      { bufferView s with queue := Function.update (bufferView s).queue p x.txQueue } := by
  have hq : (fun q => ((s.setPort p x).port q).txQueue) =
      Function.update (fun q => (s.port q).txQueue) p x.txQueue := by
    funext q
    by_cases hqp : q = p
    · subst hqp; simp
    · simp [hqp]
  exact congrArg (fun q => { bufferView s with queue := q }) hq

@[simp] theorem bufferView_setShi_same {x : Shi} (h : x.egress = s.shi.egress) :
    bufferView (s.setShi x) = bufferView s := by rw [bufferView_setShi, h]; rfl

@[simp] theorem bufferView_setPsl_same {x : Psl} (h : x.active = s.psl.active) :
    bufferView (s.setPsl x) = bufferView s := by rw [bufferView_setPsl, h]; rfl

@[simp] theorem bufferView_setDrs_same {x : Drs} (h : x.slots = s.drs.slots) :
    bufferView (s.setDrs x) = bufferView s := by rw [bufferView_setDrs, h]; rfl

@[simp] theorem bufferView_setPort_same {p : Path} {x : ShorePort}
    (h : x.txQueue = (s.port p).txQueue) : bufferView (s.setPort p x) = bufferView s := by
  rw [bufferView_setPort, h]
  exact congrArg (fun q => { bufferView s with queue := q })
    (Function.update_eq_self p (bufferView s).queue)

@[simp] theorem bufferView_modPort_same {p : Path} {f : ShorePort → ShorePort}
    (h : (f (s.port p)).txQueue = (s.port p).txQueue) :
    bufferView (s.modPort p f) = bufferView s := bufferView_setPort_same h

@[simp] theorem bufferView_countShore (p : Path) (f : ShoreCounters → ShoreCounters) :
    bufferView (s.countShore p f) = bufferView s := bufferView_setPort_same rfl

/-! ## Visitors, records and flags -/

@[simp] theorem bufferView_raiseNotice (x : Source) :
    bufferView (raiseNotice x s) = bufferView s := rfl
@[simp] theorem bufferView_bulkReview : bufferView (bulkReview s) = bufferView s := by
  simp [bufferView, State.port]
@[simp] theorem bufferView_bulkClose : bufferView (bulkClose s) = bufferView s := by
  simp [bufferView, State.port]
@[simp] theorem bufferView_partnerReview (n : Fin 128) :
    bufferView (partnerReview n s) = bufferView s := by simp [bufferView, State.port]
@[simp] theorem bufferView_refreshEngine : bufferView (refreshEngine s) = bufferView s := by
  simp [bufferView, State.port]
@[simp] theorem bufferView_attach (i : Nat) : bufferView (attach i s) = bufferView s := by
  simp [bufferView, State.port]
@[simp] theorem bufferView_becomeFree (i : Nat) : bufferView (becomeFree i s) = bufferView s := by
  simp [bufferView, State.port]
@[simp] theorem bufferView_closeRecord (i : Nat) (why : CloseReason) :
    bufferView (closeRecord i why s).1 = bufferView s := by simp [bufferView, State.port]
@[simp] theorem bufferView_review (i : Nat) : bufferView (review i s) = bufferView s := by
  simp [bufferView, State.port]
@[simp] theorem bufferView_clearMarks (i : Nat) : bufferView (clearMarks i s) = bufferView s := rfl
@[simp] theorem bufferView_owedWork (i : Nat) : bufferView (owedWork i s) = bufferView s := by
  simp [bufferView, State.port]
@[simp] theorem bufferView_blockPacket (i : Nat) (why : Refused) :
    bufferView (blockPacket i why s) = bufferView s := by simp [bufferView, State.port]
@[simp] theorem bufferView_charge (i n : Nat) (d : Direction) :
    bufferView (charge i n d s).1 = bufferView s := by simp [bufferView, State.port]

@[simp] theorem bufferView_releaseEntry (i : Nat) (r : OpenRecord) :
    bufferView (releaseEntry i r s) = bufferView s := by
  unfold releaseEntry; dsimp only; split <;> simp

@[simp] theorem bufferView_releaseRecords : ∀ (n : Nat) (s : State),
    bufferView (releaseRecords n s) = bufferView s
  | 0, _ => rfl
  | n + 1, s => by
    unfold releaseRecords
    split
    · rfl
    · rw [bufferView_releaseRecords n, releaseHead]; simp

@[simp] theorem bufferView_cursorForward (old : Rcq) (n : Nat) :
    bufferView (cursorForward old n s) = bufferView s := by
  unfold cursorForward; split <;> simp

@[simp] theorem bufferView_removeClosing (i : Nat) :
    bufferView (removeClosing i s).1 = bufferView s := by simp [removeClosing]

@[simp] theorem bufferView_removeSettled (i : Nat) :
    bufferView (removeSettled i s) = bufferView s := by
  unfold removeSettled; split <;> simp

/-! ## Coverage -/

@[simp] theorem bufferView_retarget : bufferView (retarget s) = bufferView s := rfl
@[simp] theorem bufferView_heartbeat (c : Cell) (level : Nat) :
    bufferView (heartbeat c level s) = bufferView s := by simp [bufferView, State.port]
@[simp] theorem bufferView_heartbeatLoss (c : Cell) :
    bufferView (heartbeatLoss c s) = bufferView s := by simp [bufferView, State.port]
@[simp] theorem bufferView_countSubstitution (b : Bool) :
    bufferView (countSubstitution b s) = bufferView s := by simp [bufferView, State.port]

/-! ## Due frames, paths and the selector's timers -/

@[simp] theorem bufferView_makeDue (p : Path) (d : Due) :
    bufferView (makeDue p d s) = bufferView s := bufferView_setPort_same rfl
@[simp] theorem bufferView_withdrawDue (p : Path) (f : Due → Bool) :
    bufferView (withdrawDue p f s) = bufferView s := bufferView_setPort_same rfl
@[simp] theorem bufferView_withdrawPathSwap :
    bufferView (withdrawPathSwap s) = bufferView s := by simp [withdrawPathSwap, Path.all]
@[simp] theorem bufferView_cleanUp (g : Bool) (p : Path) :
    bufferView (cleanUp g p s) = bufferView s := by simp [cleanUp]
@[simp] theorem bufferView_computeCandidate :
    bufferView (computeCandidate s) = bufferView s := bufferView_setPsl_same rfl
@[simp] theorem bufferView_closeDrain (p : Path) :
    bufferView (closeDrain p s) = bufferView s := bufferView_setPsl_same rfl
@[simp] theorem bufferView_clearConfirm : bufferView (clearConfirm s) = bufferView s :=
  bufferView_setPsl_same rfl

@[simp] theorem bufferView_drainIfUp (p : Path) : bufferView (drainIfUp p s) = bufferView s := by
  unfold drainIfUp; split
  · exact bufferView_setPsl_same rfl
  · rfl

@[simp] theorem bufferView_swapDrain (a : Option Path) (b : Path) :
    bufferView (swapDrain a b s) = bufferView s := by cases a <;> simp [swapDrain]

@[simp] theorem bufferView_startSurvey (p : Path) :
    bufferView (startSurvey p s) = bufferView s := by simp [startSurvey]

@[simp] theorem bufferView_startOrDefer (p : Path) :
    bufferView (startOrDefer p s) = bufferView s := by
  unfold startOrDefer; split <;> simp

@[simp] theorem bufferView_countIgnored (p : Path) :
    bufferView (countIgnored p s) = bufferView s := rfl

@[simp] theorem bufferView_countStray (p : Path) :
    bufferView (countStray p s) = bufferView s := rfl

@[simp] theorem bufferView_acceptArrives (p : Path) :
    bufferView (acceptArrives p s) = bufferView s := by
  unfold acceptArrives; split <;> simp

@[simp] theorem bufferView_answerProbe (p : Path) (id : BitVec 8) (value : BitVec 32) :
    bufferView (answerProbe p id value s) = bufferView s := by
  unfold answerProbe; split <;> simp

@[simp] theorem bufferView_probeArrives (p : Path) (id : BitVec 8) (value : BitVec 32) :
    bufferView (probeArrives p id value s) = bufferView s := by
  unfold probeArrives; (repeat' split) <;> simp

@[simp] theorem bufferView_pathOpenDue (p : Path) :
    bufferView (pathOpenDue p s) = bufferView s := by
  unfold pathOpenDue; split <;> simp

@[simp] theorem bufferView_settleExpiry (p : Path) :
    bufferView (settleExpiry p s) = bufferView s := by simp [settleExpiry]

@[simp] theorem bufferView_openExpiry (p : Path) :
    bufferView (openExpiry p s) = bufferView s := by
  unfold openExpiry; split <;> simp

@[simp] theorem bufferView_surveyNext (p : Path) (run : SurveyRun) :
    bufferView (surveyNext p run s) = bufferView s := by
  unfold surveyNext; split <;> simp

@[simp] theorem bufferView_probeExpiry (p : Path) :
    bufferView (probeExpiry p s) = bufferView s := by
  unfold probeExpiry; dsimp only; split <;> simp

@[simp] theorem bufferView_idleExpiry (p : Path) :
    bufferView (idleExpiry p s) = bufferView s := by
  unfold idleExpiry; dsimp only; split <;> simp

@[simp] theorem bufferView_gapEnd (p : Path) : bufferView (gapEnd p s) = bufferView s := by
  unfold gapEnd; dsimp only; (repeat' split) <;> simp

@[simp] theorem bufferView_carrierArrives (p : Path) :
    bufferView (carrierArrives p s) = bufferView s := by
  unfold carrierArrives; dsimp only; split <;> simp

@[simp] theorem bufferView_portLosesCarrier (p : Path) :
    bufferView (s.modPort p portLosesCarrier) = bufferView s := bufferView_modPort_same rfl

@[simp] theorem bufferView_enablePath (p : Path) :
    bufferView (enablePath p s) = bufferView s := by
  unfold enablePath; split <;> simp

@[simp] theorem bufferView_pathRestart (p : Path) :
    bufferView (pathRestart p s) = bufferView s := by
  unfold pathRestart; split <;> simp

/-! ## The transmitters -/

@[simp] theorem bufferView_shoreSend (p : Path) (body : List Byte) :
    bufferView (shoreSend p body s) = bufferView s := by rw [shoreSend_eq]; simp

@[simp] theorem bufferView_takeSupervision (p : Path) (d : Due) (left : List Due) :
    bufferView (takeSupervision p d left s) = bufferView s := by simp [takeSupervision]

@[simp] theorem bufferView_takeShoreReply (p : Path) (r : Reply) :
    bufferView (takeShoreReply p r s) = bufferView s := by simp [takeShoreReply]

@[simp] theorem bufferView_sendData (p : Path) (e : UplinkEntry) :
    bufferView (sendData p e s) = bufferView s := by simp [sendData]

@[simp] theorem bufferView_takeAdmitted (p : Path) (i : Nat) (e : UplinkEntry) :
    bufferView (takeAdmitted p i e s) = bufferView s := by
  unfold takeAdmitted
  split
  · simp
  · dsimp only; split <;> simp

@[simp] theorem bufferView_shipSend (dst : Option Mac) (own : Bool) (body : List Byte) :
    bufferView (shipSend dst own body s) = bufferView s := bufferView_setShi_same rfl

@[simp] theorem bufferView_takeGrant (c : Cell) : bufferView (takeGrant c s) = bufferView s := by
  simp [takeGrant]

@[simp] theorem bufferView_takeShipReply (r : Reply) :
    bufferView (takeShipReply r s) = bufferView s := by simp [takeShipReply]

@[simp] theorem bufferView_takeNotice (x : Source) :
    bufferView (takeNotice x s) = bufferView s := by simp [takeNotice]

/-! ## Requests and their replies -/

@[simp] theorem bufferView_offerShip (r : Request) :
    bufferView (offerShip r s) = bufferView s := by
  unfold offerShip; split <;> simp

@[simp] theorem bufferView_offerShore (p : Path) (r : Request) :
    bufferView (offerShore p r s) = bufferView s := by
  unfold offerShore; split <;> simp

@[simp] theorem bufferView_dropRequest (port : Port) :
    bufferView (dropRequest port s) = bufferView s := by cases port <;> simp [dropRequest]

@[simp] theorem bufferView_placeReply (port : Port) (x : Reply) :
    bufferView (placeReply port x s) = bufferView s := by cases port <;> simp [placeReply]

@[simp] theorem bufferView_recordFault (port : Port) (r : Request) (why : Reason) :
    bufferView (recordFault port r why s) = bufferView s := rfl

/-! ## Time -/

@[simp] theorem bufferView_tickTimers : bufferView (tickTimers s) = bufferView s := rfl

@[simp] theorem bufferView_checkGapTimer : bufferView (checkGapTimer s) = bufferView s := by
  rw [checkGapTimer_eq]; exact bufferView_setDrs_same rfl

end Sys2Proof.Machine
end

section
/-! SUPPORT. The operations that move packets keep the conservation of buffers: the resequencer and the delivery run
(R13, R14, R148 to R152), the transmitters (R10, R11, R15), the selector's swaps (R16, R134 to R140), and the events
of the other blocks that end in a swap. -/

namespace Sys2Proof.Machine

variable {s : State}

/-! ## The delivery of a packet in hand -/

/-- What a delivery does to the buffers: the packet's buffer is returned, or the packet joins the ship egress queue
where it has room (R14). -/
def BufferView.Delivered (v w : BufferView) : Prop :=
  w = { v with free := v.free + 1 } ∨
    v.egress.length < Config.egressQueueSize ∧ ∃ e : EgressEntry, w = { v with egress := v.egress ++ [e] }

theorem BufferView.Law.delivered {k : Nat} {v w : BufferView} (h : v.Law (k + 1))
    (hd : v.Delivered w) : w.Law k := by
  obtain rfl | ⟨hr, e, rfl⟩ := hd
  · exact h.giveBack
  · exact h.joinEgress e hr

theorem deliverCharged_delivered (i : Nat) (h : Held) (c : Cell) (s : State) :
    (bufferView s).Delivered (bufferView (deliverCharged i h c s)) := by
  unfold deliverCharged
  split
  · exact .inl rfl
  · next hroom =>
    have hc : bufferView (charge i h.length .down s).1 = bufferView s := bufferView_charge i _ _
    dsimp only
    split
    · refine .inr ⟨Nat.lt_of_not_le hroom,
        { packet := h.packet, tag := h.tag, length := h.length, cell := c }, ?_⟩
      rw [bufferView_setShi, hc, charge_shi]
      rfl
    · refine .inl ?_
      rw [bufferView_returnBuffers, hc, charge_freeBuffers]
      rfl

theorem refuseHeld_delivered (i : Nat) (why : Refused) (s : State) :
    (bufferView s).Delivered (bufferView (refuseHeld i why s)) := by
  refine .inl ?_
  rw [refuseHeld, bufferView_returnBuffers, bufferView_blockPacket, blockPacket_freeBuffers]
  rfl

theorem deliverTo_delivered (i : Nat) (h : Held) (s : State) :
    (bufferView s).Delivered (bufferView (deliverTo i h s)) := by
  unfold deliverTo
  split
  · exact refuseHeld_delivered i _ s
  · split
    · exact refuseHeld_delivered i _ s
    · next c backup _ => simpa using deliverCharged_delivered i h c (countSubstitution backup s)

theorem downlinkDelivery_delivered (h : Held) (s : State) :
    (bufferView s).Delivered (bufferView (downlinkDelivery h s)) := by
  unfold downlinkDelivery
  split
  · refine .inl ?_
    rw [bufferView_returnBuffers, bufferView_countShore]
    rfl
  · next i _ => simpa using deliverTo_delivered i h (owedWork i s)

theorem deliver_delivered (h : Held) (s : State) :
    (bufferView s).Delivered (bufferView (deliver h s)) :=
  downlinkDelivery_delivered h (s.setDrs { s.drs with delivered := s.drs.delivered + 1 })

/-! ## The resequencer -/

section Resequencer

variable {k : Nat}

theorem setDrs_law {j : Nat} {x : Drs} (hl : (bufferView s).Law k)
    (hx : j + x.slots.length = k + s.drs.slots.length) : (bufferView (s.setDrs x)).Law j :=
  hl.setSlots hx

theorem deliverNext_slots (h : Held) (left : List Held) (s : State) :
    (deliverNext h left s).drs.slots = left := by rw [deliverNext, deliver_drs]; rfl

/-- The packet delivered comes from the slots or from the hand; the slots listed are those left. -/
theorem deliverNext_law {h : Held} {left : List Held}
    (hl : (bufferView s).Law k) {j : Nat} (hj : j + 1 + left.length = k + s.drs.slots.length) :
    (bufferView (deliverNext h left s)).Law j :=
  (setDrs_law hl hj).delivered (deliver_delivered h _)

theorem deliverRun_law : ∀ (run : List Held) {s : State}, s.drs.slots = run →
    (bufferView s).Law k → (bufferView (deliverRun run s)).Law k
  | [], _, _, hl => hl
  | h :: left, s, hs, hl => by
    unfold deliverRun
    split
    · refine deliverRun_law left (deliverNext_slots h left s) (deliverNext_law hl ?_)
      rw [hs, List.length_cons]; omega
    · exact hl

theorem deliverAll_law : ∀ (out : List Held) {s : State},
    (bufferView s).Law (k + out.length) → (bufferView (deliverAll out s)).Law k
  | [], _, hl => hl
  | h :: left, s, hl => deliverAll_law left (BufferView.Law.delivered hl (deliver_delivered h s))

theorem slotInsert_length (d : Drs) (h : Held) : ∀ l : List Held,
    (slotInsert d h l).length = l.length + 1
  | [] => rfl
  | x :: xs => by
    unfold slotInsert
    split
    · rfl
    · simp [slotInsert_length d h xs]

theorem placeNear_law {h : Held} (hl : (bufferView s).Law (k + 1)) :
    (bufferView (placeNear h s)).Law k := by
  unfold placeNear
  split
  · exact deliverRun_law _ rfl (deliverNext_law hl rfl)
  · split
    · exact hl.giveBack
    · exact setDrs_law hl (by rw [slotInsert_length]; omega)

theorem jumpTo_law {next : BitVec 16} (hl : (bufferView s).Law k) :
    (bufferView (jumpTo next s)).Law k := by
  have hsplit := List.length_eq_length_filter_add (l := s.drs.slots)
    (fun x => decide (seqDistance s.drs x.seq < seqDistance s.drs next))
  refine deliverRun_law _ rfl (deliverAll_law _ (setDrs_law hl ?_))
  dsimp only
  omega

theorem jump_law {h : Held} (hl : (bufferView s).Law (k + 1)) : (bufferView (jump h s)).Law k := by
  have hplaced : (bufferView (placeNear h (jumpTo (h.seq - 255) s))).Law k :=
    placeNear_law (jumpTo_law hl)
  simpa [jump] using hplaced

theorem placeLocked_law {h : Held} (hl : (bufferView s).Law (k + 1)) :
    (bufferView (placeLocked h s)).Law k := by
  unfold placeLocked
  dsimp only
  split
  · exact placeNear_law hl
  · split
    · exact jump_law hl
    · exact hl.giveBack

theorem resequence_law {h : Held} (hl : (bufferView s).Law (k + 1)) :
    (bufferView (resequence h s)).Law k := by
  unfold resequence
  split <;> rw [bufferView_checkGapTimer]
  · exact placeLocked_law hl
  · exact placeNear_law hl

theorem resync_law (hl : (bufferView s).Law k) : (bufferView (resync s)).Law k := by
  unfold resync
  split
  · exact deliverAll_law _ (setDrs_law hl rfl)
  · exact hl

theorem gapExpiry_bufferLaw (h : BufferLaw s) : BufferLaw (gapExpiry s) := by
  unfold gapExpiry
  dsimp only
  split
  · exact h.of_view (by simp)
  · rw [bufferLaw_iff, bufferView_checkGapTimer]
    exact deliverRun_law _ rfl h

/-- A DATA frame's packet takes a buffer and is handed on, or is dropped with the pool empty (R13). -/
theorem downlinkArrival_bufferLaw {x : Held} (h : BufferLaw s) :
    BufferLaw (downlinkArrival x s) := by
  unfold downlinkArrival
  split
  · exact h.of_view (by simp)
  · next hf =>
    have ht : (bufferView s.takeBuffer).Law 1 := (bufferLaw_iff.1 h).take hf
    exact resequence_law ht

end Resequencer

/-! ## Arrival of a user packet -/

/-- A packet takes a buffer and joins the active path's queue, or is dropped (R6, R8, R10). -/
theorem uplinkQueue_bufferLaw {e : UplinkEntry} (h : BufferLaw s) : BufferLaw (uplinkQueue e s) := by
  unfold uplinkQueue
  split
  · exact h.of_view (by simp)
  · next hf =>
    split
    · exact h
    · next p hp =>
      split
      · next hroom =>
        rw [bufferLaw_iff, bufferView_takeBuffer, State.modPort, bufferView_setPort]
        exact ((bufferLaw_iff.1 h).take hf).enqueue (p := p) hp e hroom
      · exact h.of_view (by simp)

theorem uplinkAdmit_bufferLaw {i : Nat} {e : UplinkEntry} (h : BufferLaw s) :
    BufferLaw (uplinkAdmit i e s) := by
  unfold uplinkAdmit
  split
  · exact h.of_view (by simp)
  · exact uplinkQueue_bufferLaw (h.of_view (by simp))

theorem attachLearning_bufferLaw {i : Nat} (h : BufferLaw s) : BufferLaw (attachLearning i s) := by
  unfold attachLearning
  split
  · exact h.of_view (by simp)
  · exact h

theorem uplinkArrival_bufferLaw {e : UplinkEntry} (h : BufferLaw s) :
    BufferLaw (uplinkArrival e s) := by
  unfold uplinkArrival
  split
  · exact h.of_view (by simp)
  · exact uplinkAdmit_bufferLaw (attachLearning_bufferLaw h)

/-! ## The transmitters -/

theorem takeUplink_bufferLaw {p : Path} {e : UplinkEntry} {left : List UplinkEntry}
    (h : BufferLaw s) (hq : (s.port p).txQueue = e :: left) : BufferLaw (takeUplink p e left s) := by
  have hout : BufferLaw ((s.modPort p (fun x => { x with txQueue := left })).returnBuffers 1) := by
    rw [bufferLaw_iff, bufferView_returnBuffers, State.modPort, bufferView_setPort]
    exact (bufferLaw_iff.1 h).dequeue (p := p) hq
  unfold takeUplink
  dsimp only
  split <;> exact hout.of_view (by simp)

theorem shoreTake_bufferLaw {p : Path} (h : BufferLaw s) : BufferLaw (shoreTake p s) := by
  unfold shoreTake
  split
  · exact h.of_view (by simp)
  · split
    · exact h.of_view (by simp)
    · split
      · next hq => exact takeUplink_bufferLaw h hq
      · exact h

theorem takeEgress_bufferLaw {e : EgressEntry} {left : List EgressEntry} (h : BufferLaw s)
    (he : s.shi.egress = e :: left) : BufferLaw (takeEgress e left s) := by
  have hout : BufferLaw ((s.setShi { s.shi with egress := left }).returnBuffers 1) := by
    rw [bufferLaw_iff, bufferView_returnBuffers, bufferView_setShi]
    exact (bufferLaw_iff.1 h).leaveEgress he
  exact hout.of_view (by simp [takeEgress])

theorem takeUser_bufferLaw (h : BufferLaw s) : BufferLaw (takeUser s) := by
  unfold takeUser
  split
  · next he => exact takeEgress_bufferLaw h he
  · exact h

theorem takeOwn_bufferLaw (h : BufferLaw s) : BufferLaw (takeOwn s) := by
  unfold takeOwn
  split
  · exact h.of_view (by simp)
  · split
    · exact h.of_view (by simp)
    · split
      · exact h.of_view (by simp)
      · exact takeUser_bufferLaw h

theorem shipTake_bufferLaw (h : BufferLaw s) : BufferLaw (shipTake s) := by
  unfold shipTake
  split
  · exact takeUser_bufferLaw h
  · exact takeOwn_bufferLaw h

/-! ## Swaps and NO_BACKHAUL -/

theorem bufferView_splice (a b : Path) : bufferView (splice a b s) = { bufferView s with
    queue := Function.update (Function.update (bufferView s).queue a []) b
      ((bufferView s).queue a) } := by
  unfold splice
  rw [bufferView_withdrawDue, bufferView_setPort, bufferView_setPort]
  rfl

@[simp] theorem countSwap_active (u : Psl) (cause : SwapCause) :
    (countSwap u cause).active = u.active := by cases cause <;> rfl

theorem bufferView_swapTo_of_none {b : Path} {cause : SwapCause} (ha : s.psl.active = none) :
    bufferView (swapTo b cause s) = { bufferView s with active := some b } := by
  simp [swapTo, ha, bufferView_setPsl (s := s)]

theorem bufferView_swapTo_of_some {a b : Path} {cause : SwapCause} (ha : s.psl.active = some a) :
    bufferView (swapTo b cause s) = { bufferView (splice a b s) with active := some b } := by
  simp [swapTo, ha, bufferView_setPsl (s := splice a b s)]

theorem swapTo_bufferLaw {b : Path} {cause : SwapCause} (h : BufferLaw s) :
    BufferLaw (swapTo b cause s) := by
  rw [bufferLaw_iff]
  cases ha : s.psl.active with
  | none =>
    rw [bufferView_swapTo_of_none ha]
    exact (bufferLaw_iff.1 h).activate ha b
  | some a =>
    rw [bufferView_swapTo_of_some ha, bufferView_splice]
    exact (bufferLaw_iff.1 h).swap ha b

theorem bufferView_flushQueue (p : Path) : bufferView (flushQueue p s) = { bufferView s with
    free := s.freeBuffers + (s.port p).txQueue.length
    queue := Function.update (bufferView s).queue p [] } := by
  unfold flushQueue
  dsimp only
  rw [bufferView_returnBuffers, bufferView_countShore, bufferView_setPort]
  rfl

theorem bufferView_enterNoBackhaul (a : Path) :
    bufferView (enterNoBackhaul a s) = { bufferView (flushQueue a s) with active := none } := by
  simp [enterNoBackhaul, bufferView_setPsl (s := withdrawDue a isFill (flushQueue a s))]

theorem enterNoBackhaul_bufferLaw {a : Path} (h : BufferLaw s) (ha : s.psl.active = some a) :
    BufferLaw (enterNoBackhaul a s) := by
  rw [bufferLaw_iff, bufferView_enterNoBackhaul, bufferView_flushQueue]
  exact (bufferLaw_iff.1 h).flush ha

theorem leaveActive_bufferLaw {a : Path} (h : BufferLaw s) (ha : s.psl.active = some a) :
    BufferLaw (leaveActive a s) := by
  have hc : BufferLaw (computeCandidate s) := h.of_view (by simp)
  unfold leaveActive
  dsimp only
  split
  · exact swapTo_bufferLaw hc
  · exact enterNoBackhaul_bufferLaw hc ha

theorem activate_bufferLaw (h : BufferLaw s) : BufferLaw (activate s) := by
  have hc : BufferLaw (computeCandidate s) := h.of_view (by simp)
  unfold activate
  split
  · dsimp only
    split
    · exact swapTo_bufferLaw hc
    · exact hc
  · exact h

theorem pathEntersUp_bufferLaw {p : Path} (h : BufferLaw s) : BufferLaw (pathEntersUp p s) := by
  have hn : BufferLaw (raiseNotice .pathState s) := h.of_view (by simp)
  unfold pathEntersUp
  dsimp only
  split
  · exact activate_bufferLaw hn
  · exact hn

theorem pathLeavesUp_bufferLaw {p : Path} (h : BufferLaw s) : BufferLaw (pathLeavesUp p s) := by
  have hd : BufferLaw (closeDrain p (withdrawDue p isPathSwap (raiseNotice .pathState s))) :=
    h.of_view (by simp)
  unfold pathLeavesUp
  dsimp only
  split
  · next ha => exact leaveActive_bufferLaw hd ha
  · exact hd

theorem selectorZoneChange_bufferLaw (h : BufferLaw s) : BufferLaw (selectorZoneChange s) := by
  unfold selectorZoneChange
  split
  · next ha =>
    split
    · exact h
    · exact leaveActive_bufferLaw h ha
  · exact activate_bufferLaw h

theorem advanceConfirm_bufferLaw {b : Path} (h : BufferLaw s) : BufferLaw (advanceConfirm b s) := by
  have hc : BufferLaw (s.setPsl { s.psl with
      confirmCount := confirmNext s.psl b, confirmFor := some b }) := h.of_view (by simp)
  unfold advanceConfirm
  dsimp only
  split
  · exact swapTo_bufferLaw hc
  · exact hc

theorem evaluateCases_bufferLaw (h : BufferLaw s) : BufferLaw (evaluateCases s) := by
  have hclear : BufferLaw (clearConfirm s) := h.of_view (by simp)
  unfold evaluateCases
  split
  · split
    · exact hclear
    · split
      · split
        · exact swapTo_bufferLaw h
        · exact hclear
      · split
        · exact advanceConfirm_bufferLaw h
        · exact hclear
  · exact hclear

theorem evaluate_bufferLaw (h : BufferLaw s) : BufferLaw (evaluate s) := by
  have hc : BufferLaw (evaluateCases (computeCandidate s)) :=
    evaluateCases_bufferLaw (h.of_view (by simp))
  exact hc.of_view (by simp [evaluate])

/-! ## Zone changes -/

theorem zoneChange_bufferLaw {z : Zone} {cause : ChangeCause} (h : BufferLaw s) :
    BufferLaw (zoneChange z cause s) := by
  have hz : BufferLaw (selectorZoneChange
      (retarget (bulkReview (s.setZnu (zoneRecord s.znu z cause))))) :=
    selectorZoneChange_bufferLaw (h.of_view (by simp))
  exact hz.of_view (by simp [zoneChange])

theorem positionExpiry_bufferLaw (h : BufferLaw s) : BufferLaw (positionExpiry s) := by
  have hstale : BufferLaw (s.setZnu
      { s.znu with positionState := .stale, positionTimer := none }) := h.of_view (by simp)
  have hend : ∀ u : State, BufferLaw u → BufferLaw (raiseNotice .positionStale
      (u.setZnu { clearCandidate u.znu with fallbacks := u.znu.fallbacks + 1 })) :=
    fun u hu => hu.of_view (by simp)
  unfold positionExpiry
  dsimp only
  split
  · exact hend _ hstale
  · exact hend _ (zoneChange_bufferLaw hstale)

theorem positionReport_bufferLaw {lat lon : Int} (h : BufferLaw s) :
    BufferLaw (positionReport lat lon s).1 := by
  unfold positionReport
  dsimp only
  split
  · exact h.of_view (by simp)
  · exact zoneChange_bufferLaw (h.of_view (by simp))

/-! ## Paths -/

theorem completeSurvey_bufferLaw {p : Path} {es : List SurveyEntry} (h : BufferLaw s) :
    BufferLaw (completeSurvey p es s) := by
  unfold completeSurvey
  dsimp only
  split
  case h_1 =>
    split
    · exact pathEntersUp_bufferLaw (h.of_view (by simp))
    · exact h.of_view (by simp)
  all_goals exact h.of_view (by simp)

theorem updateSurvey_bufferLaw {p : Path} {run : SurveyRun} {es : List SurveyEntry}
    (h : BufferLaw s) : BufferLaw (updateSurvey p run es s) := by
  unfold updateSurvey
  split
  · exact completeSurvey_bufferLaw h
  · exact h.of_view (by simp)

theorem echoTaken_bufferLaw {p : Path} {id : BitVec 8} (h : BufferLaw s) :
    BufferLaw (echoTaken p id s) := by
  unfold echoTaken
  split
  · exact h.of_view (by simp)
  · split
    · split
      · exact updateSurvey_bufferLaw (h.of_view (by simp))
      · exact h.of_view (by simp)
    · exact h.of_view (by simp)
    · exact h.of_view (by simp)

theorem echoArrives_bufferLaw {p : Path} {id : BitVec 8} (h : BufferLaw s) :
    BufferLaw (echoArrives p id s) := by
  unfold echoArrives
  split
  · exact h.of_view (by simp)
  · exact echoTaken_bufferLaw h

theorem deadlineExpiry_bufferLaw {p : Path} {id : BitVec 8} (h : BufferLaw s) :
    BufferLaw (deadlineExpiry p id s) := by
  unfold deadlineExpiry
  split
  · exact h.of_view (by simp)
  · split
    · split
      · exact updateSurvey_bufferLaw h
      · exact h
    · exact h
    · exact h

theorem carrierLost_bufferLaw {p : Path} (h : BufferLaw s) : BufferLaw (carrierLost p s) := by
  unfold carrierLost
  dsimp only
  split
  · split
    · exact pathLeavesUp_bufferLaw (h.of_view (by simp))
    · exact h.of_view (by simp)
  · exact h.of_view (by simp)

theorem disablePath_bufferLaw {p : Path} (h : BufferLaw s) : BufferLaw (disablePath p s) := by
  unfold disablePath
  split
  · exact h
  · dsimp only
    split
    · exact pathLeavesUp_bufferLaw (h.of_view (by simp))
    · exact h.of_view (by simp)

end Sys2Proof.Machine
end

section
/-! SUPPORT. Arriving frames, requests, the restart and the tick keep the conservation of buffers; every command and
so every step keeps it (R7). -/

namespace Sys2Proof.Machine

variable {s : State}

/-! ## Frames that arrive -/

theorem userArrives_bufferLaw {b : List Byte} (h : BufferLaw s) : BufferLaw (userArrives b s) := by
  unfold userArrives
  split
  · exact h.of_view (by simp)
  · split
    · exact h.of_view (by simp)
    · split
      · exact h.of_view (by simp)
      · exact uplinkArrival_bufferLaw (h.of_view (by simp))

theorem heartbeatArrives_bufferLaw {src : Mac} {b : List Byte} (h : BufferLaw s) :
    BufferLaw (heartbeatArrives src b s) := by
  unfold heartbeatArrives
  dsimp only
  split <;> exact h.of_view (by simp)

theorem shipRequestArrives_bufferLaw {src : Mac} {b : List Byte} (h : BufferLaw s) :
    BufferLaw (shipRequestArrives src b s) := h.of_view (by simp [shipRequestArrives])

theorem shipSort_bufferLaw {f : EthFrame} {kind : Byte} (h : BufferLaw s) :
    BufferLaw (shipSort f kind s) := by
  unfold shipSort
  split
  · exact h.of_view (by simp)
  · split
    · exact h.of_view (by simp)
    · split
      · exact userArrives_bufferLaw h
      · exact heartbeatArrives_bufferLaw h
      · exact shipRequestArrives_bufferLaw h

theorem shipArrival_bufferLaw {f : EthFrame} (h : BufferLaw s) : BufferLaw (shipArrival f s) := by
  unfold shipArrival
  split
  · exact h.of_view (by simp)
  · split
    · exact h.of_view (by simp)
    · split
      · exact h.of_view (by simp)
      · exact shipSort_bufferLaw h

@[simp] theorem bufferView_learnShore (p : Path) (src : Mac) :
    bufferView (learnShore p src s) = bufferView s := bufferView_modPort_same rfl

theorem dataArrives_bufferLaw {p : Path} {src : Mac} {b : List Byte} (h : BufferLaw s) :
    BufferLaw (dataArrives p src b s) := by
  unfold dataArrives
  split
  · exact h.of_view (by simp)
  · split
    · exact h.of_view (by simp)
    · exact downlinkArrival_bufferLaw (h.of_view (by simp))

theorem shoreRequestArrives_bufferLaw {p : Path} {src : Mac} {b : List Byte} (h : BufferLaw s) :
    BufferLaw (shoreRequestArrives p src b s) := by
  unfold shoreRequestArrives
  split <;> exact h.of_view (by simp)

theorem shoreSort_bufferLaw {p : Path} {f : EthFrame} {kind : Byte} (h : BufferLaw s) :
    BufferLaw (shoreSort p f kind s) := by
  have hcounted : BufferLaw (supervisionCounted p f.src s) :=
    h.of_view (by simp [supervisionCounted])
  unfold shoreSort
  split
  · exact h.of_view (by simp)
  · split
    · exact h.of_view (by simp)
    · split
      · exact dataArrives_bufferLaw h
      · exact hcounted.of_view (by simp)
      · exact echoArrives_bufferLaw hcounted
      · exact hcounted.of_view (by simp)
      · exact shoreRequestArrives_bufferLaw h

theorem shoreArrival_bufferLaw {p : Path} {f : EthFrame} (h : BufferLaw s) :
    BufferLaw (shoreArrival p f s) := by
  unfold shoreArrival
  split
  · exact h.of_view (by simp)
  · split
    · exact h.of_view (by simp)
    · split
      · exact h.of_view (by simp)
      · exact shoreSort_bufferLaw h

/-! ## The answer of a request -/

/-- The state an answer leaves, where the request is done, obeys a property; the other answers leave the state as
it is. -/
def Answer.Leaves (P : State → Prop) : Answer → Prop
  | .refused _ => True
  | .malformed _ => True
  | .done _ _ _ t => P t

section Leaves

variable {P : State → Prop}

@[simp] theorem leaves_refused (x : Status) : (Answer.refused x).Leaves P := trivial

@[simp] theorem leaves_malformed (why : Reason) : (Answer.malformed why).Leaves P := trivial

@[simp] theorem leaves_done (adjusted : Bool) (items : List Item) (records : List Record)
    (t : State) : (Answer.done adjusted items records t).Leaves P ↔ P t := Iff.rfl

theorem leaves_need {v : Option Int} {k : Int → Answer} (h : ∀ x, (k x).Leaves P) :
    (need v k).Leaves P := by
  cases v with
  | none => trivial
  | some x => exact h x

theorem leaves_named {α : Type} {x : Option α} {k : α → Answer} (h : ∀ a, (k a).Leaves P) :
    (named x k).Leaves P := by
  cases x with
  | none => trivial
  | some a => exact h a

theorem leaves_needPath {r : Request} {k : Path → Answer} (h : ∀ p, (k p).Leaves P) :
    (needPath r k).Leaves P := leaves_need fun _ => leaves_named h

theorem leaves_needEntry {r : Request} {k : Nat → Answer} (h : ∀ i, (k i).Leaves P) :
    (needEntry r k).Leaves P := leaves_need fun _ => leaves_named fun i => h i.val

theorem leaves_onVisitor {i : Nat} {k : Visitor → Answer} (h : ∀ v, (k v).Leaves P) :
    (onVisitor i s k).Leaves P := by
  unfold onVisitor
  split
  · trivial
  · exact h _

theorem leaves_bankChecked {v : Option Int} {active : Bank} {k : Answer} (h : k.Leaves P) :
    (bankChecked v active k).Leaves P := by
  unfold bankChecked
  split
  · exact h
  · refine leaves_named fun b => ?_
    split
    · trivial
    · exact h

theorem leaves_ite {c : Prop} [Decidable c] {a b : Answer} (ha : a.Leaves P) (hb : b.Leaves P) :
    (if c then a else b).Leaves P := by
  split
  · exact ha
  · exact hb

end Leaves

/-- A request's body keeps the conservation of buffers. -/
def BodyKeeps (body : Request → State → Answer) : Prop :=
  ∀ (r : Request) (s : State), BufferLaw s → (body r s).Leaves BufferLaw

theorem settle_bufferLaw {port : Port} {taken : List Name} {r : Request} {a : Answer}
    (h : BufferLaw s) (ha : a.Leaves BufferLaw) : BufferLaw (settle port taken r a s) := by
  cases a with
  | refused x => exact h.of_view (by simp [settle])
  | malformed why => exact h.of_view (by simp [settle])
  | done adjusted items records t =>
    have ht : BufferLaw t := ha
    exact ht.of_view (by simp [settle])

theorem generalCheck_leaves {port : Port} {r : Request} {a : Answer} {P : State → Prop}
    (h : generalCheck port r = some a) : a.Leaves P := by
  unfold generalCheck at h
  split at h
  · cases h; trivial
  · split at h
    · cases h; trivial
    · split at h
      · cases h; trivial
      · cases h

theorem execute_bufferLaw {port : Port} {taken : List Name} {body : Request → State → Answer}
    {r : Request} (hb : BodyKeeps body) (h : BufferLaw s) :
    BufferLaw (execute port taken body r s) := by
  refine settle_bufferLaw h ?_
  unfold answer
  split
  · next ha => exact generalCheck_leaves ha
  · exact hb r s h

theorem takeNamed_bufferLaw {port : Port} {fits : Name → Bool} {run : Request → State → State}
    (hrun : ∀ (r : Request) (t : State), BufferLaw t → BufferLaw (run r t)) (h : BufferLaw s) :
    BufferLaw (takeNamed port fits run s) := by
  unfold takeNamed
  split
  · exact h
  · split
    · exact hrun _ _ (h.of_view (by simp))
    · exact h

/-! ## The bodies of the requests on visitors, tables and records -/

theorem unknownBody_keeps : BodyKeeps unknownBody := fun _ _ _ => trivial

theorem visitorAddBody_keeps : BodyKeeps visitorAddBody := fun _ _ h =>
  leaves_need fun _ => leaves_need fun _ => leaves_need fun _ => leaves_need fun _ =>
  leaves_ite trivial <| leaves_named fun _ => leaves_named fun _ => leaves_named fun _ =>
  leaves_ite trivial <| leaves_ite trivial <| h.of_view (by simp)

theorem visitorRemoveBody_keeps : BodyKeeps visitorRemoveBody := fun _ _ h =>
  leaves_needEntry fun _ => by
    split
    · trivial
    · trivial
    · exact h.of_view (by simp)
    · exact h.of_view (by simp)

theorem visitorReadBody_keeps : BodyKeeps visitorReadBody := fun r s h => by
  unfold visitorReadBody
  split
  · trivial
  · trivial
  · exact leaves_named fun _ => h
  · exact leaves_ite trivial (leaves_named fun _ => h)

theorem visitorCreditBody_keeps : BodyKeeps visitorCreditBody := fun _ _ h =>
  leaves_need fun _ => leaves_need fun _ => leaves_named fun _ => leaves_onVisitor fun _ =>
  h.of_view (by simp)

theorem visitorAllowBody_keeps : BodyKeeps visitorAllowBody := fun _ _ h =>
  leaves_need fun _ => leaves_need fun _ => leaves_named fun _ => leaves_onVisitor fun _ =>
  h.of_view (by simp)

theorem visitorSettleBody_keeps : BodyKeeps visitorSettleBody := fun _ _ h =>
  leaves_needEntry fun _ => leaves_onVisitor fun _ => h.of_view (by simp)

theorem tariffLoadBody_keeps : BodyKeeps tariffLoadBody := fun _ _ h =>
  leaves_need fun _ => leaves_need fun _ => leaves_need fun _ => leaves_need fun _ =>
  leaves_named fun _ => leaves_named fun _ => leaves_bankChecked (h.of_view (by simp))

theorem tariffSwitchBody_keeps : BodyKeeps tariffSwitchBody := fun _ _ h =>
  leaves_bankChecked (h.of_view (by simp))

theorem planLoadBody_keeps : BodyKeeps planLoadBody := fun _ _ h =>
  leaves_need fun _ => leaves_named fun _ => h.of_view (by simp)

theorem partnerLoadBody_keeps : BodyKeeps partnerLoadBody := fun _ _ h =>
  leaves_need fun _ => leaves_ite trivial <| leaves_named fun _ => h.of_view (by simp)

theorem recordDrainBody_keeps : BodyKeeps recordDrainBody := fun _ _ h =>
  leaves_need fun _ => h.of_view (by simp)

theorem recordReleaseBody_keeps : BodyKeeps recordReleaseBody := fun _ _ h =>
  leaves_need fun _ => leaves_ite trivial <| h.of_view (by simp)

theorem voyageStartBody_keeps : BodyKeeps voyageStartBody := fun _ _ h => h.of_view (by simp)

theorem recordIntervalBody_keeps : BodyKeeps recordIntervalBody := fun _ _ h =>
  leaves_need fun _ => h.of_view (by simp)

theorem recordFlushBody_keeps : BodyKeeps recordFlushBody := fun _ _ h => h.of_view (by simp)

/-! ## The bodies of the requests on zones -/

theorem zoneLoadBody_keeps : BodyKeeps zoneLoadBody := fun _ _ h =>
  leaves_need fun _ => leaves_ite trivial <| leaves_named fun _ => leaves_ite trivial <| by
    rw [zoneLoadWrite, leaves_done]
    split
    · exact zoneChange_bufferLaw (h.of_view (by simp))
    · exact h.of_view (by simp)

theorem zoneDefaultsBody_keeps : BodyKeeps zoneDefaultsBody := fun _ _ h =>
  leaves_ite trivial <| leaves_ite trivial <| by
    rw [leaves_done]
    split
    · exact zoneChange_bufferLaw (h.of_view (by simp))
    · exact h.of_view (by simp)

theorem positionBody_keeps : BodyKeeps positionBody := fun _ _ h =>
  leaves_need fun _ => leaves_need fun _ => leaves_ite (positionReport_bufferLaw h) trivial

theorem forceZone_leaves {z : Zone} (h : BufferLaw s) : (forceZone z s).Leaves BufferLaw := by
  rw [forceZone, leaves_done]
  split
  · exact zoneChange_bufferLaw (h.of_view (by simp))
  · exact h.of_view (by simp)

theorem zoneForceBody_keeps : BodyKeeps zoneForceBody := fun _ _ h =>
  leaves_need fun _ => leaves_named fun _ => leaves_ite (forceZone_leaves h) trivial

/-! ## The bodies of the requests on paths, the selector and the resequencer -/

theorem pathConfigBody_keeps : BodyKeeps pathConfigBody := fun _ _ h =>
  leaves_need fun _ => leaves_ite trivial <| leaves_named fun _ => by
    rw [leaves_done, surchargeMarks]
    split <;> exact h.of_view (by simp)

theorem pathEnableBody_keeps : BodyKeeps pathEnableBody := fun _ _ h =>
  leaves_needPath fun _ => h.of_view (by simp)

theorem pathDisableBody_keeps : BodyKeeps pathDisableBody := fun _ _ h =>
  leaves_needPath fun _ => disablePath_bufferLaw h

theorem pathSurveyBody_keeps : BodyKeeps pathSurveyBody := fun _ _ h =>
  leaves_needPath fun _ => leaves_ite (leaves_ite trivial (h.of_view (by simp))) trivial

theorem pathTestBody_keeps : BodyKeeps pathTestBody := fun _ _ h =>
  leaves_needPath fun _ => by
    split
    · exact h.of_view (by simp)
    · exact h.of_view (by simp)
    · exact h
    · trivial
    · trivial
    · trivial
    · trivial

@[simp] theorem clearConfirmIf_active (b : Bool) (u : Psl) :
    (clearConfirmIf b u).active = u.active := by cases b <;> rfl

theorem selectConfigBody_keeps : BodyKeeps selectConfigBody := fun _ _ h => h.of_view (by simp)

theorem pathPinBody_keeps : BodyKeeps pathPinBody := fun _ _ h =>
  leaves_need fun _ => leaves_named fun _ => h.of_view (by simp)

theorem resyncIf_bufferLaw {b : Bool} (h : BufferLaw s) : BufferLaw (resyncIf b s) := by
  cases b with
  | false => exact h
  | true => exact resync_law (bufferLaw_iff.1 h)

theorem reseqConfigBody_keeps : BodyKeeps reseqConfigBody := fun _ _ h =>
  resyncIf_bufferLaw (h.of_view (by simp))

/-! ## The bodies of the requests on cell heads, the clock, status and notices -/

theorem cellConfigBody_keeps : BodyKeeps cellConfigBody := fun _ _ h =>
  leaves_need fun _ => leaves_named fun _ => leaves_ite trivial <| h.of_view (by simp)

theorem grantConfigBody_keeps : BodyKeeps grantConfigBody := fun _ _ h => h.of_view (by simp)

theorem clockSetBody_keeps : BodyKeeps clockSetBody := fun _ _ h =>
  leaves_need fun _ => h.of_view (by simp)

@[simp] theorem bufferView_statusLeaves (port : Port) :
    bufferView (statusLeaves port s) = bufferView s := by cases port <;> rfl

theorem statusReadBody_keeps (port : Port) : BodyKeeps (statusReadBody port) := fun _ _ h =>
  leaves_named fun _ => h.of_view (by simp)

theorem noticeArmBody_keeps : BodyKeeps noticeArmBody := fun _ _ h => h.of_view (by simp)

theorem noticeClearBody_keeps : BodyKeeps noticeClearBody := fun _ _ h => h.of_view (by simp)

theorem creditListReadBody_keeps : BodyKeeps creditListReadBody := fun _ _ h =>
  h.of_view (by simp)

/-! ## The sweep engine and the restart -/

theorem sweepVisit_bufferLaw (h : BufferLaw s) : BufferLaw (sweepVisit s) := by
  unfold sweepVisit
  dsimp only
  split <;> exact h.of_view (by simp)

@[simp] theorem bufferView_restartNotices : bufferView (restartNotices s) = bufferView s := rfl

theorem heldPackets_eq (s : State) : heldPackets s = buffersHeld s := by
  simp [heldPackets, buffersHeld, Path.all]; omega

/-- Stage 2 empties every queue and returns its buffers (R17). -/
theorem bufferView_restartPackets : bufferView (restartPackets s) =
    { free := s.freeBuffers + heldPackets s, queue := fun _ => [], active := s.psl.active,
      egress := [], slots := [] } := by
  simp [bufferView, restartPackets, State.port, State.returnBuffers, resequencerRestart]

theorem bufferView_selectorRestart :
    bufferView (selectorRestart s) = { bufferView s with active := none } := by
  simp [selectorRestart, bufferView_setPsl (s := s)]

/-- After stages 1 to 6 no packet is held and no path is active (R17, R143). -/
theorem bufferView_restartStages : bufferView (restartStages s) =
    { free := s.freeBuffers + heldPackets s, queue := fun _ => [], active := none,
      egress := [], slots := [] } := by
  have hheld : (restartNotices s).freeBuffers + heldPackets (restartNotices s) =
      s.freeBuffers + heldPackets s := rfl
  simp [restartStages, bufferView_selectorRestart, bufferView_restartPackets, Path.all, hheld]

theorem restartStages_bufferLaw (h : BufferLaw s) : BufferLaw (restartStages s) := by
  obtain ⟨hsum, -⟩ := h
  rw [bufferLaw_iff, bufferView_restartStages, heldPackets_eq, hsum]
  exact ⟨rfl, fun _ _ => rfl, fun _ => Nat.zero_le _, Nat.zero_le _⟩

theorem restartTaken_bufferLaw {port : Port} {r : Request} (h : BufferLaw s) :
    BufferLaw (restartTaken port r s) := by
  unfold restartTaken
  split
  · next ha => exact settle_bufferLaw h (generalCheck_leaves ha)
  · exact (restartStages_bufferLaw h).of_view (by simp [restartBegin])

@[simp] theorem bufferView_restartClose (i : Nat) :
    bufferView (restartClose i s).1 = bufferView s := by
  unfold restartClose; split <;> simp

/-- Power-on reset gives the pool every buffer (R182). -/
theorem powerOnFrom_bufferLaw (s : State) : BufferLaw (powerOnFrom s) :=
  ⟨rfl, fun p _ => by cases p <;> rfl, fun p => by cases p <;> exact Nat.zero_le _, Nat.zero_le _⟩

/-! ## Every command -/

/-- A next state that an outcome answers obeys the conservation of buffers. -/
def NextKeeps (o : Host.Outcome State Fault Refusal) : Prop := ∀ t : State, o = .next t → BufferLaw t

theorem nextKeeps_next {t : State} (h : BufferLaw t) : NextKeeps (.next t) := by
  rintro _ ⟨⟩
  exact h

/-- An event that occurs only under a condition, and otherwise leaves the state as it is. -/
theorem nextKeeps_ite {c : Prop} [Decidable c] {a b : Host.Outcome State Fault Refusal}
    (ha : NextKeeps a) (hb : NextKeeps b) : NextKeeps (if c then a else b) := by
  split
  · exact ha
  · exact hb

theorem request_nextKeeps {port : Port} {name : String} {taken : List Name}
    {body : Request → State → Answer} (hb : BodyKeeps body) (h : BufferLaw s) :
    NextKeeps (request port name taken body s) :=
  nextKeeps_next (takeNamed_bufferLaw (fun _ _ => execute_bufferLaw hb) h)

theorem execSurveyProbeDue_nextKeeps {p : Path} (h : BufferLaw s) :
    NextKeeps (execSurveyProbeDue p s) := by
  unfold execSurveyProbeDue
  split
  · exact nextKeeps_ite (nextKeeps_next (h.of_view (by simp))) (nextKeeps_next h)
  · exact nextKeeps_next h
  · exact nextKeeps_next h

theorem execHeartbeatTimerExpiry_nextKeeps {c : Nat} (h : BufferLaw s) :
    NextKeeps (execHeartbeatTimerExpiry c s) := by
  unfold execHeartbeatTimerExpiry
  split
  · exact nextKeeps_ite (nextKeeps_next (h.of_view (by simp))) (nextKeeps_next h)
  · exact nextKeeps_next h

theorem execRestartEntryStep_nextKeeps (h : BufferLaw s) : NextKeeps (execRestartEntryStep s) := by
  unfold execRestartEntryStep
  split
  · exact nextKeeps_next h
  · split
    · exact nextKeeps_next h
    · exact nextKeeps_next (h.of_view (by simp [restartEntry]))

theorem execRestartIntervalTimer_nextKeeps (h : BufferLaw s) :
    NextKeeps (execRestartIntervalTimer s) := by
  unfold execRestartIntervalTimer
  split
  · exact nextKeeps_next h
  · split
    · exact nextKeeps_next (h.of_view (by simp [restartEnd]))
    · exact nextKeeps_next h

theorem exec_nextKeeps (i : Instr) (h : BufferLaw s) : NextKeeps (exec i s) := by
  have same : ∀ t : State, bufferView t = bufferView s → NextKeeps (.next t) :=
    fun _ e => nextKeeps_next (h.of_view e)
  have hs : NextKeeps (.next s) := nextKeeps_next h
  cases i with
  | powerOnReset => exact nextKeeps_next (powerOnFrom_bufferLaw s)
  | shipFrameArrival f => exact nextKeeps_next (shipArrival_bufferLaw h)
  | shoreFrameArrival p f => exact nextKeeps_next (shoreArrival_bufferLaw h)
  | shoreTransmitTake p => exact nextKeeps_ite (nextKeeps_next (shoreTake_bufferLaw h)) hs
  | shoreTransmissionEnd p => exact same _ (by simp)
  | shipTransmitTake => exact nextKeeps_ite (nextKeeps_next (shipTake_bufferLaw h)) hs
  | shipTransmissionEnd => exact same _ (by simp)
  | shipLinkLoss => exact same _ (by simp)
  | shipLinkReturn => exact same _ (by simp)
  | carrierArrival p => exact nextKeeps_ite hs (same _ (by simp))
  | carrierLoss p => exact nextKeeps_ite (nextKeeps_next (carrierLost_bufferLaw h)) hs
  | settleTimerExpiry p => exact nextKeeps_ite (same _ (by simp)) hs
  | openTimerExpiry p => exact nextKeeps_ite (same _ (by simp)) hs
  | surveyProbeDue p => exact execSurveyProbeDue_nextKeeps h
  | probeTimerExpiry p => exact nextKeeps_ite (same _ (by simp)) hs
  | probeDeadlineExpiry p id => exact nextKeeps_next (deadlineExpiry_bufferLaw h)
  | idleTimerExpiry p => exact nextKeeps_ite (same _ (by simp)) hs
  | recoveryGapEnd p => exact nextKeeps_ite (same _ (by simp)) hs
  | drainWindowExpiry p => exact nextKeeps_ite (same _ (by simp)) hs
  | holdDownExpiry => exact same _ (by simp)
  | periodTimerExpiry => exact nextKeeps_next (evaluate_bufferLaw h)
  | gapTimerExpiry => exact nextKeeps_ite (nextKeeps_next (gapExpiry_bufferLaw h)) hs
  | heartbeatTimerExpiry c => exact execHeartbeatTimerExpiry_nextKeeps h
  | grantBoundary => exact same _ (by simp)
  | positionTimerExpiry => exact nextKeeps_ite (nextKeeps_next (positionExpiry_bufferLaw h)) hs
  | intervalExpiry => exact nextKeeps_ite (same _ (by simp [intervalExpiry])) hs
  | sweepVisit => exact nextKeeps_ite (nextKeeps_next (sweepVisit_bufferLaw h)) hs
  | voyageClockRise => exact same _ (by simp)
  | unknownRequest port =>
    exact nextKeeps_next (takeNamed_bufferLaw (fun _ _ => execute_bufferLaw unknownBody_keeps) h)
  | visitorAdd port => exact request_nextKeeps visitorAddBody_keeps h
  | visitorRemove port => exact request_nextKeeps visitorRemoveBody_keeps h
  | visitorRead port => exact request_nextKeeps visitorReadBody_keeps h
  | visitorCredit port => exact request_nextKeeps visitorCreditBody_keeps h
  | visitorAllow port => exact request_nextKeeps visitorAllowBody_keeps h
  | visitorSettle port => exact request_nextKeeps visitorSettleBody_keeps h
  | tariffLoad port => exact request_nextKeeps tariffLoadBody_keeps h
  | tariffSwitch port => exact request_nextKeeps tariffSwitchBody_keeps h
  | planLoad port => exact request_nextKeeps planLoadBody_keeps h
  | partnerLoad port => exact request_nextKeeps partnerLoadBody_keeps h
  | recordDrain port => exact request_nextKeeps recordDrainBody_keeps h
  | recordRelease port => exact request_nextKeeps recordReleaseBody_keeps h
  | voyageStart port => exact request_nextKeeps voyageStartBody_keeps h
  | recordInterval port => exact request_nextKeeps recordIntervalBody_keeps h
  | recordFlush port => exact request_nextKeeps recordFlushBody_keeps h
  | zoneLoad port => exact request_nextKeeps zoneLoadBody_keeps h
  | zoneDefaults port => exact request_nextKeeps zoneDefaultsBody_keeps h
  | position port => exact request_nextKeeps positionBody_keeps h
  | zoneForce port => exact request_nextKeeps zoneForceBody_keeps h
  | pathConfig port => exact request_nextKeeps pathConfigBody_keeps h
  | pathEnable port => exact request_nextKeeps pathEnableBody_keeps h
  | pathDisable port => exact request_nextKeeps pathDisableBody_keeps h
  | pathSurvey port => exact request_nextKeeps pathSurveyBody_keeps h
  | pathTest port => exact request_nextKeeps pathTestBody_keeps h
  | selectConfig port => exact request_nextKeeps selectConfigBody_keeps h
  | pathPin port => exact request_nextKeeps pathPinBody_keeps h
  | reseqConfig port => exact request_nextKeeps reseqConfigBody_keeps h
  | cellConfig port => exact request_nextKeeps cellConfigBody_keeps h
  | grantConfig port => exact request_nextKeeps grantConfigBody_keeps h
  | clockSet port => exact request_nextKeeps clockSetBody_keeps h
  | statusRead port => exact request_nextKeeps (statusReadBody_keeps port) h
  | noticeArm port => exact request_nextKeeps noticeArmBody_keeps h
  | noticeClear port => exact request_nextKeeps noticeClearBody_keeps h
  | creditListRead port => exact request_nextKeeps creditListReadBody_keeps h
  | partRestart port =>
    exact nextKeeps_next (takeNamed_bufferLaw (fun _ _ => restartTaken_bufferLaw) h)
  | restartEntryStep => exact execRestartEntryStep_nextKeeps h
  | restartIntervalTimer => exact execRestartIntervalTimer_nextKeeps h

/-! ## Time, and every step -/

theorem fire_bufferLaw (i : Instr) (h : BufferLaw s) : BufferLaw (fire s i) := by
  unfold fire
  split
  · split
    · next ht => exact exec_nextKeeps i h _ ht
    · exact h
    · exact h
  · exact h

theorem tick_bufferLaw (h : BufferLaw s) : BufferLaw (tick s) :=
  List.foldlRecOn _ fire (h.of_view bufferView_tickTimers) fun _ ht i _ => fire_bufferLaw i ht

theorem timeStep_bufferLaw (h : BufferLaw s) : BufferLaw (timeStep s) := by
  unfold timeStep
  split
  · exact h.of_view (by simp)
  · exact tick_bufferLaw (h.of_view (by simp))

/-- Settles O4: the law is that of a view which most operations leave as it stands, and each operation that moves
packets keeps it, the delivery run with the packets it has in hand counted; so each command keeps it, and so each
step. -/
theorem stepKeepsBufferLaw : Obligations.StepKeepsBufferLaw := by
  intro s t h ht
  unfold step at ht
  split at ht
  · cases ht
    exact timeStep_bufferLaw h
  · next i rest _ => exact exec_nextKeeps i (h.of_view (bufferView_setPending rest)) t ht

end Sys2Proof.Machine
end

section
/-! SUPPORT. The admission check, one lemma per test that decides it (R33). -/

namespace Sys2Proof.Machine

variable {s : State} {v : Visitor}

/-! ## Test 4: the plan -/

theorem planForbids_of_active {p : Path} (hp : s.psl.active = some p) :
    planForbids s v = !planAllows s.rtu.plans[v.plan] (s.path p).config.kind := by
  simp only [planForbids, hp]

theorem planForbids_of_no_active (hp : s.psl.active = none) : planForbids s v = false := by
  simp only [planForbids, hp]

/-! ## The check -/

theorem admission_of_not_attached (uplink : Bool) (hl : v.lifecycle ≠ .attached) :
    admission uplink s v = some .notAttached :=
  if_pos hl

theorem admission_of_barred (uplink : Bool) (hl : v.lifecycle = .attached)
    (hr : v.roaming = .barred) : admission uplink s v = some .barred := by
  simp [admission, hl, hr]

theorem admission_of_exhausted (uplink : Bool) (hl : v.lifecycle = .attached)
    (hr : v.roaming ≠ .barred) (hc : v.credit = .exhausted) :
    admission uplink s v = some .exhausted := by
  simp [admission, hl, hr, hc]

/-- Past the three tests of the entry, the plan and the backhaul are left to decide. -/
theorem admission_of_entry_passes (uplink : Bool) (hl : v.lifecycle = .attached)
    (hr : v.roaming ≠ .barred) (hc : v.credit ≠ .exhausted) :
    admission uplink s v =
      if planForbids s v then some .planKind
      else if uplink && s.psl.active.isNone then some .noBackhaul
      else none := by
  simp [admission, hl, hr, hc]

/-- With an active path test 5 passes, so the plan alone decides. -/
theorem admission_of_active (uplink : Bool) (hl : v.lifecycle = .attached)
    (hr : v.roaming ≠ .barred) (hc : v.credit ≠ .exhausted) {p : Path}
    (hp : s.psl.active = some p) :
    admission uplink s v =
      if planAllows s.rtu.plans[v.plan] (s.path p).config.kind then none else some .planKind := by
  rw [admission_of_entry_passes uplink hl hr hc, planForbids_of_active hp]
  cases planAllows s.rtu.plans[v.plan] (s.path p).config.kind <;> simp [hp]

/-- With no active path test 4 passes, so the direction alone decides. -/
theorem admission_of_no_active (uplink : Bool) (hl : v.lifecycle = .attached)
    (hr : v.roaming ≠ .barred) (hc : v.credit ≠ .exhausted) (hp : s.psl.active = none) :
    admission uplink s v = if uplink then some .noBackhaul else none := by
  simp [admission_of_entry_passes uplink hl hr hc, planForbids_of_no_active hp, hp]

/-- Settles O18: each clause is the lemma of the test that decides it. -/
theorem admissionNamesFirstFailure : Obligations.AdmissionNamesFirstFailure := by
  intro uplink s v
  refine ⟨admission_of_not_attached uplink, fun hl => ⟨admission_of_barred uplink hl, fun hr =>
    ⟨admission_of_exhausted uplink hl hr, fun hc => ⟨?active, ?none⟩⟩⟩⟩
  case active => exact fun p hp => admission_of_active uplink hl hr hc hp
  case none => exact admission_of_no_active uplink hl hr hc

end Sys2Proof.Machine
end

section
/-! SUPPORT. The price of a record, the snapshot and ROAMING as they are evaluated now, and what the close of an
open record does for each of its three outcomes (R21, R45, R46, R62 to R65, R72, R73). -/

namespace Sys2Proof.Machine

variable {s : State}

/-! ## The current terms and the price -/

/-- A record holds traffic when it has counted a packet or charged a fee (R62). -/
theorem holdsTraffic_iff {r : OpenRecord} :
    holdsTraffic r = true ↔ 0 < r.pktsUp ∨ 0 < r.pktsDown ∨ 0 < r.feeCharged := by
  simp [holdsTraffic, or_assoc]

/-- The region of the current zone: of its entry, of the DEFAULT record, or 0 for UNSET (R99). -/
theorem currentTerms_region {k : Region}
    (h : s.znu.current = none ∧ k = 0 ∨ s.znu.current = some .default ∧ k = s.znu.defaultTerms.region ∨
      ∃ z : ZoneIndex, s.znu.current = some (.entry z) ∧ k = s.znu.zones[z].terms.region) :
    (currentTerms s).region = k := by
  unfold currentTerms
  obtain ⟨hz, rfl⟩ | ⟨hz, rfl⟩ | ⟨z, hz, rfl⟩ := h <;> rw [hz] <;> rfl

theorem activeRow_eq (k : Region) (plan : Fin 8) : activeRow s k plan =
    (if s.rtu.activeBank = .b0 then s.rtu.bank0 else s.rtu.bank1)[k][plan] := by
  unfold activeRow
  cases s.rtu.activeBank <;> rfl

/-- Stage 3 takes the surcharge of the active path, or 256 with none (R44, R45). -/
theorem activeSurcharge_eq {su : Nat}
    (h : s.psl.active = none ∧ su = 256 ∨
      ∃ p : Path, s.psl.active = some p ∧ su = (s.path p).config.surcharge) :
    activeSurcharge s = su := by
  unfold activeSurcharge
  obtain ⟨ha, rfl⟩ | ⟨p, ha, rfl⟩ := h <;> rw [ha]

/-- Stages 4 and 5: MULT for a SURCHARGED visitor alone, and 65535 at most (R45). -/
theorem priceOf_eq {price su mult p2 : Nat} {x : Roaming}
    (h : x = .surcharged ∧ p2 = price * su / 256 * mult / 256 ∨
      x ≠ .surcharged ∧ p2 = price * su / 256) : priceOf price su x mult = min p2 65535 := by
  obtain ⟨rfl, rfl⟩ | ⟨hx, rfl⟩ := h
  · rfl
  · cases x with
    | permitted => rfl
    | barred => rfl
    | surcharged => exact absurd rfl hx

/-! ## The three outcomes of a close -/

section Close

variable {i : Nat} {why : CloseReason} {r : OpenRecord}

theorem closeRecord_of_empty (h : (s.visitor i).openRecord = some r) (ht : holdsTraffic r = false) :
    closeRecord i why s = (reopen i s, .empty) := by simp [closeRecord, h, ht]

theorem closeRecord_of_room (h : (s.visitor i).openRecord = some r) (ht : holdsTraffic r = true)
    (hq : held s.rcq < Config.recordQueueSize) : closeRecord i why s =
      (reopen i (joinQueue i (s.visitor i).tag why r s), .queued) := by simp [closeRecord, h, ht, hq]

theorem closeRecord_of_full (h : (s.visitor i).openRecord = some r) (ht : holdsTraffic r = true)
    (hq : Config.recordQueueSize ≤ held s.rcq) :
    closeRecord i why s = (reopen i (spillRecord i r s), .spilled) := by
  simp [closeRecord, h, ht, Nat.not_lt.2 hq]

@[simp] theorem joinQueue_visitor (tag : Tag) (j : Nat) :
    (joinQueue i tag why r s).visitor j = s.visitor j := by rw [joinQueue_frame]; rfl

/-- The record closed takes NEXT_SEQ at the tail (R64, R72). -/
theorem joinQueue_rcq (tag : Tag) : (joinQueue i tag why r s).rcq = { s.rcq with
    records := s.rcq.records ++
      [{ seq := s.rcq.nextSeq, index := i, tag := tag, reason := why,
         closeTime := s.cfu.clock, contents := r }]
    nextSeq := s.rcq.nextSeq + 1 } := by
  unfold joinQueue
  dsimp only
  split <;> rfl

/-- The money of a record spilled moves into SPILLED (R73). -/
theorem spillRecord_visitor (h : (s.visitor i).openRecord = some r) :
    (spillRecord i r s).visitor i = { s.visitor i with
      spilled := (s.visitor i).spilled + recordCharge r
      spillCount := saturateInc 65535 (s.visitor i).spillCount } :=
  setVisitor_visitor_of_open (r := r) h

theorem spillRecord_rcq : (spillRecord i r s).rcq = { s.rcq with spills := s.rcq.spills + 1 } := rfl

theorem spillRecord_raises : (spillRecord i r s).ntu.recordSpill.pending = true :=
  raiseNotice_sets .recordSpill _

end Close

/-- Settles O39: the price and the snapshot are their stages one by one, and each outcome of a close is that of the
case of R65 which holds, on top of what every close does to the entry and leaves of the rest. -/
theorem closeHasThreeOutcomes : Obligations.CloseHasThreeOutcomes := by
  refine ⟨fun r => holdsTraffic_iff, ?snapshot, ?close⟩
  case snapshot =>
    intro s v k row su p1 p2 hk hrow hsu hp1 hp2
    have hregion := currentTerms_region hk
    have hactive : activeRow s k v.plan = row := (activeRow_eq k v.plan).trans hrow.symm
    subst hp1
    have hprice : priceNow s v = min p2 65535 := by
      rw [priceNow, hregion, hactive, activeSurcharge_eq hsu]
      exact priceOf_eq hp2
    exact ⟨hprice, by simp only [roamingNow, hregion], by rw [openNow, hprice, hregion, hactive]⟩
  case close =>
    intro i why r s hr _
    obtain ⟨a, n, hv⟩ := closeRecord_visitor why hr
    refine ⟨(closeRecord i why s).1, (closeRecord i why s).2, rfl, by rw [hv], fun j hj => closeRecord_visitor_ne why s hj,
      closeRecord_frame i why s, fun ht => ?empty, fun ht hq => ?queued, fun ht hq => ?spilled⟩
    case empty =>
      rw [closeRecord_of_empty hr ht]
      dsimp only
      rw [reopen_visitor]
      exact ⟨rfl, rfl, rfl, rfl⟩
    case queued =>
      rw [closeRecord_of_room hr ht hq]
      dsimp only
      rw [reopen_visitor, joinQueue_visitor, reopen_frame, joinQueue_rcq]
      exact ⟨rfl, rfl, rfl, rfl, rfl⟩
    case spilled =>
      rw [closeRecord_of_full hr ht hq]
      dsimp only
      rw [reopen_visitor, spillRecord_visitor hr, reopen_frame, spillRecord_rcq]
      exact ⟨rfl, rfl, rfl, rfl, (Nat.add_assoc _ _ _).symm, rfl, spillRecord_raises⟩

end Sys2Proof.Machine
end

section
/-! SUPPORT. The tag map of a visitor table in canonical form (R19), and the conservation of charges (R81) entry by
entry: what it asks of one entry, and what keeps it. -/

namespace Sys2Proof.Machine

variable {s t : State} {i j : Nat} {v w : Visitor}

/-! ## The entries of the table -/

/-- In canonical form a listed value is read back. -/
theorem tableRead_of_mem {α : Type} (d : α) {k : Nat} {x : α} :
    ∀ {t : Table α}, t.Pairwise (fun a b => a.1 < b.1) → (k, x) ∈ t → tableRead d t k = x
  | [], _, hm => by cases hm
  | (a, y) :: r, hp, hm => by
    obtain ⟨hlt, hr⟩ := List.pairwise_cons.1 hp
    rcases List.mem_cons.1 hm with hhead | htail
    · cases hhead
      simp [tableRead]
    · have hne : k ≠ a := Nat.ne_of_gt (hlt _ htail)
      simpa [tableRead, hne] using tableRead_of_mem d hr htail

/-- A number whose value is not the unlisted one is listed. -/
theorem mem_of_tableRead_ne {α : Type} {d : α} {k : Nat} {t : Table α} (h : tableRead d t k ≠ d) :
    (k, tableRead d t k) ∈ t := by
  induction t with
  | nil => exact absurd rfl h
  | cons e r ih =>
    obtain ⟨a, y⟩ := e
    by_cases hk : k = a
    · subst hk
      simp [tableRead]
    · rw [tableRead, if_neg hk] at h ⊢
      exact List.mem_cons_of_mem _ (ih h)

theorem visitor_of_mem (h : TableLaw s) {e : Nat × Visitor} (he : e ∈ s.vtb.entries) :
    s.visitor e.1 = e.2 := tableRead_of_mem _ h.1 he

theorem mem_of_not_free (h : (s.visitor i).lifecycle ≠ .free) :
    (i, s.visitor i) ∈ s.vtb.entries := mem_of_tableRead_ne (ne_freeEntry_of_lifecycle h)

/-! ## The tag map -/

/-- A tag that is mapped is not 0 and stands in the entry that the map gives (R19). -/
theorem lookupTag_some {g : Tag} (h : TableLaw s) (hg : lookupTag s g = some i) :
    g ≠ 0 ∧ (s.visitor i).lifecycle ≠ .free ∧ (s.visitor i).tag = g := by
  unfold lookupTag at hg
  split at hg
  · cases hg
  · next hg0 =>
    obtain ⟨e, he, rfl⟩ := Option.map_eq_some_iff.1 hg
    have hv := visitor_of_mem h (List.mem_of_find?_eq_some he)
    have hp : e.2.lifecycle ≠ .free ∧ e.2.tag = g := by simpa using List.find?_some he
    rw [hv]
    exact ⟨hg0, hp⟩

/-- A tag that is not mapped stands in no entry (R19). -/
theorem tag_ne_of_lookupTag_none {g : Tag} (hg0 : g ≠ 0) (hg : lookupTag s g = none)
    (hl : (s.visitor i).lifecycle ≠ .free) : (s.visitor i).tag ≠ g := by
  rw [lookupTag, if_neg hg0, Option.map_eq_none_iff] at hg
  have := List.find?_eq_none.1 hg _ (mem_of_not_free hl)
  simpa [hl] using this

theorem lookupTag_eq_some_iff {g : Tag} (h : TableLaw s) (ht : TagLaw s) :
    lookupTag s g = some i ↔ g ≠ 0 ∧ (s.visitor i).lifecycle ≠ .free ∧ (s.visitor i).tag = g := by
  refine ⟨lookupTag_some h, fun ⟨hg0, hl, htag⟩ => ?_⟩
  cases hg : lookupTag s g with
  | none => exact absurd htag (tag_ne_of_lookupTag_none hg0 hg hl)
  | some j =>
    obtain ⟨-, hlj, htagj⟩ := lookupTag_some h hg
    obtain ⟨-, hone⟩ := ht
    rw [hone j i hlj hl (htagj.trans htag.symm)]

/-! ## The account of one entry -/

/-- What the conservation of charges asks of one entry (R20, R62, R81). -/
def Account (q : Rcq) (i : Nat) (v : Visitor) : Prop :=
  EntryLaw q i v ∧ TrafficLaw v ∧
    v.charged = v.settled + v.spilled + openCharge v + queuedCharge q i

theorem chargeLaw_iff : ChargeLaw s ↔ TableLaw s ∧ ∀ i : Nat, Account s.rcq i (s.visitor i) := Iff.rfl

theorem ChargeLaw.table (h : ChargeLaw s) : TableLaw s := (chargeLaw_iff.1 h).1

theorem ChargeLaw.account (h : ChargeLaw s) (i : Nat) : Account s.rcq i (s.visitor i) :=
  (chargeLaw_iff.1 h).2 i

/-- Of the record queue an account reads the records that name its entry. -/
theorem Account.of_queue {p q : Rcq} (h : Account q i v) (hn : queuedFor p i = queuedFor q i)
    (hc : queuedCharge p i = queuedCharge q i) : Account p i v := by
  unfold Account EntryLaw at *
  rwa [hn, hc]

/-- A change outside the sums of R81 keeps the account of an entry that is not FREE. -/
theorem Account.edit {q : Rcq} (h : Account q i v) (hv : v.lifecycle ≠ .free)
    (hl : w.lifecycle = v.lifecycle) (ho : w.openRecord = v.openRecord)
    (hs : (w.charged, w.settled, w.spilled) = (v.charged, v.settled, v.spilled)) :
    Account q i w := by
  obtain ⟨⟨-, hopen, hqueue⟩, htraffic, hsum⟩ := h
  simp only [Prod.mk.injEq] at hs
  obtain ⟨hc, hse, hsp⟩ := hs
  refine ⟨⟨fun hf => absurd (hl ▸ hf) hv, by rw [ho, hl, hopen], by rwa [hl]⟩, ?_, ?_⟩
  · rwa [TrafficLaw, ho]
  · rw [openCharge, ho, hc, hse, hsp]
    exact hsum

/-- An entry that holds an open record is ATTACHED or CLOSING (R20). -/
theorem Account.lifecycleOpen_of_open {q : Rcq} {r : OpenRecord} (h : Account q i v)
    (hr : v.openRecord = some r) : lifecycleOpen v.lifecycle = true := by
  obtain ⟨⟨-, hopen, -⟩, -⟩ := h
  rw [← hopen, hr]
  rfl

theorem lifecycle_ne_free_of_open (h : lifecycleOpen v.lifecycle = true) : v.lifecycle ≠ .free := by
  intro hf
  rw [hf] at h
  cases h

theorem Account.eq_freeEntry {q : Rcq} (h : Account q i v) (hf : v.lifecycle = .free) :
    v = Visitor.freeEntry := by
  obtain ⟨⟨hfree, -⟩, -⟩ := h
  exact hfree hf

/-- An entry with a mark is not FREE, since every mark of a FREE entry is clear (R20). -/
theorem Account.not_free_of_ne {q : Rcq} (h : Account q i v) (hv : v ≠ Visitor.freeEntry) :
    v.lifecycle ≠ .free := fun hf => hv (h.eq_freeEntry hf)

/-- An open record without traffic has charged nothing (R62). -/
theorem Account.charge_of_empty {q : Rcq} {r : OpenRecord} (h : Account q i v)
    (hr : v.openRecord = some r) : holdsTraffic r = false → recordCharge r = 0 := by
  obtain ⟨-, htraffic, -⟩ := h
  exact htraffic r hr

/-- A FREE entry with no record queued has a balanced account. -/
theorem account_freeEntry {q : Rcq} (h : queuedFor q i = 0) : Account q i Visitor.freeEntry := by
  have hnil : q.records.filter (fun r => r.index == i) = [] := List.length_eq_zero_iff.1 h
  refine ⟨⟨fun _ => rfl, rfl, fun _ => h⟩, by rintro r ⟨⟩, ?_⟩
  simp [queuedCharge, hnil, openCharge, Visitor.freeEntry]

/-- An open record that is to be replaced leaves its charge to be accounted for. -/
theorem Account.sum_of_open {q : Rcq} {r : OpenRecord} (h : Account q i v)
    (hr : v.openRecord = some r) :
    v.charged = v.settled + v.spilled + recordCharge r + queuedCharge q i := by
  obtain ⟨-, -, hsum⟩ := h
  rwa [openCharge, hr] at hsum

/-- An ATTACHED or CLOSING entry has a balanced account when its sums agree. -/
theorem account_of_open {q : Rcq} {r : OpenRecord} (hl : lifecycleOpen v.lifecycle = true)
    (hr : v.openRecord = some r) (ht : holdsTraffic r = false → recordCharge r = 0)
    (hsum : v.charged = v.settled + v.spilled + recordCharge r + queuedCharge q i) :
    Account q i v := by
  refine ⟨⟨fun hf => absurd hf (lifecycle_ne_free_of_open hl), by rw [hr, hl]; rfl, fun hn => ?_⟩,
    fun x hx => ?_, ?_⟩
  · rw [hl] at hn
    cases hn
  · rw [hr] at hx
    cases hx
    exact ht
  · rwa [openCharge, hr]

/-! ## States -/

/-- A state that lists the same entries and records obeys the law too. -/
theorem ChargeLaw.of_same (h : ChargeLaw s) (he : t.vtb.entries = s.vtb.entries)
    (hq : t.rcq.records = s.rcq.records) : ChargeLaw t := by
  have hvis : ∀ k, t.visitor k = s.visitor k := fun k => by rw [State.visitor, he]; rfl
  refine ⟨by rw [TableLaw, he]; exact h.table, fun k => ?_⟩
  rw [hvis]
  exact (h.account k).of_queue (by rw [queuedFor, hq]; rfl) (by rw [queuedCharge, hq]; rfl)

/-- The law is kept where one entry's account is balanced anew and neither the other entries nor the records that
name them change. -/
theorem ChargeLaw.replace (h : ChargeLaw s) (htable : TableLaw t)
    (hi : Account t.rcq i (t.visitor i)) (hother : ∀ k, k ≠ i → t.visitor k = s.visitor k)
    (hn : ∀ k, k ≠ i → queuedFor t.rcq k = queuedFor s.rcq k)
    (hc : ∀ k, k ≠ i → queuedCharge t.rcq k = queuedCharge s.rcq k) : ChargeLaw t := by
  refine ⟨htable, fun k => ?_⟩
  by_cases hk : k = i
  · subst hk
    exact hi
  · rw [hother k hk]
    exact (h.account k).of_queue (hn k hk) (hc k hk)

theorem ChargeLaw.visitor_setVisitor (h : ChargeLaw s) (i : Nat) (v : Visitor) :
    (s.setVisitor i v).visitor i = v := setVisitor_visitor_of_wf h.table i v

/-- A write of an entry whose account is balanced keeps the law. -/
theorem ChargeLaw.write (h : ChargeLaw s) (hv : Account s.rcq i v) : ChargeLaw (s.setVisitor i v) := by
  refine h.replace (i := i) (setVisitor_wf h.table i v) ?_
    (fun k hk => setVisitor_visitor_ne s v hk) (fun _ _ => rfl) (fun _ _ => rfl)
  rw [h.visitor_setVisitor]
  exact hv

end Sys2Proof.Machine
end

section
/-! SUPPORT. What a step may do to an entry, as relations between the entry before and after: a step that writes no
charge, a step of owed work or record keeping, and a step that charges (R49, R51, R81). -/

namespace Sys2Proof.Machine

/-! ## One entry -/

/-- The figures that the rules on charging speak of stand as they are. -/
structure SameBalance (v w : Visitor) : Prop where
  lifecycle : w.lifecycle = v.lifecycle
  tag : w.tag = v.tag
  allowance : w.allowance = v.allowance
  charged : w.charged = v.charged
  credit : w.credit = v.credit

/-- Besides, ROAMING is evaluated only where a review is owed (R21, R88). -/
structure Steady (v w : Visitor) : Prop extends SameBalance v w where
  reviewed : v.reviewMark = false → w.reviewMark = false ∧ w.roaming = v.roaming

/-- What the handling of packets may do: a charge falls on an ATTACHED entry that is not BARRED, was not EXHAUSTED
and owes no review any more, and an allowance is only used up (R33, R49, R51). -/
structure Charging (v w : Visitor) : Prop where
  lifecycle : w.lifecycle = v.lifecycle
  tag : w.tag = v.tag
  allowance : w.allowance ≤ v.allowance
  exhausted : v.credit = .exhausted → w.credit = .exhausted
  reviewed : v.reviewMark = false → w.reviewMark = false ∧ w.roaming = v.roaming
  admitted : v.charged < w.charged → v.lifecycle = .attached ∧ v.credit ≠ .exhausted ∧
    w.roaming ≠ .barred ∧ w.reviewMark = false

/-- What every other step may do: no charge and no allowance rises, and no entry is given a tag. -/
structure Quiet (v w : Visitor) : Prop where
  charged : w.charged ≤ v.charged
  allowance : w.allowance ≤ v.allowance
  named : w.lifecycle ≠ .free → v.lifecycle ≠ .free ∧ w.tag = v.tag

section Relations

variable {u v w : Visitor}

theorem SameBalance.refl (v : Visitor) : SameBalance v v := ⟨rfl, rfl, rfl, rfl, rfl⟩

theorem SameBalance.trans (h : SameBalance u v) (k : SameBalance v w) : SameBalance u w :=
  ⟨k.lifecycle.trans h.lifecycle, k.tag.trans h.tag, k.allowance.trans h.allowance,
    k.charged.trans h.charged, k.credit.trans h.credit⟩

theorem SameBalance.quiet (h : SameBalance v w) : Quiet v w :=
  ⟨h.charged.le, h.allowance.le, fun hw => ⟨h.lifecycle ▸ hw, h.tag⟩⟩

theorem Steady.refl (v : Visitor) : Steady v v := ⟨.refl v, fun h => ⟨h, rfl⟩⟩

theorem reviewed_trans (h : u.reviewMark = false → v.reviewMark = false ∧ v.roaming = u.roaming)
    (k : v.reviewMark = false → w.reviewMark = false ∧ w.roaming = v.roaming)
    (hu : u.reviewMark = false) : w.reviewMark = false ∧ w.roaming = u.roaming := by
  obtain ⟨hv, hvr⟩ := h hu
  obtain ⟨hw, hwr⟩ := k hv
  exact ⟨hw, hwr.trans hvr⟩

theorem Steady.trans (h : Steady u v) (k : Steady v w) : Steady u w :=
  ⟨h.toSameBalance.trans k.toSameBalance, reviewed_trans h.reviewed k.reviewed⟩

theorem Steady.quiet (h : Steady v w) : Quiet v w := h.toSameBalance.quiet

theorem Steady.charging (h : Steady v w) : Charging v w :=
  ⟨h.lifecycle, h.tag, h.allowance.le, fun hc => h.credit.trans hc, h.reviewed,
    fun hc => absurd hc h.charged.not_gt⟩

theorem Charging.refl (v : Visitor) : Charging v v := (Steady.refl v).charging

/-- Once charged, an entry owes no review, so ROAMING stays as the charge met it. -/
theorem Charging.trans (h : Charging u v) (k : Charging v w) : Charging u w := by
  refine ⟨k.lifecycle.trans h.lifecycle, k.tag.trans h.tag, k.allowance.trans h.allowance,
    fun hc => k.exhausted (h.exhausted hc), reviewed_trans h.reviewed k.reviewed, fun hc => ?_⟩
  by_cases hlater : v.charged < w.charged
  · obtain ⟨hl, hcredit, hrest⟩ := k.admitted hlater
    exact ⟨h.lifecycle ▸ hl, fun hu => hcredit (h.exhausted hu), hrest⟩
  · obtain ⟨hl, hcredit, hroaming, hmark⟩ := h.admitted (hc.trans_le (Nat.not_lt.1 hlater))
    obtain ⟨hmark', hroaming'⟩ := k.reviewed hmark
    exact ⟨hl, hcredit, hroaming' ▸ hroaming, hmark'⟩

theorem Quiet.refl (v : Visitor) : Quiet v v := (SameBalance.refl v).quiet

theorem Quiet.trans (h : Quiet u v) (k : Quiet v w) : Quiet u w := by
  refine ⟨k.charged.trans h.charged, k.allowance.trans h.allowance, fun hw => ?_⟩
  obtain ⟨hv, htag⟩ := k.named hw
  obtain ⟨hu, htag'⟩ := h.named hv
  exact ⟨hu, htag.trans htag'⟩

theorem Quiet.of_freeEntry (v : Visitor) : Quiet v Visitor.freeEntry :=
  ⟨Nat.zero_le _, Nat.zero_le _, fun h => absurd rfl h⟩

end Relations

/-! ## Every entry, with the conservation of charges -/

/-- A step keeps the conservation of charges and does to every entry what a relation allows. -/
def Keeps (R : Visitor → Visitor → Prop) (s t : State) : Prop :=
  ChargeLaw s → ChargeLaw t ∧ ∀ i : Nat, R (s.visitor i) (t.visitor i)

section Keeps

variable {R S : Visitor → Visitor → Prop} {s t x : State} {i : Nat} {v : Visitor}

theorem Keeps.mono (h : Keeps R s t) (hRS : ∀ {v w}, R v w → S v w) : Keeps S s t := fun hs =>
  let ⟨ht, hR⟩ := h hs
  ⟨ht, fun i => hRS (hR i)⟩

theorem Keeps.trans (h : Keeps R s t) (hR : ∀ {u v w}, R u v → R v w → R u w) (k : Keeps R t x) :
    Keeps R s x := fun hs =>
  let ⟨ht, h1⟩ := h hs
  let ⟨hx, h2⟩ := k ht
  ⟨hx, fun i => hR (h1 i) (h2 i)⟩

/-- A step that changes no entry and no record. -/
theorem keeps_of_same (he : t.vtb.entries = s.vtb.entries) (hq : t.rcq.records = s.rcq.records)
    (hR : ∀ v, R v v) : Keeps R s t := fun hs =>
  ⟨hs.of_same he hq, fun i => by
    have hvis : t.visitor i = s.visitor i := by rw [State.visitor, he]; rfl
    rw [hvis]
    exact hR _⟩

/-- A first part that changes no entry and no record adds nothing. -/
theorem Keeps.after_same (h : Keeps R t x) (hv : t.vtb = s.vtb) (hq : t.rcq = s.rcq) :
    Keeps R s x := fun hs => by
  have hvis : ∀ i, t.visitor i = s.visitor i := fun i => by rw [State.visitor, hv]; rfl
  obtain ⟨hx, hR⟩ := h (hs.of_same (by rw [hv]) (by rw [hq]))
  exact ⟨hx, fun i => hvis i ▸ hR i⟩

/-- A step whose law is known and which changes one entry. -/
theorem keeps_of_one (hlaw : ChargeLaw s → ChargeLaw t) (hR : ∀ v, R v v)
    (hi : ChargeLaw s → R (s.visitor i) (t.visitor i))
    (hother : ∀ j, j ≠ i → t.visitor j = s.visitor j) : Keeps R s t := fun hs =>
  ⟨hlaw hs, fun j => by
    by_cases hj : j = i
    · subst hj
      exact hi hs
    · rw [hother j hj]
      exact hR _⟩

/-- A write of one entry. -/
theorem setVisitor_keeps (hR : ∀ v, R v v)
    (hv : Account s.rcq i (s.visitor i) → Account s.rcq i v) (hi : R (s.visitor i) v) :
    Keeps R s (s.setVisitor i v) :=
  keeps_of_one (fun hs => hs.write (hv (hs.account i))) hR
    (fun hs => (hs.visitor_setVisitor i v).symm ▸ hi) (fun _ hj => setVisitor_visitor_ne s v hj)

end Keeps

end Sys2Proof.Machine
end

section
/-! SUPPORT. What the operations on visitor entries and records do to the conservation of charges and to each entry:
the close, the review and the owed work, the charge, attachment, removal and release (R24, R28, R30, R49, R65, R66,
R69, R77, R88). -/

namespace Sys2Proof.Machine

variable {s t : State} {i : Nat} {r : OpenRecord}

/-! ## The record queue -/

theorem queuedFor_append (q : Rcq) (x : Record) (k : Nat) (p : Rcq)
    (hp : p.records = q.records ++ [x]) :
    queuedFor p k = queuedFor q k + if x.index = k then 1 else 0 := by
  by_cases hx : x.index = k <;> simp [queuedFor, hp, List.filter_append, hx]

theorem queuedCharge_append (q : Rcq) (x : Record) (k : Nat) (p : Rcq)
    (hp : p.records = q.records ++ [x]) :
    queuedCharge p k = queuedCharge q k + if x.index = k then recordCharge x.contents else 0 := by
  by_cases hx : x.index = k <;> simp [queuedCharge, hp, List.filter_append, hx]

theorem queuedFor_cons (q : Rcq) (x : Record) (k : Nat) (p : Rcq)
    (hq : q.records = x :: p.records) :
    queuedFor q k = queuedFor p k + if x.index = k then 1 else 0 := by
  by_cases hx : x.index = k <;> simp [queuedFor, hq, hx]

theorem queuedCharge_cons (q : Rcq) (x : Record) (k : Nat) (p : Rcq)
    (hq : q.records = x :: p.records) :
    queuedCharge q k = queuedCharge p k + if x.index = k then recordCharge x.contents else 0 := by
  by_cases hx : x.index = k <;> simp [queuedCharge, hq, hx, Nat.add_comm]

/-! ## The close of a record -/

/-- A record opened has counted and charged nothing (R63). -/
theorem openNow_charge (s : State) (v : Visitor) : recordCharge (openNow s v) = 0 := rfl

@[simp] theorem reopen_rcq : (reopen i s).rcq = s.rcq := rfl

/-- A new record in place of one whose charge is accounted for elsewhere. -/
theorem account_reopened {q : Rcq} {x : State} {v : Visitor} (hl : lifecycleOpen v.lifecycle = true)
    (hsum : v.charged = v.settled + v.spilled + queuedCharge q i) :
    Account q i { v with openRecord := some (openNow x v) } :=
  account_of_open hl rfl (fun _ => rfl) (by rw [openNow_charge]; exact hsum)

theorem reopen_visitor_ne (s : State) {k : Nat} (hk : k ≠ i) : (reopen i s).visitor k = s.visitor k :=
  setVisitor_visitor_ne s _ hk

/-- An EMPTY close discards a record that has charged nothing (R65). -/
theorem closeEmpty_chargeLaw (hs : ChargeLaw s) (hr : (s.visitor i).openRecord = some r)
    (ht : holdsTraffic r = false) : ChargeLaw (reopen i s) := by
  have hacc := hs.account i
  have hsum := hacc.sum_of_open hr
  rw [hacc.charge_of_empty hr ht] at hsum
  exact hs.write (account_reopened (hacc.lifecycleOpen_of_open hr) hsum)

/-- A QUEUED close moves the charge of the open record into the queue (R65, R72). -/
theorem closeQueued_chargeLaw (hs : ChargeLaw s) (hr : (s.visitor i).openRecord = some r) (tag : Tag)
    (why : CloseReason) : ChargeLaw (reopen i (joinQueue i tag why r s)) := by
  have hacc := hs.account i
  have hsum := hacc.sum_of_open hr
  have hrecords := congrArg Rcq.records (joinQueue_rcq (s := s) (i := i) (why := why) (r := r) tag)
  have hn := fun k => queuedFor_append s.rcq _ k _ hrecords
  have hc := fun k => queuedCharge_append s.rcq _ k _ hrecords
  dsimp only at hn hc
  refine hs.replace (i := i) (setVisitor_wf (by rw [joinQueue_frame]; exact hs.table) i _) ?_
    (fun k hk => (reopen_visitor_ne _ hk).trans (joinQueue_visitor tag k)) (fun k hk => ?_)
    (fun k hk => ?_)
  · rw [reopen_visitor, joinQueue_visitor, reopen_rcq]
    exact account_reopened (hacc.lifecycleOpen_of_open hr) (by rw [hc, if_pos rfl]; omega)
  · rw [reopen_rcq, hn, if_neg hk.symm]; rfl
  · rw [reopen_rcq, hc, if_neg hk.symm]; rfl

/-- A SPILLED close moves the charge of the open record into SPILLED (R65, R73). -/
theorem closeSpilled_chargeLaw (hs : ChargeLaw s) (hr : (s.visitor i).openRecord = some r) :
    ChargeLaw (reopen i (spillRecord i r s)) := by
  have hacc := hs.account i
  have hsum := hacc.sum_of_open hr
  have hqueue : queuedCharge (spillRecord i r s).rcq i = queuedCharge s.rcq i := rfl
  refine hs.replace (i := i) (setVisitor_wf (setVisitor_wf hs.table i _) i _) ?_
    (fun k hk => (reopen_visitor_ne _ hk).trans (setVisitor_visitor_ne s _ hk))
    (fun _ _ => rfl) (fun _ _ => rfl)
  rw [reopen_visitor, spillRecord_visitor hr, reopen_rcq]
  exact account_reopened (hacc.lifecycleOpen_of_open hr) (by dsimp only; rw [hqueue]; omega)

theorem closeRecord_chargeLaw (why : CloseReason) (hs : ChargeLaw s) :
    ChargeLaw (closeRecord i why s).1 := by
  cases hr : (s.visitor i).openRecord with
  | none => simpa [closeRecord, hr] using hs
  | some r =>
    cases ht : holdsTraffic r with
    | false =>
      rw [closeRecord_of_empty hr ht]
      exact closeEmpty_chargeLaw hs hr ht
    | true =>
      by_cases hq : held s.rcq < Config.recordQueueSize
      · rw [closeRecord_of_room hr ht hq]
        exact closeQueued_chargeLaw hs hr _ why
      · rw [closeRecord_of_full hr ht (Nat.not_lt.1 hq)]
        exact closeSpilled_chargeLaw hs hr

theorem closeRecord_keeps (i : Nat) (why : CloseReason) (s : State) :
    Keeps Steady s (closeRecord i why s).1 := by
  refine keeps_of_one (i := i) (closeRecord_chargeLaw why) Steady.refl (fun _ => ?_)
    (fun j hj => closeRecord_visitor_ne why s hj)
  cases hr : (s.visitor i).openRecord with
  | none =>
    simp only [closeRecord, hr]
    exact .refl _
  | some r =>
    obtain ⟨a, n, hv⟩ := closeRecord_visitor why hr
    rw [hv]
    exact ⟨⟨rfl, rfl, rfl, rfl, rfl⟩, fun h => ⟨h, rfl⟩⟩

/-! ## Reviews and owed work -/

/-- The review writes ROAMING and counts, and closes the record at a difference (R66). -/
theorem review_eq (i : Nat) (s : State) : ∃ t : State,
    t.vtb = (s.setVisitor i
      { s.visitor i with roaming := roamingNow s (s.visitor i).partner }).vtb ∧ t.rcq = s.rcq ∧
    (review i s = t ∨ ∃ why, review i s = (closeRecord i why t).1) := by
  unfold review
  dsimp only
  split
  · refine ⟨_, ?_, ?_, .inl rfl⟩ <;> rfl
  · split
    · refine ⟨_, ?_, ?_, .inl rfl⟩ <;> rfl
    · next why _ => refine ⟨_, ?_, ?_, .inr ⟨why, rfl⟩⟩ <;> rfl

theorem review_keeps (hi : (s.visitor i).lifecycle ≠ .free) : Keeps SameBalance s (review i s) := by
  obtain ⟨t, hv, hq, hreview⟩ := review_eq i s
  have hwrite : Keeps SameBalance s (s.setVisitor i
      { s.visitor i with roaming := roamingNow s (s.visitor i).partner }) :=
    setVisitor_keeps .refl (fun h => h.edit hi rfl rfl rfl) ⟨rfl, rfl, rfl, rfl, rfl⟩
  have hset : Keeps SameBalance s t :=
    hwrite.trans SameBalance.trans (keeps_of_same (by rw [hv]) (by rw [hq]; rfl) .refl)
  rcases hreview with he | ⟨why, he⟩ <;> rw [he]
  · exact hset
  · exact hset.trans SameBalance.trans ((closeRecord_keeps i why t).mono (·.toSameBalance))

theorem review_visitor_ne (s : State) {j : Nat} (hj : j ≠ i) :
    (review i s).visitor j = s.visitor j := by
  obtain ⟨t, hv, -, hreview⟩ := review_eq i s
  have ht : t.visitor j = s.visitor j := by
    rw [State.visitor, hv]
    exact setVisitor_visitor_ne s _ hj
  rcases hreview with he | ⟨why, he⟩ <;> rw [he]
  · exact ht
  · rw [closeRecord_visitor_ne why t hj, ht]

/-- Marks are cleared, of whichever entry: a FREE one has none. -/
theorem unmark_keeps (s : State) (i : Nat) (b c : Bool) :
    Keeps Steady s (s.setVisitor i { s.visitor i with
      reviewMark := (s.visitor i).reviewMark && b, closeMark := (s.visitor i).closeMark && c }) := by
  refine setVisitor_keeps .refl (fun h => ?_) ⟨⟨rfl, rfl, rfl, rfl, rfl⟩, fun hm => by simp [hm]⟩
  by_cases hf : s.visitor i = Visitor.freeEntry
  · rw [hf] at h ⊢
    exact h
  · exact h.edit (h.not_free_of_ne hf) rfl rfl rfl

theorem clearMarks_keeps (i : Nat) (s : State) : Keeps Steady s (clearMarks i s) := by
  simpa [clearMarks] using unmark_keeps s i false false

theorem owedClose_keeps (i : Nat) (s : State) : Keeps Steady s (owedClose i s) := by
  unfold owedClose
  split
  · exact (closeRecord_keeps i _ s).trans Steady.trans
      (by simpa using unmark_keeps (closeRecord i (sweepCloseReason s.rse.closeReason) s).1 i true false)
  · exact keeps_of_same rfl rfl .refl

theorem owedReview_keeps (i : Nat) (s : State) : Keeps Steady s (owedReview i s) := by
  unfold owedReview
  split
  · next hmark =>
    intro hs
    have hfree : (s.visitor i).lifecycle ≠ .free :=
      (hs.account i).not_free_of_ne fun e => by rw [e] at hmark; cases hmark
    have hunmark := (unmark_keeps (review i s) i false true).mono (·.toSameBalance)
    simp only [Bool.and_false, Bool.and_true] at hunmark
    obtain ⟨ht, hbalance⟩ := (review_keeps hfree).trans SameBalance.trans hunmark hs
    refine ⟨ht, fun j => ?_⟩
    by_cases hj : j = i
    · subst hj
      exact ⟨hbalance j, fun hn => absurd hmark (by simp [hn])⟩
    · have hsame := (setVisitor_visitor_ne (review i s)
        { (review i s).visitor i with reviewMark := false } hj).trans (review_visitor_ne s hj)
      dsimp only
      rw [hsame]
      exact .refl _
  · exact keeps_of_same rfl rfl .refl

theorem owedWork_keeps (i : Nat) (s : State) : Keeps Steady s (owedWork i s) := by
  unfold owedWork
  split
  · exact ((owedClose_keeps i s).trans Steady.trans (owedReview_keeps i _)).trans Steady.trans
      (keeps_of_same (by simp) (by simp) .refl)
  · exact keeps_of_same rfl rfl .refl

theorem owedReview_unmarked (hs : ChargeLaw s) :
    ((owedReview i s).visitor i).reviewMark = false := by
  unfold owedReview
  split
  · next hmark =>
    have hfree : (s.visitor i).lifecycle ≠ .free :=
      (hs.account i).not_free_of_ne fun e => by rw [e] at hmark; cases hmark
    dsimp only
    rw [(review_keeps hfree hs).1.visitor_setVisitor]
  · next hmark => simpa using hmark

/-- After the owed work an entry owes no review (R88). -/
theorem owedWork_unmarked (hs : ChargeLaw s) :
    ((owedWork i s).visitor i).reviewMark = false := by
  unfold owedWork
  split
  · rw [refreshEngine_visitor]
    exact owedReview_unmarked (owedClose_keeps i s hs).1
  · next hmarks => simp_all

/-! ## Admission and the charge -/

/-- A packet is admitted only of an entry that is ATTACHED, not BARRED and not EXHAUSTED (R33). -/
theorem admission_passes {uplink : Bool} {v : Visitor} (h : admission uplink s v = none) :
    v.lifecycle = .attached ∧ v.roaming ≠ .barred ∧ v.credit ≠ .exhausted := by
  have hl : v.lifecycle = .attached :=
    Classical.not_not.1 fun hl => by simp [admission_of_not_attached uplink hl] at h
  have hr : v.roaming ≠ .barred := fun hr => by simp [admission_of_barred uplink hl hr] at h
  exact ⟨hl, hr, fun hc => by simp [admission_of_exhausted uplink hl hr hc] at h⟩

theorem countRefusal_entries (u : Vtb) (why : Refused) : (countRefusal u why).entries = u.entries := by
  cases why <;> rfl

theorem blockPacket_keeps (why : Refused) (hi : (s.visitor i).lifecycle ≠ .free) :
    Keeps Steady s (blockPacket i why s) :=
  (setVisitor_keeps (v := { s.visitor i with
      blocked := saturateInc Config.max32 (s.visitor i).blocked }) .refl
    (fun h => h.edit hi rfl rfl rfl) ⟨⟨rfl, rfl, rfl, rfl, rfl⟩, fun h => ⟨h, rfl⟩⟩).trans Steady.trans
    (keeps_of_same (countRefusal_entries _ why) rfl .refl)

theorem volumeClose_keeps (i n : Nat) (d : Direction) (s : State) :
    Keeps Steady s (volumeClose i n d s) := by
  unfold volumeClose
  split
  · exact keeps_of_same rfl rfl .refl
  · split
    · exact closeRecord_keeps i .volume s
    · exact keeps_of_same rfl rfl .refl

theorem holdsTraffic_recordCharged (v : Visitor) (r : OpenRecord) (n : Nat) (d : Direction) :
    holdsTraffic (recordCharged v r n d) = true := by
  cases d <;> simp [holdsTraffic_iff, recordCharged]

/-- The record gains what CHARGED gains (R53). -/
theorem recordCharge_recordCharged (v : Visitor) (r : OpenRecord) (n : Nat) (d : Direction) :
    recordCharge (recordCharged v r n d) = recordCharge r + (entryFee v r + volumeCharge v r n) := by
  cases d <;> simp only [recordCharge, recordCharged] <;> omega

theorem Account.charged {q : Rcq} {v : Visitor} (h : Account q i v) (hr : v.openRecord = some r)
    (n : Nat) (d : Direction) : Account q i (visitorCharged v r n d) := by
  refine account_of_open (v := visitorCharged v r n d) (h.lifecycleOpen_of_open hr) rfl (fun hn => ?_) ?_
  · rw [holdsTraffic_recordCharged] at hn
    cases hn
  · have hsum := h.sum_of_open hr
    rw [recordCharge_recordCharged]
    simp only [visitorCharged, chargedAfter]
    omega

theorem writeCharge_vtb (i n : Nat) (d : Direction) (v : Visitor) (r : OpenRecord) (s : State) :
    (writeCharge i n d v r s).vtb = (s.setVisitor i (visitorCharged v r n d)).vtb := by
  unfold writeCharge
  dsimp only
  split
  · exact offerCredit_vtb i _
  · rfl

/-- A charge written to an admitted entry (R49 to R53). -/
theorem writeCharge_keeps (n : Nat) (d : Direction) (hr : (s.visitor i).openRecord = some r)
    (hl : (s.visitor i).lifecycle = .attached) (hroaming : (s.visitor i).roaming ≠ .barred)
    (hcredit : (s.visitor i).credit ≠ .exhausted) (hmark : (s.visitor i).reviewMark = false) :
    Keeps Charging s (writeCharge i n d (s.visitor i) r s) := by
  have hwrite : Keeps Charging s (s.setVisitor i (visitorCharged (s.visitor i) r n d)) :=
    setVisitor_keeps .refl (fun h => h.charged hr n d)
      ⟨rfl, rfl, Nat.sub_le _ _, fun h => absurd h hcredit, fun _ => ⟨hmark, rfl⟩,
        fun _ => ⟨hl, hcredit, hroaming, hmark⟩⟩
  exact hwrite.trans Charging.trans
    (keeps_of_same (by rw [writeCharge_vtb]) (by rw [writeCharge_rcq]; rfl) .refl)

/-- The charge of a packet that has been admitted after the owed work (R11, R14, R49). -/
theorem charge_keeps (n : Nat) (d : Direction)
    (hl : (s.visitor i).lifecycle = .attached) (hroaming : (s.visitor i).roaming ≠ .barred)
    (hcredit : (s.visitor i).credit ≠ .exhausted) (hmark : (s.visitor i).reviewMark = false) :
    Keeps Charging s (charge i n d s).1 := by
  intro hs
  have hvolume := volumeClose_keeps i n d s
  obtain ⟨-, hsteady⟩ := hvolume hs
  obtain ⟨⟨hlifecycle, -, -, -, hcredit'⟩, hreviewed⟩ := hsteady i
  obtain ⟨hmark', hroaming'⟩ := hreviewed hmark
  rw [hl] at hlifecycle
  rw [← hcredit'] at hcredit
  rw [← hroaming'] at hroaming
  refine (hvolume.mono (·.charging)).trans Charging.trans ?_ hs
  unfold charge
  dsimp only
  split
  · exact keeps_of_same rfl rfl .refl
  · next r hr =>
    split
    · exact (blockPacket_keeps .exhausted (by simp [hlifecycle])).mono (·.charging)
    · exact writeCharge_keeps n d hr hlifecycle hroaming hcredit hmark'

/-! ## Attachment, removal and release -/

/-- A PROVISIONED entry has no open record, so its first opens on a balanced account (R24). -/
theorem Account.attached {q : Rcq} {v w : Visitor} (h : Account q i v)
    (hp : v.lifecycle = .provisioned) (hl : w.lifecycle = .attached) (ho : w.openRecord = some r)
    (hr : recordCharge r = 0)
    (hs : (w.charged, w.settled, w.spilled) = (v.charged, v.settled, v.spilled)) :
    Account q i w := by
  obtain ⟨⟨-, hopen, -⟩, -, hsum⟩ := h
  simp only [Prod.mk.injEq] at hs
  obtain ⟨hc, hse, hsp⟩ := hs
  rw [hp] at hopen
  have hnone : v.openRecord = none := by
    simpa using show v.openRecord.isSome = false from hopen
  rw [openCharge, hnone] at hsum
  exact account_of_open (by rw [hl]; rfl) ho (fun _ => hr) (by rw [hc, hse, hsp, hr]; exact hsum)

theorem attach_keeps (hp : (s.visitor i).lifecycle = .provisioned) :
    Keeps Quiet s (attach i s) := by
  have hwrite : ∀ (x : Roaming) (v : Visitor), Keeps Quiet s (s.setVisitor i { s.visitor i with
      lifecycle := .attached, roaming := x, reviewMark := false, openRecord := some (openNow s v) }) :=
    fun _ _ => setVisitor_keeps .refl (fun h => h.attached hp rfl rfl rfl rfl)
      ⟨le_rfl, le_rfl, fun _ => ⟨by simp [hp], rfl⟩⟩
  exact (hwrite _ _).trans Quiet.trans
    (keeps_of_same (by rw [attach, refreshEngine_vtb]; rfl) (by simp) .refl)

theorem becomeFree_keeps (hq : queuedFor s.rcq i = 0) : Keeps Quiet s (becomeFree i s) :=
  (setVisitor_keeps .refl (fun _ => account_freeEntry hq) (.of_freeEntry _)).trans Quiet.trans
    (keeps_of_same (by simp [becomeFree]) (by simp) .refl)

/-- A removal from ATTACHED keeps the record opened at its close (R28). -/
theorem Account.closing {q : Rcq} {v : Visitor} (h : Account q i v) (hv : v.lifecycle = .attached) :
    Account q i { v with lifecycle := .closing } := by
  obtain ⟨⟨-, hopen, -⟩, htraffic, hsum⟩ := h
  rw [hv] at hopen
  exact ⟨⟨by rintro ⟨⟩, hopen, by rintro ⟨⟩⟩, htraffic, hsum⟩

theorem removeClosing_keeps (ha : (s.visitor i).lifecycle = .attached) :
    Keeps Quiet s (removeClosing i s).1 := by
  intro hs
  have hclose := (clearMarks_keeps i s).trans Steady.trans
    (closeRecord_keeps i .removed (clearMarks i s))
  obtain ⟨-, hsteady⟩ := hclose hs
  have hl := (hsteady i).lifecycle.trans ha
  exact (hclose.mono (·.quiet)).trans Quiet.trans
    (setVisitor_keeps .refl (fun h => h.closing hl) ⟨le_rfl, le_rfl, fun _ => ⟨by simp [hl], rfl⟩⟩) hs

theorem removeSettled_keeps (i : Nat) (s : State) : Keeps Quiet s (removeSettled i s) := by
  unfold removeSettled
  split
  · next hq => exact becomeFree_keeps hq
  · exact keeps_of_same (by simp) (by simp) .refl

/-- An entry that a queued record names holds an open record (R20, R27). -/
theorem Account.open_of_queued {q : Rcq} {v : Visitor} (h : Account q i v) (hn : queuedFor q i ≠ 0) :
    lifecycleOpen v.lifecycle = true ∧ ∃ r, v.openRecord = some r := by
  obtain ⟨⟨-, hsome, hqueue⟩, -⟩ := h
  have hopen : lifecycleOpen v.lifecycle = true :=
    (Bool.not_eq_false _).mp fun hclosed => hn (hqueue hclosed)
  exact ⟨hopen, Option.isSome_iff_exists.1 (hsome.trans hopen)⟩

/-- The charge of a released record goes from the queue into SETTLED (R77, R81). -/
theorem release_keeps {x : Record} {q : Rcq} (hx : s.rcq.records = x :: q.records) :
    Keeps Quiet s ((s.setRcq q).setVisitor x.index { s.visitor x.index with
      settled := (s.visitor x.index).settled + recordCharge x.contents }) := by
  have hn := fun k => queuedFor_cons s.rcq x k q hx
  have hc := fun k => queuedCharge_cons s.rcq x k q hx
  have hother : ∀ j, j ≠ x.index → ∀ v, ((s.setRcq q).setVisitor x.index v).visitor j = s.visitor j :=
    fun j hj v => setVisitor_visitor_ne (s.setRcq q) v hj
  have hread : ChargeLaw s → ∀ v, ((s.setRcq q).setVisitor x.index v).visitor x.index = v :=
    fun hs => setVisitor_visitor_of_wf (s := s.setRcq q) hs.table x.index
  refine keeps_of_one (i := x.index) (fun hs => ?law) .refl (fun hs => ?entry)
    (fun j hj => hother j hj _)
  case law =>
    have hacc := hs.account x.index
    obtain ⟨hopen, r, hr⟩ := hacc.open_of_queued (by rw [hn, if_pos rfl]; omega)
    have hsum := hacc.sum_of_open hr
    rw [hc, if_pos rfl] at hsum
    refine hs.replace (i := x.index) (setVisitor_wf hs.table _ _) ?_ (fun j hj => hother j hj _)
      (fun k hk => ?_) (fun k hk => ?_)
    · rw [hread hs]
      exact account_of_open hopen hr (hacc.charge_of_empty hr)
        (by dsimp only [State.setVisitor_rcq, State.setRcq_rcq]; omega)
    · rw [hn k, if_neg hk.symm]; rfl
    · rw [hc k, if_neg hk.symm]; rfl
  case entry =>
    rw [hread hs]
    exact ⟨le_rfl, le_rfl, fun hl => ⟨hl, rfl⟩⟩

theorem releaseHead_keeps {x : Record} {left : List Record} (hx : s.rcq.records = x :: left) :
    Keeps Quiet s (releaseHead x left s) := by
  have hrelease := release_keeps (q := { s.rcq with records := left }) hx
  unfold releaseHead releaseEntry
  dsimp only
  split
  · next hq => exact hrelease.trans Quiet.trans (becomeFree_keeps hq.2)
  · exact hrelease

theorem releaseRecords_keeps : ∀ (n : Nat) (s : State), Keeps Quiet s (releaseRecords n s)
  | 0, _ => keeps_of_same rfl rfl .refl
  | n + 1, s => by
    unfold releaseRecords
    split
    · exact keeps_of_same rfl rfl .refl
    · next hx => exact (releaseHead_keeps hx).trans Quiet.trans (releaseRecords_keeps n _)

/-! ## The restart's pass -/

theorem restartClose_keeps (i : Nat) (s : State) : Keeps Steady s (restartClose i s).1 := by
  unfold restartClose
  split
  · exact closeRecord_keeps i .restart s
  · exact keeps_of_same rfl rfl .refl

theorem restartEntry_keeps (x : RestartRun) (hi : (s.visitor i).lifecycle ≠ .free) :
    Keeps Quiet s (restartEntry i x s) :=
  have hreview := (review_keeps hi).mono (·.quiet)
  have hclose := (restartClose_keeps i (review i s)).trans Steady.trans (clearMarks_keeps i _)
  (hreview.trans Quiet.trans (hclose.mono (·.quiet))).trans Quiet.trans
    (keeps_of_same (by simp [restartEntry]) (by simp [restartEntry]) .refl)

theorem nextRestartEntry_not_free {n : Nat} (h : TableLaw s) (hi : nextRestartEntry n s = some i) :
    (s.visitor i).lifecycle ≠ .free := by
  obtain ⟨e, he, rfl⟩ := Option.map_eq_some_iff.1 hi
  have hp : n ≤ e.1 ∧ e.2.lifecycle ≠ .free := by simpa using List.find?_some he
  rw [visitor_of_mem h (List.mem_of_find?_eq_some he)]
  exact hp.2

end Sys2Proof.Machine
end

section
/-! SUPPORT. What the conservation of charges reads of a state, as a view that leaves out the marks and ZONES_CHARGED;
the operations that leave this view as it stands, one lemma per operation. -/

namespace Sys2Proof.Machine

/-! ## The view -/

/-- An entry without the fields that neither the conservation of charges nor the rules on charging read. -/
def ledger (v : Visitor) : Visitor :=
  if v.lifecycle = .free then v
  else { v with reviewMark := false, closeMark := false, zonesCharged := 0 }

/-- What the conservation of charges reads of a state. -/
def books (s : State) : Table Visitor × List Record :=
  (tableMap ledger s.vtb.entries, s.rcq.records)

section View

variable {s t : State} {i : Nat} {v : Visitor}

theorem ledger_of_free (h : v.lifecycle = .free) : ledger v = v := if_pos h

theorem ledger_of_not_free (h : v.lifecycle ≠ .free) :
    ledger v = { v with reviewMark := false, closeMark := false, zonesCharged := 0 } := if_neg h

theorem ledger_sameBalance (v : Visitor) : SameBalance v (ledger v) := by
  unfold ledger
  split <;> exact ⟨rfl, rfl, rfl, rfl, rfl⟩

theorem ledger_eq_freeEntry (v : Visitor) : ledger v = Visitor.freeEntry ↔ v = Visitor.freeEntry := by
  refine ⟨fun h => ?_, fun h => by rw [h]; rfl⟩
  have hfree : v.lifecycle = .free := by rw [← (ledger_sameBalance v).lifecycle, h]; rfl
  rw [← ledger_of_free hfree, h]

theorem account_ledger {q : Rcq} : Account q i (ledger v) ↔ Account q i v := by
  by_cases h : v.lifecycle = .free
  · rw [ledger_of_free h]
  · have hl := (ledger_sameBalance v).lifecycle
    have hfields : (ledger v).openRecord = v.openRecord ∧ ((ledger v).charged, (ledger v).settled,
        (ledger v).spilled) = (v.charged, v.settled, v.spilled) := by
      rw [ledger_of_not_free h]
      exact ⟨rfl, rfl⟩
    obtain ⟨ho, hs⟩ := hfields
    exact ⟨fun ha => ha.edit (by rwa [hl]) hl.symm ho.symm hs.symm, fun ha => ha.edit h hl ho hs⟩

/-- A map that gives the unlisted value to no other value neither makes nor breaks the canonical form. -/
theorem tableMap_wf_iff {α : Type} {d : α} {f : α → α} (hf : ∀ x, f x = d ↔ x = d) (t : Table α) :
    tableWf d (tableMap f t) ↔ tableWf d t := by
  refine ⟨fun ⟨hp, hd⟩ => ⟨?_, fun e he hx => ?_⟩,
    tableMap_wf d f (fun x hx h => hx ((hf x).1 h)) t⟩
  · rw [tableMap, List.pairwise_map] at hp
    exact hp
  · exact hd _ (List.mem_map_of_mem he) ((hf _).2 hx)

/-- The view decides the conservation of charges and keeps every entry's figures. -/
theorem keeps_of_books (e : books t = books s) : Keeps SameBalance s t := by
  obtain ⟨he, hq⟩ := Prod.mk.inj e
  have hread : ∀ (x : State) (k : Nat),
      tableRead Visitor.freeEntry (tableMap ledger x.vtb.entries) k = ledger (x.visitor k) :=
    fun x k => tableRead_map _ ledger rfl k _
  have hvis : ∀ k, ledger (t.visitor k) = ledger (s.visitor k) := fun k => by
    rw [← hread, he, hread]
  refine fun hs => ⟨⟨?_, fun k => ?_⟩, fun k => ?_⟩
  · have htable := (tableMap_wf_iff ledger_eq_freeEntry _).2 hs.table
    rw [← he] at htable
    exact (tableMap_wf_iff ledger_eq_freeEntry _).1 htable
  · have hacc := account_ledger.2 (hs.account k)
    rw [← hvis] at hacc
    exact (account_ledger.1 hacc).of_queue (by rw [queuedFor, hq]; rfl) (by rw [queuedCharge, hq]; rfl)
  · have hs' := ledger_sameBalance (s.visitor k)
    have ht' := ledger_sameBalance (t.visitor k)
    rw [hvis] at ht'
    exact ⟨ht'.lifecycle.symm.trans hs'.lifecycle, ht'.tag.symm.trans hs'.tag,
      ht'.allowance.symm.trans hs'.allowance, ht'.charged.symm.trans hs'.charged,
      ht'.credit.symm.trans hs'.credit⟩

theorem quiet_of_books (e : books t = books s) : Keeps Quiet s t :=
  (keeps_of_books e).mono (·.quiet)

end View

variable {s : State}

/-! ## One field -/

@[simp] theorem books_setShi (x : Shi) : books (s.setShi x) = books s := rfl
@[simp] theorem books_setRtu (x : Rtu) : books (s.setRtu x) = books s := rfl
@[simp] theorem books_setRse (x : Rse) : books (s.setRse x) = books s := rfl
@[simp] theorem books_setZnu (x : Znu) : books (s.setZnu x) = books s := rfl
@[simp] theorem books_setPsv (x : PerPath Psv) : books (s.setPsv x) = books s := rfl
@[simp] theorem books_setPsl (x : Psl) : books (s.setPsl x) = books s := rfl
@[simp] theorem books_setDrs (x : Drs) : books (s.setDrs x) = books s := rfl
@[simp] theorem books_setCvu (x : Cvu) : books (s.setCvu x) = books s := rfl
@[simp] theorem books_setCfu (x : Cfu) : books (s.setCfu x) = books s := rfl
@[simp] theorem books_setNtu (x : Ntu) : books (s.setNtu x) = books s := rfl
@[simp] theorem books_setClocks (x : Clocks) : books (s.setClocks x) = books s := rfl
@[simp] theorem books_setPending (x : List Instr) : books (s.setPending x) = books s := rfl
@[simp] theorem books_setPort (p : Path) (x : ShorePort) : books (s.setPort p x) = books s := rfl
@[simp] theorem books_setPath (p : Path) (x : Psv) : books (s.setPath p x) = books s := rfl
@[simp] theorem books_setCell (c : Cell) (x : CellHead) : books (s.setCell c x) = books s := rfl
@[simp] theorem books_modPort (p : Path) (f : ShorePort → ShorePort) :
    books (s.modPort p f) = books s := rfl
@[simp] theorem books_modPath (p : Path) (f : Psv → Psv) : books (s.modPath p f) = books s := rfl
@[simp] theorem books_countShip (f : ShipCounters → ShipCounters) :
    books (s.countShip f) = books s := rfl
@[simp] theorem books_countShore (p : Path) (f : ShoreCounters → ShoreCounters) :
    books (s.countShore p f) = books s := rfl
@[simp] theorem books_returnBuffers (n : Nat) : books (s.returnBuffers n) = books s := rfl
@[simp] theorem books_takeBuffer : books s.takeBuffer = books s := rfl
@[simp] theorem books_raiseNotice (x : Source) : books (raiseNotice x s) = books s := rfl
@[simp] theorem books_refreshEngine : books (refreshEngine s) = books s := by simp [books]

theorem books_setRcq {q : Rcq} (h : q.records = s.rcq.records) : books (s.setRcq q) = books s := by
  simp [books, h]

/-! ## Marks -/

theorem tableMap_tableMap {α : Type} (f g : α → α) (t : Table α) :
    tableMap f (tableMap g t) = tableMap (f ∘ g) t := by simp [tableMap, Function.comp_def]

/-- A change of every entry that the ledgers do not show. -/
theorem books_of_map {t : State} {f : Visitor → Visitor} (hf : ∀ v, ledger (f v) = ledger v)
    (he : t.vtb.entries = tableMap f s.vtb.entries) (hq : t.rcq = s.rcq) : books t = books s := by
  have hcomp : ledger ∘ f = ledger := funext hf
  rw [books, he, tableMap_tableMap, hcomp, hq]
  rfl

theorem ledger_setReviewMark (v : Visitor) : ledger (setReviewMark v) = ledger v := by
  by_cases h : v.lifecycle = .free <;> simp [setReviewMark, ledger, h]

theorem ledger_setPartnerReviewMark (n : Fin 128) (v : Visitor) :
    ledger (setPartnerReviewMark n v) = ledger v := by
  unfold setPartnerReviewMark
  split
  · rfl
  · next h => simp [ledger, not_or.1 h]

theorem ledger_setCloseMark (v : Visitor) : ledger (setCloseMark v) = ledger v := by
  unfold setCloseMark
  split
  · next h => simp [ledger, lifecycle_ne_free_of_open h]
  · rfl

theorem ledger_voyageVisitor (v : Visitor) : ledger (voyageVisitor v) = ledger v := by
  by_cases h : v.lifecycle = .free <;> simp [voyageVisitor, ledger, h]

@[simp] theorem books_bulkReview : books (bulkReview s) = books s :=
  books_of_map ledger_setReviewMark (by simp [bulkReview]) (by simp)

@[simp] theorem books_partnerReview (n : Fin 128) : books (partnerReview n s) = books s :=
  books_of_map (ledger_setPartnerReviewMark n) (by simp [partnerReview]) (by simp)

@[simp] theorem books_bulkClose : books (bulkClose s) = books s :=
  books_of_map ledger_setCloseMark (by simp [bulkClose]) (by simp)

/-! ## Coverage -/

@[simp] theorem books_retarget : books (retarget s) = books s := by simp [books]
@[simp] theorem books_heartbeat (c : Cell) (level : Nat) : books (heartbeat c level s) = books s := by
  simp [books]
@[simp] theorem books_heartbeatLoss (c : Cell) : books (heartbeatLoss c s) = books s := by
  simp [books]

/-! ## The selector -/

@[simp] theorem books_computeCandidate : books (computeCandidate s) = books s := rfl
@[simp] theorem books_closeDrain (p : Path) : books (closeDrain p s) = books s := rfl
@[simp] theorem books_clearConfirm : books (clearConfirm s) = books s := rfl
@[simp] theorem books_makeDue (p : Path) (d : Due) : books (makeDue p d s) = books s := rfl
@[simp] theorem books_withdrawDue (p : Path) (f : Due → Bool) :
    books (withdrawDue p f s) = books s := rfl
@[simp] theorem books_withdrawPathSwap : books (withdrawPathSwap s) = books s := rfl
@[simp] theorem books_flushQueue (p : Path) : books (flushQueue p s) = books s := rfl
@[simp] theorem books_splice (a b : Path) : books (splice a b s) = books s := rfl
@[simp] theorem books_drainIfUp (p : Path) : books (drainIfUp p s) = books s := by simp [books]
@[simp] theorem books_swapDrain (a : Option Path) (b : Path) :
    books (swapDrain a b s) = books s := by simp [books]

@[simp] theorem books_swapTo (b : Path) (cause : SwapCause) : books (swapTo b cause s) = books s := by
  unfold swapTo
  dsimp only
  split <;> simp

@[simp] theorem books_enterNoBackhaul (a : Path) : books (enterNoBackhaul a s) = books s := by
  simp [enterNoBackhaul]

@[simp] theorem books_leaveActive (a : Path) : books (leaveActive a s) = books s := by
  unfold leaveActive
  dsimp only
  split <;> simp

@[simp] theorem books_activate : books (activate s) = books s := by
  unfold activate
  dsimp only
  (repeat' split) <;> simp

@[simp] theorem books_pathEntersUp (p : Path) : books (pathEntersUp p s) = books s := by
  unfold pathEntersUp
  dsimp only
  split <;> simp

@[simp] theorem books_pathLeavesUp (p : Path) : books (pathLeavesUp p s) = books s := by
  unfold pathLeavesUp
  dsimp only
  split <;> simp

@[simp] theorem books_selectorZoneChange : books (selectorZoneChange s) = books s := by
  unfold selectorZoneChange
  (repeat' split) <;> simp

@[simp] theorem books_advanceConfirm (b : Path) : books (advanceConfirm b s) = books s := by
  unfold advanceConfirm
  dsimp only
  split <;> simp

@[simp] theorem books_evaluateCases : books (evaluateCases s) = books s := by
  unfold evaluateCases
  (repeat' split) <;> simp

@[simp] theorem books_evaluate : books (evaluate s) = books s := by simp [evaluate]

@[simp] theorem books_selectorRestart : books (selectorRestart s) = books s := by
  simp [selectorRestart]

/-! ## Zones -/

@[simp] theorem books_zoneChange (z : Zone) (cause : ChangeCause) :
    books (zoneChange z cause s) = books s := by simp [zoneChange]

@[simp] theorem books_positionExpiry : books (positionExpiry s) = books s := by
  unfold positionExpiry
  dsimp only
  split <;> simp

@[simp] theorem books_positionReport (lat lon : Int) :
    books (positionReport lat lon s).1 = books s := by
  unfold positionReport
  dsimp only
  split <;> simp

/-! ## Paths -/

@[simp] theorem books_cleanUp (g : Bool) (p : Path) : books (cleanUp g p s) = books s := rfl
@[simp] theorem books_startSurvey (p : Path) : books (startSurvey p s) = books s := rfl
@[simp] theorem books_countIgnored (p : Path) : books (countIgnored p s) = books s := rfl
@[simp] theorem books_countStray (p : Path) : books (countStray p s) = books s := rfl

@[simp] theorem books_startOrDefer (p : Path) : books (startOrDefer p s) = books s := by
  unfold startOrDefer
  split <;> simp

@[simp] theorem books_completeSurvey (p : Path) (es : List SurveyEntry) :
    books (completeSurvey p es s) = books s := by
  unfold completeSurvey
  dsimp only
  (repeat' split) <;> simp

@[simp] theorem books_updateSurvey (p : Path) (run : SurveyRun) (es : List SurveyEntry) :
    books (updateSurvey p run es s) = books s := by
  unfold updateSurvey
  split <;> simp

@[simp] theorem books_acceptArrives (p : Path) : books (acceptArrives p s) = books s := by
  unfold acceptArrives
  split <;> simp

@[simp] theorem books_answerProbe (p : Path) (id : BitVec 8) (value : BitVec 32) :
    books (answerProbe p id value s) = books s := by
  unfold answerProbe
  split <;> simp

@[simp] theorem books_probeArrives (p : Path) (id : BitVec 8) (value : BitVec 32) :
    books (probeArrives p id value s) = books s := by
  unfold probeArrives
  (repeat' split) <;> simp

@[simp] theorem books_echoTaken (p : Path) (id : BitVec 8) : books (echoTaken p id s) = books s := by
  unfold echoTaken
  (repeat' split) <;> simp

@[simp] theorem books_echoArrives (p : Path) (id : BitVec 8) :
    books (echoArrives p id s) = books s := by
  unfold echoArrives
  split <;> simp

@[simp] theorem books_pathOpenDue (p : Path) : books (pathOpenDue p s) = books s := by
  unfold pathOpenDue
  split <;> simp

@[simp] theorem books_settleExpiry (p : Path) : books (settleExpiry p s) = books s := by
  simp [settleExpiry]

@[simp] theorem books_openExpiry (p : Path) : books (openExpiry p s) = books s := by
  unfold openExpiry
  split <;> simp

@[simp] theorem books_surveyNext (p : Path) (run : SurveyRun) :
    books (surveyNext p run s) = books s := by
  unfold surveyNext
  split <;> simp

@[simp] theorem books_probeExpiry (p : Path) : books (probeExpiry p s) = books s := by
  unfold probeExpiry
  dsimp only
  split <;> simp

@[simp] theorem books_idleExpiry (p : Path) : books (idleExpiry p s) = books s := by
  unfold idleExpiry
  dsimp only
  split <;> simp

@[simp] theorem books_gapEnd (p : Path) : books (gapEnd p s) = books s := by
  unfold gapEnd
  dsimp only
  (repeat' split) <;> simp

@[simp] theorem books_deadlineExpiry (p : Path) (id : BitVec 8) :
    books (deadlineExpiry p id s) = books s := by
  unfold deadlineExpiry
  (repeat' split) <;> simp

@[simp] theorem books_carrierArrives (p : Path) : books (carrierArrives p s) = books s := by
  unfold carrierArrives
  dsimp only
  split <;> simp

@[simp] theorem books_carrierLost (p : Path) : books (carrierLost p s) = books s := by
  unfold carrierLost
  dsimp only
  (repeat' split) <;> simp

@[simp] theorem books_disablePath (p : Path) : books (disablePath p s) = books s := by
  unfold disablePath
  dsimp only
  (repeat' split) <;> simp

@[simp] theorem books_enablePath (p : Path) : books (enablePath p s) = books s := by
  unfold enablePath
  split <;> simp

@[simp] theorem books_pathRestart (p : Path) : books (pathRestart p s) = books s := by
  unfold pathRestart
  split <;> simp

/-! ## The transmitters, the requests' queues and the restart -/

@[simp] theorem books_shoreSend (p : Path) (body : List Byte) :
    books (shoreSend p body s) = books s := by rw [shoreSend_eq]; simp

@[simp] theorem books_takeSupervision (p : Path) (d : Due) (left : List Due) :
    books (takeSupervision p d left s) = books s := by simp [takeSupervision]

@[simp] theorem books_takeShoreReply (p : Path) (r : Reply) :
    books (takeShoreReply p r s) = books s := by simp [takeShoreReply]

@[simp] theorem books_takeUser : books (takeUser s) = books s := by
  unfold takeUser
  split <;> rfl

@[simp] theorem books_takeGrant (c : Cell) : books (takeGrant c s) = books s := rfl
@[simp] theorem books_takeShipReply (r : Reply) : books (takeShipReply r s) = books s := rfl
@[simp] theorem books_takeNotice (x : Source) : books (takeNotice x s) = books s := rfl

@[simp] theorem books_takeOwn : books (takeOwn s) = books s := by
  unfold takeOwn
  (repeat' split) <;> simp

@[simp] theorem books_shipTake : books (shipTake s) = books s := by
  unfold shipTake
  split <;> simp

@[simp] theorem books_offerShip (r : Request) : books (offerShip r s) = books s := by
  unfold offerShip
  split <;> simp

@[simp] theorem books_offerShore (p : Path) (r : Request) : books (offerShore p r s) = books s := by
  unfold offerShore
  split <;> simp

@[simp] theorem books_restartStages : books (restartStages s) = books s := by
  have hfirst : books (restartPackets (restartNotices s)) = books s := rfl
  simp [restartStages, Path.all, hfirst]

@[simp] theorem books_tickTimers : books (tickTimers s) = books s := rfl

end Sys2Proof.Machine
end

section
/-! SUPPORT. The handling of packets: what an uplink packet does to its entry at arrival and at its taking, and a
downlink packet in the delivery run (R10, R11, R14, R24, R34, R148 to R152). -/

namespace Sys2Proof.Machine

variable {s t : State} {i : Nat}

/-! ## Downlink -/

/-- A step of the handling that changes no entry and no record. -/
theorem charging_of_same (hv : t.vtb = s.vtb) (hq : t.rcq = s.rcq) : Keeps Charging s t :=
  keeps_of_same (by rw [hv]) (by rw [hq]) .refl

/-- Steps 5 to 7 of the delivery, for a packet that has been admitted (R14). -/
theorem deliverCharged_keeps (h : Held) (c : Cell)
    (hl : (s.visitor i).lifecycle = .attached) (hroaming : (s.visitor i).roaming ≠ .barred)
    (hcredit : (s.visitor i).credit ≠ .exhausted) (hmark : (s.visitor i).reviewMark = false) :
    Keeps Charging s (deliverCharged i h c s) := by
  have hcharge := charge_keeps h.length .down hl hroaming hcredit hmark
  unfold deliverCharged
  dsimp only
  split
  · exact charging_of_same rfl rfl
  · split <;> exact hcharge.trans Charging.trans (charging_of_same rfl rfl)

theorem countSubstitution_visitor (b : Bool) (s : State) (i : Nat) :
    (countSubstitution b s).visitor i = s.visitor i := by cases b <;> rfl

/-- Steps 3 to 7 of the delivery, after the owed work (R14). -/
theorem deliverTo_keeps (h : Held) (hi : (s.visitor i).lifecycle ≠ .free)
    (hmark : (s.visitor i).reviewMark = false) : Keeps Charging s (deliverTo i h s) := by
  have hrefuse : ∀ why, Keeps Charging s (refuseHeld i why s) := fun why =>
    ((blockPacket_keeps why hi).mono (·.charging)).trans Charging.trans (charging_of_same rfl rfl)
  unfold deliverTo
  split
  · exact hrefuse _
  · next hadmitted =>
    obtain ⟨hl, hroaming, hcredit⟩ := admission_passes hadmitted
    split
    · exact hrefuse _
    · next c b _ =>
      have hvis := countSubstitution_visitor b s i
      exact (deliverCharged_keeps h c (by rwa [hvis]) (by rwa [hvis]) (by rwa [hvis])
        (by rwa [hvis])).after_same (by simp) (by simp)

/-- After the owed work of an entry that a tag names, the entry is not FREE and owes no review (R11, R14, R88). -/
theorem owedWork_of_lookup {g : Tag} (hs : ChargeLaw s) (hg : lookupTag s g = some i) :
    ((owedWork i s).visitor i).lifecycle ≠ .free ∧ ((owedWork i s).visitor i).reviewMark = false := by
  obtain ⟨-, hl, -⟩ := lookupTag_some hs.table hg
  obtain ⟨-, hsteady⟩ := owedWork_keeps i s hs
  exact ⟨by rwa [(hsteady i).lifecycle], owedWork_unmarked hs⟩

theorem downlinkDelivery_keeps (h : Held) (s : State) : Keeps Charging s (downlinkDelivery h s) := by
  unfold downlinkDelivery
  split
  · exact charging_of_same rfl rfl
  · next hg =>
    intro hs
    obtain ⟨hl, hmark⟩ := owedWork_of_lookup hs hg
    exact ((owedWork_keeps _ s).mono (·.charging)).trans Charging.trans (deliverTo_keeps h hl hmark) hs

theorem deliver_keeps (h : Held) (s : State) : Keeps Charging s (deliver h s) :=
  (downlinkDelivery_keeps h _).after_same rfl rfl

theorem deliverNext_keeps (h : Held) (left : List Held) (s : State) :
    Keeps Charging s (deliverNext h left s) :=
  (deliver_keeps h _).after_same rfl rfl

theorem deliverRun_keeps : ∀ (run : List Held) (s : State), Keeps Charging s (deliverRun run s)
  | [], _ => charging_of_same rfl rfl
  | h :: left, s => by
    unfold deliverRun
    split
    · exact (deliverNext_keeps h left s).trans Charging.trans (deliverRun_keeps left _)
    · exact charging_of_same rfl rfl

theorem deliverAll_keeps : ∀ (out : List Held) (s : State), Keeps Charging s (deliverAll out s)
  | [], _ => charging_of_same rfl rfl
  | h :: left, s => (deliver_keeps h s).trans Charging.trans (deliverAll_keeps left _)

theorem placeNear_keeps (h : Held) (s : State) : Keeps Charging s (placeNear h s) := by
  unfold placeNear
  split
  · exact (deliverNext_keeps h _ s).trans Charging.trans (deliverRun_keeps _ _)
  · split <;> exact charging_of_same rfl rfl

theorem jumpTo_keeps (next : BitVec 16) (s : State) : Keeps Charging s (jumpTo next s) :=
  ((deliverAll_keeps _ _).trans Charging.trans (deliverRun_keeps _ _)).after_same rfl rfl

theorem jump_keeps (h : Held) (s : State) : Keeps Charging s (jump h s) :=
  ((jumpTo_keeps _ s).trans Charging.trans (placeNear_keeps h _)).trans Charging.trans
    (charging_of_same rfl rfl)

theorem placeLocked_keeps (h : Held) (s : State) : Keeps Charging s (placeLocked h s) := by
  unfold placeLocked
  dsimp only
  split
  · exact placeNear_keeps h s
  · split
    · exact jump_keeps h s
    · exact charging_of_same rfl rfl

theorem checkGapTimer_keeps (s : State) : Keeps Charging s (checkGapTimer s) :=
  charging_of_same (by simp) (by simp)

theorem resequence_keeps (h : Held) (s : State) : Keeps Charging s (resequence h s) := by
  unfold resequence
  split
  · exact (placeLocked_keeps h s).trans Charging.trans (checkGapTimer_keeps _)
  · exact ((placeNear_keeps h _).trans Charging.trans (checkGapTimer_keeps _)).after_same rfl rfl

theorem gapExpiry_keeps (s : State) : Keeps Charging s (gapExpiry s) := by
  unfold gapExpiry
  dsimp only
  split
  · exact (checkGapTimer_keeps _).after_same rfl rfl
  · exact ((deliverRun_keeps _ _).trans Charging.trans (checkGapTimer_keeps _)).after_same rfl rfl

theorem resync_keeps (s : State) : Keeps Charging s (resync s) := by
  unfold resync
  split
  · exact (deliverAll_keeps _ _).after_same rfl rfl
  · exact charging_of_same rfl rfl

theorem resyncIf_keeps (b : Bool) (s : State) : Keeps Charging s (resyncIf b s) := by
  cases b with
  | false => exact charging_of_same rfl rfl
  | true => exact resync_keeps s

theorem downlinkArrival_keeps (h : Held) (s : State) : Keeps Charging s (downlinkArrival h s) := by
  unfold downlinkArrival
  split
  · exact charging_of_same rfl rfl
  · exact (resequence_keeps h _).after_same rfl rfl

theorem dataArrives_keeps (p : Path) (src : Mac) (b : List Byte) (s : State) :
    Keeps Charging s (dataArrives p src b s) := by
  unfold dataArrives
  split
  · exact charging_of_same rfl rfl
  · split
    · exact charging_of_same rfl rfl
    · exact (downlinkArrival_keeps _ _).after_same rfl rfl

/-! ## The uplink taking -/

theorem sendData_keeps (p : Path) (e : UplinkEntry) (s : State) : Keeps Charging s (sendData p e s) := by
  unfold sendData
  dsimp only
  rw [shoreSend_eq]
  exact charging_of_same rfl rfl

theorem takeAdmitted_keeps (p : Path) (e : UplinkEntry) (hi : (s.visitor i).lifecycle ≠ .free)
    (hmark : (s.visitor i).reviewMark = false) : Keeps Charging s (takeAdmitted p i e s) := by
  unfold takeAdmitted
  split
  · exact (blockPacket_keeps _ hi).mono (·.charging)
  · next hadmitted =>
    obtain ⟨hl, hroaming, hcredit⟩ := admission_passes hadmitted
    have hcharge := charge_keeps e.length .up hl hroaming hcredit hmark
    dsimp only
    split
    · exact hcharge.trans Charging.trans (sendData_keeps p e _)
    · exact hcharge

theorem takeUplink_keeps (p : Path) (e : UplinkEntry) (left : List UplinkEntry) (s : State) :
    Keeps Charging s (takeUplink p e left s) := by
  have hout : Keeps Charging s ((s.modPort p (fun x => { x with txQueue := left })).returnBuffers 1) :=
    charging_of_same rfl rfl
  unfold takeUplink
  dsimp only
  split
  · exact charging_of_same rfl rfl
  · next hg =>
    refine hout.trans Charging.trans fun hs => ?_
    obtain ⟨hl, hmark⟩ := owedWork_of_lookup hs hg
    exact ((owedWork_keeps _ _).mono (·.charging)).trans Charging.trans
      (takeAdmitted_keeps p e hl hmark) hs

/-! ## Arrival of a user packet -/

theorem attach_lifecycle (i : Nat) (s : State) : ((attach i s).visitor i).lifecycle = .attached := by
  have hread : ∀ v : Visitor, v.lifecycle = .attached → ((s.setVisitor i v).visitor i).lifecycle =
      .attached := fun v hv => by
    rw [setVisitor_visitor_self (ne_freeEntry_of_lifecycle (by simp [hv]))]
    exact hv
  rw [attach, refreshEngine_visitor]
  exact hread _ rfl

theorem attachLearning_keeps (i : Nat) (s : State) : Keeps Quiet s (attachLearning i s) := by
  unfold attachLearning
  split
  · next hp => exact attach_keeps hp
  · exact quiet_of_books rfl

theorem attachLearning_not_free (hi : (s.visitor i).lifecycle ≠ .free) :
    ((attachLearning i s).visitor i).lifecycle ≠ .free := by
  unfold attachLearning
  split
  · rw [attach_lifecycle]
    exact fun h => nomatch h
  · exact hi

@[simp] theorem books_uplinkQueue (e : UplinkEntry) : books (uplinkQueue e s) = books s := by
  unfold uplinkQueue
  (repeat' split) <;> simp

theorem uplinkAdmit_keeps (e : UplinkEntry) (hi : (s.visitor i).lifecycle ≠ .free) :
    Keeps Quiet s (uplinkAdmit i e s) := by
  unfold uplinkAdmit
  split
  · exact (blockPacket_keeps _ hi).mono (·.quiet)
  · have hlearn : Keeps Quiet s (s.setVisitor i { s.visitor i with servingCell := some e.cell }) :=
      setVisitor_keeps .refl (fun h => h.edit hi rfl rfl rfl) (SameBalance.quiet ⟨rfl, rfl, rfl, rfl, rfl⟩)
    exact hlearn.trans Quiet.trans (quiet_of_books (books_uplinkQueue e))

theorem uplinkArrival_keeps (e : UplinkEntry) (s : State) : Keeps Quiet s (uplinkArrival e s) := by
  unfold uplinkArrival
  split
  · exact quiet_of_books rfl
  · next hg =>
    intro hs
    obtain ⟨-, hl, -⟩ := lookupTag_some hs.table hg
    exact (attachLearning_keeps _ s).trans Quiet.trans
      (uplinkAdmit_keeps e (attachLearning_not_free hl)) hs

theorem userArrives_keeps (b : List Byte) (s : State) : Keeps Quiet s (userArrives b s) := by
  unfold userArrives
  split
  · exact quiet_of_books rfl
  · split
    · exact quiet_of_books rfl
    · split
      · exact quiet_of_books rfl
      · exact (uplinkArrival_keeps _ _).after_same rfl rfl

theorem shipSort_keeps (f : EthFrame) (kind : Byte) (s : State) : Keeps Quiet s (shipSort f kind s) := by
  unfold shipSort
  split
  · exact quiet_of_books rfl
  · split
    · exact quiet_of_books rfl
    · split
      · exact userArrives_keeps f.body s
      · refine quiet_of_books ?_
        unfold heartbeatArrives
        dsimp only
        split <;> simp
      · exact quiet_of_books (by simp [shipRequestArrives])

theorem shipArrival_keeps (f : EthFrame) (s : State) : Keeps Quiet s (shipArrival f s) := by
  unfold shipArrival
  split
  · exact quiet_of_books rfl
  · split
    · exact quiet_of_books rfl
    · split
      · exact quiet_of_books rfl
      · exact shipSort_keeps f _ s

end Sys2Proof.Machine
end

section
/-! SUPPORT. What every command does to the conservation of charges, the tag map and the entries' charges and
allowances (R19, R49, R51, R81): the requests, the events, and every step. -/

namespace Sys2Proof.Machine

variable {s t u : State} {i : Nat} {c : Instr}

/-! ## What a command may do -/

/-- From a state of the conservation of charges, the laws hold after a step. -/
structure KeepsLaws (s t : State) : Prop where
  charges : ChargeLaw t
  tags : TagLaw s → TagLaw t

/-- Besides the laws: who may be charged by a command, and which command raises an allowance (R49, R51). -/
structure Obeys (c : Instr) (s t : State) : Prop extends KeepsLaws s t where
  charged : ∀ i : Nat, (s.visitor i).charged < (t.visitor i).charged →
    (s.visitor i).lifecycle = .attached ∧ (t.visitor i).lifecycle = .attached ∧
      (t.visitor i).roaming ≠ .barred ∧ (s.visitor i).credit ≠ .exhausted
  allowance : ∀ i : Nat, (s.visitor i).lifecycle ≠ .free →
    (s.visitor i).allowance < (t.visitor i).allowance → ∃ port : Port, c = .visitorAllow port

/-- A step that gives no entry a tag keeps the tag map. -/
theorem TagLaw.of_named (h : TagLaw s) (hn : ∀ i, (t.visitor i).lifecycle ≠ .free →
    (s.visitor i).lifecycle ≠ .free ∧ (t.visitor i).tag = (s.visitor i).tag) : TagLaw t := by
  obtain ⟨hzero, hone⟩ := h
  refine ⟨fun i hi => ?_, fun i j hi hj htag => ?_⟩
  · obtain ⟨hsi, hti⟩ := hn i hi
    exact hti ▸ hzero i hsi
  · obtain ⟨hsi, hti⟩ := hn i hi
    obtain ⟨hsj, htj⟩ := hn j hj
    exact hone i j hsi hsj (hti.symm.trans (htag.trans htj))

theorem Keeps.obeys_of_quiet (h : Keeps Quiet s t) (hs : ChargeLaw s) : Obeys c s t := by
  obtain ⟨ht, hquiet⟩ := h hs
  exact ⟨⟨ht, fun htags => htags.of_named fun i => (hquiet i).named⟩,
    fun i hc => absurd hc (hquiet i).charged.not_gt,
    fun i _ ha => absurd ha (hquiet i).allowance.not_gt⟩

theorem Keeps.obeys_of_charging (h : Keeps Charging s t) (hs : ChargeLaw s) : Obeys c s t := by
  obtain ⟨ht, hcharging⟩ := h hs
  refine ⟨⟨ht, fun htags => htags.of_named fun i hi => ?_⟩, fun i hc => ?_,
    fun i _ ha => absurd ha (hcharging i).allowance.not_gt⟩
  · exact ⟨(hcharging i).lifecycle ▸ hi, (hcharging i).tag⟩
  · obtain ⟨hl, hcredit, hroaming, -⟩ := (hcharging i).admitted hc
    exact ⟨hl, (hcharging i).lifecycle.trans hl, hroaming, hcredit⟩

theorem Obeys.refl (hs : ChargeLaw s) : Obeys c s s := (quiet_of_books rfl).obeys_of_quiet hs

theorem visitor_of_vtb (h : t.vtb = s.vtb) (i : Nat) : t.visitor i = s.visitor i := by
  rw [State.visitor, h]
  rfl

/-- What follows a command's effects and changes no entry and no record adds nothing. -/
theorem Obeys.of_same (h : Obeys c s t) (hv : u.vtb = t.vtb) (hq : u.rcq = t.rcq) : Obeys c s u := by
  have hvis := visitor_of_vtb hv
  refine ⟨⟨h.charges.of_same (by rw [hv]) (by rw [hq]), fun hs => ?_⟩, fun i => ?_, fun i => ?_⟩
  · exact (h.tags hs).of_named fun i hi => by rw [hvis] at hi ⊢; exact ⟨hi, rfl⟩
  · rw [hvis]
    exact h.charged i
  · rw [hvis]
    exact h.allowance i

/-- What precedes a command's effects and changes no entry adds nothing. -/
theorem Obeys.after_same (h : Obeys c t u) (hv : t.vtb = s.vtb) : Obeys c s u := by
  have hvis := visitor_of_vtb hv
  refine ⟨⟨h.charges, fun hs => h.tags (hs.of_named fun i hi => ?_)⟩, fun i => ?_, fun i => ?_⟩
  · rw [hvis] at hi ⊢
    exact ⟨hi, rfl⟩
  · rw [← hvis]
    exact h.charged i
  · rw [← hvis]
    exact h.allowance i

/-! ## Requests -/

theorem Answer.Leaves.imp {P Q : State → Prop} {a : Answer} (h : a.Leaves P)
    (hPQ : ∀ t, P t → Q t) : a.Leaves Q := by
  cases a with
  | refused x => trivial
  | malformed why => trivial
  | done adjusted items records t => exact hPQ t h

/-- A choice whose condition the branches use. -/
theorem leaves_dite {P : State → Prop} {p : Prop} [Decidable p] {a b : Answer}
    (ha : p → a.Leaves P) (hb : ¬p → b.Leaves P) : (if p then a else b).Leaves P := by
  split
  · next h => exact ha h
  · next h => exact hb h

/-- A request on the entry it names, which is not FREE. -/
theorem leaves_entry {P : State → Prop} {k : Visitor → Answer}
    (h : (s.visitor i).lifecycle ≠ .free → (k (s.visitor i)).Leaves P) :
    (onVisitor i s k).Leaves P :=
  leaves_dite (fun _ => leaves_refused _) h

/-- The body of a command's request does what the command may do. -/
def BodyObeys (c : Instr) (body : Request → State → Answer) : Prop :=
  ∀ (r : Request) (s : State), ChargeLaw s → (body r s).Leaves (Obeys c s)

/-- A body that charges nothing. -/
def BodyQuiet (body : Request → State → Answer) : Prop :=
  ∀ (r : Request) (s : State), (body r s).Leaves (Keeps Quiet s)

theorem BodyQuiet.obeys {body : Request → State → Answer} (h : BodyQuiet body) : BodyObeys c body :=
  fun r s hs => (h r s).imp fun _ ht => ht.obeys_of_quiet hs

theorem settle_obeys {port : Port} {taken : List Name} {r : Request} {a : Answer}
    (hs : ChargeLaw s) (ha : a.Leaves (Obeys c s)) : Obeys c s (settle port taken r a s) := by
  have hplace : ∀ (x : Reply) (t : State), Obeys c s t → Obeys c s (placeReply port x t) :=
    fun x t h => h.of_same (by cases port <;> rfl) (by cases port <;> rfl)
  cases a with
  | refused x => exact hplace _ s (.refl hs)
  | malformed why => exact hplace _ _ ((Obeys.refl hs).of_same rfl rfl)
  | done adjusted items records t => exact hplace _ t ha

theorem takeNamed_obeys {port : Port} {fits : Name → Bool} {run : Request → State → State}
    (hrun : ∀ (r : Request) (t : State), ChargeLaw t → Obeys c t (run r t)) (hs : ChargeLaw s) :
    Obeys c s (takeNamed port fits run s) := by
  have hv : (dropRequest port s).vtb = s.vtb := by cases port <;> rfl
  have hq : (dropRequest port s).rcq = s.rcq := by cases port <;> rfl
  unfold takeNamed
  split
  · exact .refl hs
  · split
    · exact (hrun _ _ (hs.of_same (by rw [hv]) (by rw [hq]))).after_same hv
    · exact .refl hs

theorem execute_obeys {port : Port} {taken : List Name} {body : Request → State → Answer}
    (hb : BodyObeys c body) (r : Request) (s : State) (hs : ChargeLaw s) :
    Obeys c s (execute port taken body r s) := by
  refine settle_obeys hs ?_
  unfold answer
  split
  · next ha => exact generalCheck_leaves ha
  · exact hb r s hs

/-! ## The bodies of the requests on visitors -/

/-- A PROVISIONED entry has the sums of the FREE one whose place it takes (R23). -/
theorem Account.provisioned {q : Rcq} {v : Visitor} (h : Account q i Visitor.freeEntry)
    (hl : v.lifecycle = .provisioned) (ho : v.openRecord = none)
    (hsums : (v.charged, v.settled, v.spilled) = (0, 0, 0)) : Account q i v := by
  obtain ⟨⟨-, -, hqueue⟩, -, hsum⟩ := h
  simp only [Prod.mk.injEq] at hsums
  obtain ⟨hc, hse, hsp⟩ := hsums
  refine ⟨⟨fun hf => ?_, by rw [ho, hl]; rfl, fun _ => hqueue rfl⟩, fun x hx => ?_, ?_⟩
  · rw [hl] at hf
    cases hf
  · rw [ho] at hx
    cases hx
  · rw [openCharge, ho, hc, hse, hsp]
    exact hsum

/-- An entry with a tag that no other holds may join the tag map (R19). -/
theorem TagLaw.write {v : Visitor} (ht : TagLaw s) (hs : ChargeLaw s) (htag : v.tag ≠ 0)
    (hnew : ∀ j, (s.visitor j).lifecycle ≠ .free → (s.visitor j).tag ≠ v.tag) :
    TagLaw (s.setVisitor i v) := by
  obtain ⟨hzero, hone⟩ := ht
  have hread := hs.visitor_setVisitor i v
  have hother : ∀ j, j ≠ i → (s.setVisitor i v).visitor j = s.visitor j :=
    fun j hj => setVisitor_visitor_ne s v hj
  refine ⟨fun j hj => ?_, fun j k hj hk he => ?_⟩
  · by_cases hji : j = i
    · rwa [hji, hread]
    · rw [hother j hji] at hj ⊢
      exact hzero j hj
  · by_cases hji : j = i
    · by_cases hki : k = i
      · rw [hji, hki]
      · rw [hji, hread, hother k hki] at he
        rw [hother k hki] at hk
        exact absurd he.symm (hnew k hk)
    · rw [hother j hji] at hj he
      by_cases hki : k = i
      · rw [hki, hread] at he
        exact absurd he (hnew j hj)
      · rw [hother k hki] at hk he
        exact hone j k hj hk he

/-- The entry that a VISITOR_ADD fills is new to the queue and to the tag map (R22, R23). -/
theorem visitorFill_obeys {r : Request} {tag : Tag} {partner : Fin 128} {plan : Fin 8}
    (hs : ChargeLaw s) (hfree : (s.visitor i).lifecycle = .free) (htag : tag ≠ 0)
    (hnew : lookupTag s tag = none) :
    (visitorFill r i tag partner plan s).Leaves (Obeys c s) := by
  rw [visitorFill, leaves_done]
  generalize hv : visitorNew s tag partner plan _ _ _ = v
  obtain ⟨hl, ho, hvtag, hsums⟩ : v.lifecycle = .provisioned ∧ v.openRecord = none ∧ v.tag = tag ∧
      (v.charged, v.settled, v.spilled) = (0, 0, 0) := by rw [← hv]; exact ⟨rfl, rfl, rfl, rfl⟩
  have hacc := hs.account i
  rw [hacc.eq_freeEntry hfree] at hacc
  have hother : ∀ j, j ≠ i → (s.setVisitor i v).visitor j = s.visitor j :=
    fun j hj => setVisitor_visitor_ne s v hj
  refine ⟨⟨hs.write (hacc.provisioned hl ho hsums), fun ht => ht.write hs (hvtag ▸ htag) fun j hj =>
    hvtag ▸ tag_ne_of_lookupTag_none htag hnew hj⟩, fun j hc => ?charged, fun j hj ha => ?allowance⟩
  case charged =>
    by_cases hji : j = i
    · have hzero : v.charged = 0 := congrArg Prod.fst hsums
      rw [hji, hs.visitor_setVisitor, hzero] at hc
      exact absurd hc (Nat.not_lt_zero _)
    · rw [hother j hji] at hc
      exact absurd hc (lt_irrefl _)
  case allowance =>
    have hji : j ≠ i := by
      rintro rfl
      exact hj hfree
    rw [hother j hji] at ha
    exact absurd ha (lt_irrefl _)

/-- A tag in the range of TAG is not 0 (R22). -/
theorem ofInt_tag_ne_zero {x : Int} (hx : ¬(x < 1 ∨ (Config.max32 : Int) < x)) :
    BitVec.ofInt 32 x ≠ 0 := by
  intro h
  have h1 := congrArg BitVec.toNat h
  simp only [Config.max32] at hx
  simp at h1
  omega

theorem visitorAddBody_obeys : BodyObeys c visitorAddBody := fun _ _ hs =>
  leaves_need fun _ => leaves_need fun _ => leaves_need fun _ => leaves_need fun _ =>
  leaves_dite (fun _ => leaves_malformed _) fun hrange =>
  leaves_named fun _ => leaves_named fun _ => leaves_named fun _ =>
  leaves_dite (fun _ => leaves_refused _) fun hfree =>
  leaves_dite (fun _ => leaves_refused _) fun hnew =>
  visitorFill_obeys hs (Classical.not_not.1 hfree) (ofInt_tag_ne_zero hrange) (by simpa using hnew)

theorem visitorRemoveBody_quiet : BodyQuiet visitorRemoveBody := fun _ s =>
  leaves_needEntry fun i => by
    split
    · trivial
    · trivial
    · next hp =>
      rw [removeProvisioned, leaves_done]
      intro hs
      obtain ⟨⟨-, -, hqueue⟩, -⟩ := hs.account i
      exact becomeFree_keeps (hqueue (by rw [hp]; rfl)) hs
    · next ha =>
      rw [removeAttached, leaves_done]
      exact (removeClosing_keeps ha).trans Quiet.trans (removeSettled_keeps i _)

theorem visitorReadBody_quiet : BodyQuiet visitorReadBody := fun r s => by
  have hread : ∀ i, (readEntry i s).Leaves (Keeps Quiet s) := fun _ => quiet_of_books rfl
  unfold visitorReadBody
  split
  · trivial
  · trivial
  · exact leaves_named fun _ => hread _
  · exact leaves_ite trivial (leaves_named fun _ => hread _)

theorem visitorCreditBody_quiet : BodyQuiet visitorCreditBody := fun _ _ =>
  leaves_need fun _ => leaves_need fun _ => leaves_named fun _ => leaves_entry fun hi =>
  setVisitor_keeps .refl (fun h => h.edit hi rfl rfl rfl) ⟨le_rfl, le_rfl, fun _ => ⟨hi, rfl⟩⟩

/-- The confirmed charges leave CHARGED with the two counts that hold them (R79, R81). -/
theorem Account.settled {q : Rcq} {v : Visitor} (h : Account q i v) (hv : v.lifecycle ≠ .free) :
    Account q i (visitorSettled v) := by
  obtain ⟨⟨-, hopen, hqueue⟩, htraffic, hsum⟩ := h
  refine ⟨⟨fun hf => absurd hf hv, hopen, hqueue⟩, htraffic, ?_⟩
  show v.charged - (v.settled + v.spilled) = 0 + 0 + openCharge v + queuedCharge q i
  omega

theorem visitorSettleBody_quiet : BodyQuiet visitorSettleBody := fun _ _ =>
  leaves_needEntry fun _ => leaves_entry fun hi =>
  setVisitor_keeps .refl (fun h => h.settled hi) ⟨Nat.sub_le _ _, le_rfl, fun _ => ⟨hi, rfl⟩⟩

/-- VISITOR_ALLOW alone may raise an allowance, and it charges nothing (R59). -/
theorem visitorAllowBody_obeys (port : Port) : BodyObeys (.visitorAllow port) visitorAllowBody :=
  fun _ s hs => leaves_need fun _ => leaves_need fun a => leaves_named fun i =>
  leaves_entry fun hi => by
    have hwrite : Keeps (fun v w => w.charged ≤ v.charged ∧
        (w.lifecycle ≠ .free → v.lifecycle ≠ .free ∧ w.tag = v.tag)) s
        (s.setVisitor i { s.visitor i with allowance := (clamp 0 Config.max32 a).toNat }) :=
      setVisitor_keeps (fun _ => ⟨le_rfl, fun h => ⟨h, rfl⟩⟩) (fun h => h.edit hi rfl rfl rfl)
        ⟨le_rfl, fun _ => ⟨hi, rfl⟩⟩
    obtain ⟨ht, hentries⟩ := hwrite hs
    exact ⟨⟨ht, fun htags => htags.of_named fun j => (hentries j).2⟩,
      fun j hc => absurd hc (hentries j).1.not_gt, fun _ _ _ => ⟨port, rfl⟩⟩

/-! ## The bodies of the other requests -/

theorem unknownBody_quiet : BodyQuiet unknownBody := fun _ _ => trivial

theorem tariffLoadBody_quiet : BodyQuiet tariffLoadBody := fun _ _ =>
  leaves_need fun _ => leaves_need fun _ => leaves_need fun _ => leaves_need fun _ =>
  leaves_named fun _ => leaves_named fun _ => leaves_bankChecked (quiet_of_books rfl)

theorem tariffSwitchBody_quiet : BodyQuiet tariffSwitchBody := fun _ _ =>
  leaves_bankChecked (quiet_of_books (by simp))

theorem planLoadBody_quiet : BodyQuiet planLoadBody := fun _ _ =>
  leaves_need fun _ => leaves_named fun _ => quiet_of_books (by simp)

theorem partnerLoadBody_quiet : BodyQuiet partnerLoadBody := fun _ _ =>
  leaves_need fun _ => leaves_ite trivial <| leaves_named fun _ => quiet_of_books (by simp)

theorem rewound_records (b : Bool) (q : Rcq) : (rewound b q).records = q.records := by
  cases b <;> rfl

theorem recordDrainBody_quiet : BodyQuiet recordDrainBody := fun _ _ =>
  leaves_need fun _ => quiet_of_books (books_setRcq (rewound_records _ _))

theorem cursorForward_quiet (old : Rcq) (n : Nat) (s : State) :
    Keeps Quiet s (cursorForward old n s) := by
  unfold cursorForward
  split <;> exact quiet_of_books rfl

theorem recordReleaseBody_quiet : BodyQuiet recordReleaseBody := fun _ s =>
  leaves_need fun _ => leaves_ite trivial <|
  (releaseRecords_keeps _ s).trans Quiet.trans (cursorForward_quiet _ _ _)

theorem voyageStartBody_quiet : BodyQuiet voyageStartBody := fun _ _ =>
  quiet_of_books (books_of_map ledger_voyageVisitor rfl rfl)

theorem recordIntervalBody_quiet : BodyQuiet recordIntervalBody := fun _ _ =>
  leaves_need fun _ => quiet_of_books rfl

theorem recordFlushBody_quiet : BodyQuiet recordFlushBody := fun _ _ => quiet_of_books (by simp)

theorem zoneLoadBody_quiet : BodyQuiet zoneLoadBody := fun _ _ =>
  leaves_need fun _ => leaves_ite trivial <| leaves_named fun _ => leaves_ite trivial <|
  quiet_of_books (by split <;> simp)

theorem zoneDefaultsBody_quiet : BodyQuiet zoneDefaultsBody := fun _ _ =>
  leaves_ite trivial <| leaves_ite trivial <| quiet_of_books (by split <;> simp)

theorem positionBody_quiet : BodyQuiet positionBody := fun _ _ =>
  leaves_need fun _ => leaves_need fun _ => leaves_ite (quiet_of_books (by simp)) trivial

theorem zoneForceBody_quiet : BodyQuiet zoneForceBody := fun _ _ =>
  leaves_need fun _ => leaves_named fun _ =>
  leaves_ite (quiet_of_books (by split <;> simp)) trivial

theorem pathConfigBody_quiet : BodyQuiet pathConfigBody := fun _ _ =>
  leaves_need fun _ => leaves_ite trivial <| leaves_named fun _ =>
  quiet_of_books (by unfold surchargeMarks; split <;> simp)

theorem pathEnableBody_quiet : BodyQuiet pathEnableBody := fun _ _ =>
  leaves_needPath fun _ => quiet_of_books (by simp)

theorem pathDisableBody_quiet : BodyQuiet pathDisableBody := fun _ _ =>
  leaves_needPath fun _ => quiet_of_books (by simp)

theorem pathSurveyBody_quiet : BodyQuiet pathSurveyBody := fun _ _ =>
  leaves_needPath fun _ => leaves_ite (leaves_ite trivial (quiet_of_books (by simp))) trivial

theorem pathTestBody_quiet : BodyQuiet pathTestBody := fun _ s =>
  leaves_needPath fun p => by
    have htest : ∀ t, books t = books s → (doneState p t).Leaves (Keeps Quiet s) :=
      fun _ => quiet_of_books
    split
    · exact htest _ rfl
    · exact htest _ rfl
    · exact htest _ rfl
    all_goals trivial

theorem selectConfigBody_quiet : BodyQuiet selectConfigBody := fun _ _ => quiet_of_books rfl

theorem pathPinBody_quiet : BodyQuiet pathPinBody := fun _ _ =>
  leaves_need fun _ => leaves_named fun _ => quiet_of_books rfl

/-- RESYNC delivers the packets held, which charges their entries (R152). -/
theorem reseqConfigBody_obeys : BodyObeys c reseqConfigBody := fun r s hs => by
  rw [reseqConfigBody, leaves_done]
  refine Keeps.obeys_of_charging ?_ hs
  exact (resyncIf_keeps _ _).after_same rfl rfl

theorem cellConfigBody_quiet : BodyQuiet cellConfigBody := fun _ _ =>
  leaves_need fun _ => leaves_named fun _ => leaves_ite trivial (quiet_of_books (by simp))

theorem grantConfigBody_quiet : BodyQuiet grantConfigBody := fun _ _ => quiet_of_books rfl

theorem clockSetBody_quiet : BodyQuiet clockSetBody := fun _ _ =>
  leaves_need fun _ => quiet_of_books rfl

theorem statusReadBody_quiet (port : Port) : BodyQuiet (statusReadBody port) := fun _ _ =>
  leaves_named fun _ => quiet_of_books (by cases port <;> rfl)

theorem noticeArmBody_quiet : BodyQuiet noticeArmBody := fun _ _ => quiet_of_books rfl

theorem noticeClearBody_quiet : BodyQuiet noticeClearBody := fun _ _ => quiet_of_books rfl

theorem creditListReadBody_quiet : BodyQuiet creditListReadBody := fun _ _ => quiet_of_books rfl

/-! ## The events -/

/-- Power-on reset leaves every entry FREE and no record (R182). -/
theorem powerOnFrom_quiet (s : State) : Keeps Quiet s (powerOnFrom s) := fun _ =>
  ⟨⟨⟨.nil, by simp [powerOnFrom, State.reset, Vtb.powerOn]⟩, fun _ => account_freeEntry rfl⟩,
    fun _ => .of_freeEntry _⟩

theorem shoreSort_obeys (p : Path) (f : EthFrame) (kind : Byte) (hs : ChargeLaw s) :
    Obeys c s (shoreSort p f kind s) := by
  have hbooks : ∀ t, books t = books s → Obeys c s t := fun _ e => (quiet_of_books e).obeys_of_quiet hs
  have hcounted : books (supervisionCounted p f.src s) = books s := rfl
  unfold shoreSort
  split
  · exact hbooks _ rfl
  · split
    · exact hbooks _ rfl
    · split
      · exact (dataArrives_keeps p f.src f.body s).obeys_of_charging hs
      · exact hbooks _ (by rw [books_probeArrives, hcounted])
      · exact hbooks _ (by rw [books_echoArrives, hcounted])
      · exact hbooks _ (by rw [books_acceptArrives, hcounted])
      · refine hbooks _ ?_
        unfold shoreRequestArrives
        split
        · rfl
        · rw [books_offerShore]
          rfl

theorem shoreArrival_obeys (p : Path) (f : EthFrame) (hs : ChargeLaw s) :
    Obeys c s (shoreArrival p f s) := by
  have hbooks : ∀ t, books t = books s → Obeys c s t := fun _ e => (quiet_of_books e).obeys_of_quiet hs
  unfold shoreArrival
  split
  · exact hbooks _ rfl
  · split
    · exact hbooks _ rfl
    · split
      · exact hbooks _ rfl
      · exact shoreSort_obeys p f _ hs

theorem shoreTake_obeys (p : Path) (hs : ChargeLaw s) : Obeys c s (shoreTake p s) := by
  unfold shoreTake
  split
  · exact (quiet_of_books (by simp)).obeys_of_quiet hs
  · split
    · exact (quiet_of_books (by simp)).obeys_of_quiet hs
    · split
      · exact (takeUplink_keeps p _ _ s).obeys_of_charging hs
      · exact .refl hs

theorem sweepVisit_quiet (s : State) : Keeps Quiet s (sweepVisit s) := by
  unfold sweepVisit
  dsimp only
  split
  · exact quiet_of_books rfl
  · exact ((owedWork_keeps _ s).mono (·.quiet)).trans Quiet.trans (quiet_of_books rfl)

theorem restartTaken_obeys {port : Port} (r : Request) (s : State) (hs : ChargeLaw s) :
    Obeys c s (restartTaken port r s) := by
  unfold restartTaken
  split
  · next ha => exact settle_obeys hs (generalCheck_leaves ha)
  · exact (quiet_of_books (by simp [restartBegin])).obeys_of_quiet hs

/-! ## Every command -/

/-- A next state that an outcome answers is one the command may lead to. -/
def NextObeys (c : Instr) (s : State) (o : Host.Outcome State Fault Refusal) : Prop :=
  ∀ t : State, o = .next t → Obeys c s t

theorem nextObeys_next (h : Obeys c s t) : NextObeys c s (.next t) := by
  rintro _ ⟨⟩
  exact h

theorem nextObeys_quiet (hs : ChargeLaw s) (h : Keeps Quiet s t) : NextObeys c s (.next t) :=
  nextObeys_next (h.obeys_of_quiet hs)

theorem nextObeys_ite {p : Prop} [Decidable p] {a b : Host.Outcome State Fault Refusal}
    (ha : NextObeys c s a) (hb : NextObeys c s b) : NextObeys c s (if p then a else b) := by
  split
  · exact ha
  · exact hb

theorem request_nextObeys {port : Port} {name : String} {taken : List Name}
    {body : Request → State → Answer} (hs : ChargeLaw s) (hb : BodyObeys c body) :
    NextObeys c s (request port name taken body s) :=
  nextObeys_next (takeNamed_obeys (execute_obeys hb) hs)

theorem execSurveyProbeDue_nextObeys (p : Path) (hs : ChargeLaw s) :
    NextObeys c s (execSurveyProbeDue p s) := by
  have hkeep : NextObeys c s (.next s) := nextObeys_next (.refl hs)
  unfold execSurveyProbeDue
  split
  · exact nextObeys_ite (nextObeys_quiet hs (quiet_of_books (by simp))) hkeep
  · exact hkeep
  · exact hkeep

theorem execHeartbeatTimerExpiry_nextObeys (n : Nat) (hs : ChargeLaw s) :
    NextObeys c s (execHeartbeatTimerExpiry n s) := by
  have hkeep : NextObeys c s (.next s) := nextObeys_next (.refl hs)
  unfold execHeartbeatTimerExpiry
  split
  · exact nextObeys_ite (nextObeys_quiet hs (quiet_of_books (by simp))) hkeep
  · exact hkeep

theorem execRestartEntryStep_nextObeys (hs : ChargeLaw s) :
    NextObeys c s (execRestartEntryStep s) := by
  unfold execRestartEntryStep
  split
  · exact nextObeys_next (.refl hs)
  · next x _ =>
    split
    · exact nextObeys_next (.refl hs)
    · next hi => exact nextObeys_quiet hs (restartEntry_keeps x (nextRestartEntry_not_free hs.table hi))

theorem execRestartIntervalTimer_nextObeys (hs : ChargeLaw s) :
    NextObeys c s (execRestartIntervalTimer s) := by
  unfold execRestartIntervalTimer
  split
  · exact nextObeys_next (.refl hs)
  · split
    · exact nextObeys_quiet hs (quiet_of_books rfl)
    · exact nextObeys_next (.refl hs)

theorem exec_nextObeys (c : Instr) (hs : ChargeLaw s) : NextObeys c s (exec c s) := by
  have hkeep : NextObeys c s (.next s) := nextObeys_next (.refl hs)
  have same : ∀ t : State, books t = books s → NextObeys c s (.next t) :=
    fun _ e => nextObeys_quiet hs (quiet_of_books e)
  cases c with
  | powerOnReset => exact nextObeys_quiet hs (powerOnFrom_quiet s)
  | shipFrameArrival f => exact nextObeys_quiet hs (shipArrival_keeps f s)
  | shoreFrameArrival p f => exact nextObeys_next (shoreArrival_obeys p f hs)
  | shoreTransmitTake p => exact nextObeys_ite (nextObeys_next (shoreTake_obeys p hs)) hkeep
  | shoreTransmissionEnd p => exact same _ rfl
  | shipTransmitTake => exact nextObeys_ite (same _ (by simp)) hkeep
  | shipTransmissionEnd => exact same _ rfl
  | shipLinkLoss => exact same _ rfl
  | shipLinkReturn => exact same _ rfl
  | carrierArrival p => exact nextObeys_ite hkeep (same _ (by simp))
  | carrierLoss p => exact nextObeys_ite (same _ (by simp)) hkeep
  | settleTimerExpiry p => exact nextObeys_ite (same _ (by simp)) hkeep
  | openTimerExpiry p => exact nextObeys_ite (same _ (by simp)) hkeep
  | surveyProbeDue p => exact execSurveyProbeDue_nextObeys p hs
  | probeTimerExpiry p => exact nextObeys_ite (same _ (by simp)) hkeep
  | probeDeadlineExpiry p id => exact same _ (by simp)
  | idleTimerExpiry p => exact nextObeys_ite (same _ (by simp)) hkeep
  | recoveryGapEnd p => exact nextObeys_ite (same _ (by simp)) hkeep
  | drainWindowExpiry p => exact nextObeys_ite (same _ rfl) hkeep
  | holdDownExpiry => exact same _ rfl
  | periodTimerExpiry => exact same _ (by simp)
  | gapTimerExpiry =>
    exact nextObeys_ite (nextObeys_next ((gapExpiry_keeps s).obeys_of_charging hs)) hkeep
  | heartbeatTimerExpiry n => exact execHeartbeatTimerExpiry_nextObeys n hs
  | grantBoundary => exact same _ (books_setCvu _)
  | positionTimerExpiry => exact nextObeys_ite (same _ (by simp)) hkeep
  | intervalExpiry => exact nextObeys_ite (same _ (by simp [intervalExpiry])) hkeep
  | sweepVisit => exact nextObeys_ite (nextObeys_quiet hs (sweepVisit_quiet s)) hkeep
  | voyageClockRise => exact same _ rfl
  | unknownRequest port =>
    exact nextObeys_next (takeNamed_obeys (execute_obeys unknownBody_quiet.obeys) hs)
  | visitorAdd port => exact request_nextObeys hs visitorAddBody_obeys
  | visitorRemove port => exact request_nextObeys hs visitorRemoveBody_quiet.obeys
  | visitorRead port => exact request_nextObeys hs visitorReadBody_quiet.obeys
  | visitorCredit port => exact request_nextObeys hs visitorCreditBody_quiet.obeys
  | visitorAllow port => exact request_nextObeys hs (visitorAllowBody_obeys port)
  | visitorSettle port => exact request_nextObeys hs visitorSettleBody_quiet.obeys
  | tariffLoad port => exact request_nextObeys hs tariffLoadBody_quiet.obeys
  | tariffSwitch port => exact request_nextObeys hs tariffSwitchBody_quiet.obeys
  | planLoad port => exact request_nextObeys hs planLoadBody_quiet.obeys
  | partnerLoad port => exact request_nextObeys hs partnerLoadBody_quiet.obeys
  | recordDrain port => exact request_nextObeys hs recordDrainBody_quiet.obeys
  | recordRelease port => exact request_nextObeys hs recordReleaseBody_quiet.obeys
  | voyageStart port => exact request_nextObeys hs voyageStartBody_quiet.obeys
  | recordInterval port => exact request_nextObeys hs recordIntervalBody_quiet.obeys
  | recordFlush port => exact request_nextObeys hs recordFlushBody_quiet.obeys
  | zoneLoad port => exact request_nextObeys hs zoneLoadBody_quiet.obeys
  | zoneDefaults port => exact request_nextObeys hs zoneDefaultsBody_quiet.obeys
  | position port => exact request_nextObeys hs positionBody_quiet.obeys
  | zoneForce port => exact request_nextObeys hs zoneForceBody_quiet.obeys
  | pathConfig port => exact request_nextObeys hs pathConfigBody_quiet.obeys
  | pathEnable port => exact request_nextObeys hs pathEnableBody_quiet.obeys
  | pathDisable port => exact request_nextObeys hs pathDisableBody_quiet.obeys
  | pathSurvey port => exact request_nextObeys hs pathSurveyBody_quiet.obeys
  | pathTest port => exact request_nextObeys hs pathTestBody_quiet.obeys
  | selectConfig port => exact request_nextObeys hs selectConfigBody_quiet.obeys
  | pathPin port => exact request_nextObeys hs pathPinBody_quiet.obeys
  | reseqConfig port => exact request_nextObeys hs reseqConfigBody_obeys
  | cellConfig port => exact request_nextObeys hs cellConfigBody_quiet.obeys
  | grantConfig port => exact request_nextObeys hs grantConfigBody_quiet.obeys
  | clockSet port => exact request_nextObeys hs clockSetBody_quiet.obeys
  | statusRead port => exact request_nextObeys hs (statusReadBody_quiet port).obeys
  | noticeArm port => exact request_nextObeys hs noticeArmBody_quiet.obeys
  | noticeClear port => exact request_nextObeys hs noticeClearBody_quiet.obeys
  | creditListRead port => exact request_nextObeys hs creditListReadBody_quiet.obeys
  | partRestart port => exact nextObeys_next (takeNamed_obeys restartTaken_obeys hs)
  | restartEntryStep => exact execRestartEntryStep_nextObeys hs
  | restartIntervalTimer => exact execRestartIntervalTimer_nextObeys hs

/-! ## Time, and every step -/

theorem KeepsLaws.refl (hs : ChargeLaw s) : KeepsLaws s s := ⟨hs, id⟩

theorem KeepsLaws.trans (h : KeepsLaws s t) (k : ChargeLaw t → KeepsLaws t u) : KeepsLaws s u :=
  ⟨(k h.charges).charges, fun hs => (k h.charges).tags (h.tags hs)⟩

theorem keepsLaws_of_books (e : books t = books s) (hs : ChargeLaw s) : KeepsLaws s t :=
  ((quiet_of_books e).obeys_of_quiet (c := .holdDownExpiry) hs).toKeepsLaws

theorem fire_keepsLaws (i : Instr) (hs : ChargeLaw s) : KeepsLaws s (fire s i) := by
  unfold fire
  split
  · split
    · next ht => exact (exec_nextObeys i hs _ ht).toKeepsLaws
    · exact .refl hs
    · exact .refl hs
  · exact .refl hs

theorem tick_keepsLaws (hs : ChargeLaw s) : KeepsLaws s (tick s) :=
  List.foldlRecOn _ fire (keepsLaws_of_books books_tickTimers hs)
    fun _ ht i _ => ht.trans (fire_keepsLaws i)

theorem timeStep_keepsLaws (hs : ChargeLaw s) : KeepsLaws s (timeStep s) := by
  unfold timeStep
  split
  · exact keepsLaws_of_books rfl hs
  · exact (keepsLaws_of_books (books_setClocks _) hs).trans tick_keepsLaws

theorem step_keepsLaws (hs : ChargeLaw s) (ht : step s = .next t) : KeepsLaws s t := by
  unfold step at ht
  split at ht
  · cases ht
    exact timeStep_keepsLaws hs
  · next i rest _ =>
    have hrest : KeepsLaws s (s.setPending rest) := keepsLaws_of_books (books_setPending rest) hs
    exact hrest.trans fun h => (exec_nextObeys i h t ht).toKeepsLaws

/-- Settles O8: every command obeys the laws of charges and tags and the rules on who may be charged, entry by entry:
the handling of packets charges admitted entries alone, and the other commands charge none. Time makes the due expiries as
commands, so every step keeps the laws; and in a table of canonical form the tag map finds what stands in the entries. -/
theorem stepKeepsChargeLaw : Obligations.StepKeepsChargeLaw := by
  refine ⟨fun s t hs ht => (step_keepsLaws hs ht).charges,
    fun s t hs htags ht => (step_keepsLaws hs ht).tags htags,
    fun s g i hs htags => lookupTag_eq_some_iff hs.table htags, fun c i s t hs ht => ?_⟩
  have hobeys := exec_nextObeys c hs t ht
  exact ⟨hobeys.charged i, hobeys.allowance i⟩

end Sys2Proof.Machine
end

section
/-! SUPPORT. The conditions from which a record's snapshot and ROAMING are evaluated, what the consistency of open
records asks of one entry under them (R20, R21, R45, R93), and what marks, reviews and changes of an entry do to
that. -/

namespace Sys2Proof.Machine

variable {s t : State} {i : Nat} {v w : Visitor}

/-! ## The conditions -/

/-- What a record's snapshot and ROAMING are evaluated from, besides the entry itself (R21, R45). -/
structure Conditions where
  zone : Option Zone
  region : Region
  active : Option Path
  surcharge : Nat
  rows : TariffBank
  partners : Vector Partner 128

variable {c : Conditions}

def conditions (s : State) : Conditions :=
  { zone := s.znu.current, region := (currentTerms s).region, active := s.psl.active,
    surcharge := activeSurcharge s, rows := bankRows s.rtu s.rtu.activeBank,
    partners := s.rtu.partners }

/-- ROAMING of a partner's visitors under the conditions (R21). -/
def Conditions.roaming (c : Conditions) (n : Fin 128) : Roaming := c.partners[n].policy[c.region]

/-- PRICE_EFF of an entry under the conditions (R45). -/
def Conditions.price (c : Conditions) (v : Visitor) : Nat :=
  priceOf c.rows[c.region][v.plan].price c.surcharge v.roaming c.partners[v.partner].mult

theorem roamingNow_eq (s : State) (n : Fin 128) : roamingNow s n = (conditions s).roaming n := rfl

theorem priceNow_eq (s : State) (v : Visitor) : priceNow s v = (conditions s).price v := rfl

/-- Of the paths the conditions read the active one's surcharge, and of the Zone Unit the current zone and region. -/
theorem conditions_congr (hz : t.znu.current = s.znu.current)
    (hg : (currentTerms t).region = (currentTerms s).region) (ha : t.psl.active = s.psl.active)
    (hp : ∀ p, s.psl.active = some p → (t.path p).config.surcharge = (s.path p).config.surcharge)
    (hb : bankRows t.rtu t.rtu.activeBank = bankRows s.rtu s.rtu.activeBank)
    (hr : t.rtu.partners = s.rtu.partners) : conditions t = conditions s := by
  have hs : activeSurcharge t = activeSurcharge s := by
    unfold activeSurcharge
    rw [ha]
    split
    · next p hactive => exact hp p hactive
    · rfl
  simp only [conditions, hz, hg, ha, hs, hb, hr]

/-! ## One entry -/

/-- The fields of an entry's open record that the law of R93 compares. -/
def snapshot (v : Visitor) : Option (Option Zone × Option Path × Nat) :=
  v.openRecord.map fun r => (r.zone, r.path, r.priceEff)

/-- An entry's open record bears the snapshot that the conditions give (R46). -/
def Conditions.Rates (c : Conditions) (v : Visitor) : Prop :=
  snapshot v = some (c.zone, c.active, c.price v)

/-- The consistency of open records for one entry (R20, R93). -/
def Conditions.Fits (c : Conditions) (v : Visitor) : Prop :=
  lifecycleOpen v.lifecycle = true → (snapshot v).isSome = true ∧
    (v.reviewMark = false →
      c.Rates v ∧ (v.lifecycle = .attached → v.roaming = c.roaming v.partner))

/-- An entry as a review leaves it: consistent whether its mark is set or not (R66). -/
def Conditions.Reviewed (c : Conditions) (v : Visitor) : Prop :=
  lifecycleOpen v.lifecycle = true → c.Rates v ∧ v.roaming = c.roaming v.partner

/-- What the law reads of an entry. -/
def rated (v : Visitor) : Lifecycle × Fin 8 × Fin 128 × Roaming × Bool ×
    Option (Option Zone × Option Path × Nat) :=
  (v.lifecycle, v.plan, v.partner, v.roaming, v.reviewMark, snapshot v)

theorem snapshot_isSome (v : Visitor) : (snapshot v).isSome = v.openRecord.isSome :=
  Option.isSome_map

theorem recordCurrent_iff : RecordCurrent s v ↔ (conditions s).Rates v ∧
    (v.lifecycle = .attached → v.roaming = (conditions s).roaming v.partner) := by
  simp [RecordCurrent, Conditions.Rates, snapshot, conditions, priceNow_eq, roamingNow_eq]

theorem Conditions.Fits.edit (h : c.Fits v) (e : rated w = rated v) : c.Fits w := by
  simp only [rated, Prod.mk.injEq] at e
  obtain ⟨hl, hplan, hpartner, hroaming, hmark, hsnapshot⟩ := e
  simp only [Fits, Rates, price, hl, hplan, hpartner, hroaming, hmark, hsnapshot]
  exact h

/-- An entry that is neither ATTACHED nor CLOSING needs no record. -/
theorem Conditions.fits_of_closed (h : lifecycleOpen v.lifecycle = false) : c.Fits v := by
  simp [Fits, h]

/-- A mark excuses every difference (R93). -/
theorem Conditions.fits_of_marked (h : lifecycleOpen v.lifecycle = true → (snapshot v).isSome = true)
    (hmark : lifecycleOpen v.lifecycle = true → v.reviewMark = true) : c.Fits v :=
  fun hopen => ⟨h hopen, fun hn => absurd hn (by simp [hmark hopen])⟩

theorem Conditions.Reviewed.fits (h : c.Reviewed v) : c.Fits v := fun hopen => by
  obtain ⟨hrates, hroaming⟩ := h hopen
  exact ⟨by rw [hrates]; rfl, fun _ => ⟨hrates, fun _ => hroaming⟩⟩

/-- A new record bears the current snapshot (R46, R63). -/
theorem rates_of_opened (h : v.openRecord = some (openNow s w)) (hp : priceNow s w = priceNow s v) :
    (conditions s).Rates v := by
  rw [Conditions.Rates, snapshot, h, ← priceNow_eq, ← hp]
  rfl

/-! ## Every entry -/

theorem recordsLaw_iff :
    RecordsLaw s ↔ TableLaw s ∧ ∀ i : Nat, (conditions s).Fits (s.visitor i) := by
  simp only [RecordsLaw, recordCurrent_iff, Conditions.Fits, snapshot_isSome]
  exact ⟨fun ⟨htable, hopen, hcurrent⟩ => ⟨htable, fun i hi => ⟨hopen i hi, hcurrent i hi⟩⟩,
    fun ⟨htable, h⟩ => ⟨htable, fun i hi => (h i hi).1, fun i hi => (h i hi).2⟩⟩

theorem RecordsLaw.table (h : RecordsLaw s) : TableLaw s := (recordsLaw_iff.1 h).1

theorem RecordsLaw.fits (h : RecordsLaw s) (i : Nat) : (conditions s).Fits (s.visitor i) :=
  (recordsLaw_iff.1 h).2 i

/-- The presence of open records, which is left of the law when the conditions change (R20). -/
def PresenceLaw (s : State) : Prop :=
  TableLaw s ∧
    ∀ i : Nat, lifecycleOpen (s.visitor i).lifecycle = true → (snapshot (s.visitor i)).isSome = true

theorem RecordsLaw.presence (h : RecordsLaw s) : PresenceLaw s :=
  ⟨h.table, fun i hi => (h.fits i hi).1⟩

theorem PresenceLaw.of_entries (h : PresenceLaw s) (e : t.vtb.entries = s.vtb.entries) :
    PresenceLaw t := by
  unfold PresenceLaw TableLaw State.visitor at *
  rwa [e]

/-- What the law reads of a state. -/
def rateView (s : State) : Table Visitor × Conditions := (s.vtb.entries, conditions s)

theorem RecordsLaw.of_view (h : RecordsLaw s) (e : rateView t = rateView s) : RecordsLaw t := by
  obtain ⟨he, hc⟩ := Prod.mk.inj e
  rw [recordsLaw_iff] at *
  unfold TableLaw State.visitor at *
  rwa [he, hc]

/-- A change of every entry that keeps the unlisted value's own. -/
theorem recordsLaw_of_map {f : Visitor → Visitor} (htable : TableLaw s)
    (he : t.vtb.entries = tableMap f s.vtb.entries)
    (hf : ∀ v, f v = Visitor.freeEntry ↔ v = Visitor.freeEntry)
    (h : ∀ i, (conditions t).Fits (f (s.visitor i))) : RecordsLaw t := by
  refine recordsLaw_iff.2 ⟨?_, fun i => ?_⟩
  · rw [TableLaw, he]
    exact (tableMap_wf_iff hf _).2 htable
  · rw [State.visitor, he, tableRead_map _ f ((hf _).2 rfl)]
    exact h i

/-! ## Every entry but one -/

/-- The law of every entry but one, which is being written. -/
def RecordsLawBut (i : Nat) (s : State) : Prop :=
  TableLaw s ∧ ∀ j : Nat, j ≠ i → (conditions s).Fits (s.visitor j)

theorem RecordsLaw.but (h : RecordsLaw s) (i : Nat) : RecordsLawBut i s :=
  ⟨h.table, fun j _ => h.fits j⟩

theorem RecordsLawBut.recordsLaw (h : RecordsLawBut i s) (hi : (conditions s).Fits (s.visitor i)) :
    RecordsLaw s := by
  obtain ⟨htable, hother⟩ := h
  refine recordsLaw_iff.2 ⟨htable, fun j => ?_⟩
  by_cases hj : j = i
  · rwa [hj]
  · exact hother j hj

theorem RecordsLawBut.visitor_setVisitor (h : RecordsLawBut i s) (v : Visitor) :
    (s.setVisitor i v).visitor i = v := setVisitor_visitor_of_wf h.1 i v

theorem RecordsLawBut.setVisitor (h : RecordsLawBut i s) (v : Visitor) :
    RecordsLawBut i (s.setVisitor i v) :=
  ⟨setVisitor_wf h.1 i v, fun j hj => by rw [setVisitor_visitor_ne s v hj]; exact h.2 j hj⟩

/-- A write that leaves the entry consistent. -/
theorem RecordsLawBut.write (h : RecordsLawBut i s) (hv : (conditions s).Fits v) :
    RecordsLaw (s.setVisitor i v) :=
  (h.setVisitor v).recordsLaw (by rw [h.visitor_setVisitor]; exact hv)

/-- A write of fields that the law does not read. -/
theorem RecordsLaw.edit (h : RecordsLaw s) (e : rated v = rated (s.visitor i)) :
    RecordsLaw (s.setVisitor i v) := (h.but i).write ((h.fits i).edit e)

end Sys2Proof.Machine
end

section
/-! SUPPORT. The operations that leave what the consistency of open records reads as it stands, one lemma per
operation that another uses, and the conditions after the operations on entries. -/

namespace Sys2Proof.Machine

variable {s : State}

/-! ## One field -/

@[simp] theorem rateView_setShi (x : Shi) : rateView (s.setShi x) = rateView s := rfl
@[simp] theorem rateView_setRcq (x : Rcq) : rateView (s.setRcq x) = rateView s := rfl
@[simp] theorem rateView_setRse (x : Rse) : rateView (s.setRse x) = rateView s := rfl
@[simp] theorem rateView_setDrs (x : Drs) : rateView (s.setDrs x) = rateView s := rfl
@[simp] theorem rateView_setCvu (x : Cvu) : rateView (s.setCvu x) = rateView s := rfl
@[simp] theorem rateView_setCfu (x : Cfu) : rateView (s.setCfu x) = rateView s := rfl
@[simp] theorem rateView_setNtu (x : Ntu) : rateView (s.setNtu x) = rateView s := rfl
@[simp] theorem rateView_setPort (p : Path) (x : ShorePort) :
    rateView (s.setPort p x) = rateView s := rfl
@[simp] theorem rateView_setCell (c : Cell) (x : CellHead) :
    rateView (s.setCell c x) = rateView s := rfl
@[simp] theorem rateView_modPort (p : Path) (f : ShorePort → ShorePort) :
    rateView (s.modPort p f) = rateView s := rfl
@[simp] theorem rateView_countShip (f : ShipCounters → ShipCounters) :
    rateView (s.countShip f) = rateView s := rfl
@[simp] theorem rateView_countShore (p : Path) (f : ShoreCounters → ShoreCounters) :
    rateView (s.countShore p f) = rateView s := rfl
@[simp] theorem rateView_returnBuffers (n : Nat) : rateView (s.returnBuffers n) = rateView s := rfl
@[simp] theorem rateView_takeBuffer : rateView s.takeBuffer = rateView s := rfl
@[simp] theorem rateView_raiseNotice (x : Source) : rateView (raiseNotice x s) = rateView s := rfl

@[simp] theorem rateView_setPsl {x : Psl} (h : x.active = s.psl.active) :
    rateView (s.setPsl x) = rateView s :=
  congrArg (Prod.mk _) (conditions_congr rfl rfl h (fun _ _ => rfl) rfl rfl)

/-- A change of the Zone Unit that leaves the current zone and the terms as they stand. -/
theorem rateView_setZnu {x : Znu} (hz : x.current = s.znu.current)
    (hg : (zoneTerms x x.current).region = (currentTerms s).region) :
    rateView (s.setZnu x) = rateView s :=
  congrArg (Prod.mk _) (conditions_congr hz hg rfl (fun _ _ => rfl) rfl rfl)

theorem rateView_setPsv {x : PerPath Psv}
    (h : ∀ p, s.psl.active = some p → (x.get p).config.surcharge = (s.path p).config.surcharge) :
    rateView (s.setPsv x) = rateView s :=
  congrArg (Prod.mk _) (conditions_congr rfl rfl rfl h rfl rfl)

theorem rateView_setPath {p : Path} {x : Psv}
    (h : s.psl.active = some p → x.config.surcharge = (s.path p).config.surcharge) :
    rateView (s.setPath p x) = rateView s := by
  refine rateView_setPsv fun q hq => ?_
  rw [← State.setPath_psv]
  show ((s.setPath p x).path q).config.surcharge = _
  rw [State.setPath_path]
  split
  · next hqp => rw [h (hqp ▸ hq), hqp]
  · rfl

/-- A supervisor whose configuration stands. -/
@[simp] theorem rateView_modPath {p : Path} {f : Psv → Psv}
    (h : (f (s.path p)).config = (s.path p).config) : rateView (s.modPath p f) = rateView s :=
  rateView_setPath fun _ => by rw [h]

@[simp] theorem rateView_refreshEngine : rateView (refreshEngine s) = rateView s := by
  rw [refreshEngine_frame]
  rfl

/-! ## The selector and the due frames -/

@[simp] theorem rateView_computeCandidate : rateView (computeCandidate s) = rateView s := rfl
@[simp] theorem rateView_closeDrain (p : Path) : rateView (closeDrain p s) = rateView s := rfl
@[simp] theorem rateView_clearConfirm : rateView (clearConfirm s) = rateView s := rfl
@[simp] theorem rateView_makeDue (p : Path) (d : Due) : rateView (makeDue p d s) = rateView s := rfl
@[simp] theorem rateView_withdrawDue (p : Path) (f : Due → Bool) :
    rateView (withdrawDue p f s) = rateView s := rfl

@[simp] theorem rateView_drainIfUp (p : Path) : rateView (drainIfUp p s) = rateView s := by
  unfold drainIfUp
  split <;> rfl

@[simp] theorem rateView_swapDrain (a : Option Path) (b : Path) :
    rateView (swapDrain a b s) = rateView s := by cases a <;> simp [swapDrain]

/-! ## Coverage -/

@[simp] theorem rateView_retarget : rateView (retarget s) = rateView s := rfl

@[simp] theorem rateView_heartbeat (c : Cell) (level : Nat) :
    rateView (heartbeat c level s) = rateView s := by
  unfold heartbeat
  dsimp only
  split <;> simp

/-! ## The configuration of a supervisor -/

@[simp] theorem startSettle_config (v : Psv) : (startSettle v).config = v.config := by
  cases v; rfl

@[simp] theorem abortSurvey_config (g : Bool) (v : Psv) : (abortSurvey g v).config = v.config := by
  unfold abortSurvey
  split <;> rfl

@[simp] theorem resolveLost_config (v : Psv) : (resolveLost v).config = v.config := by
  unfold resolveLost
  dsimp only
  split <;> rfl

@[simp] theorem resolveReceived_config (sample : Nat) (v : Psv) :
    (resolveReceived sample v).config = v.config := by
  unfold resolveReceived
  dsimp only
  split <;> rfl

@[simp] theorem outstandingDrop_config (id : BitVec 8) (v : Psv) :
    (outstandingDrop id v).config = v.config := by cases v; rfl

@[simp] theorem testReturn_config (id : BitVec 8) (sample : Nat) (v : Psv) :
    (testReturn id sample v).config = v.config := by cases v; rfl

@[simp] theorem pathLosesCarrier_config (v : Psv) : (pathLosesCarrier v).config = v.config := by
  cases v; rfl

@[simp] theorem passToUp_config (v : Psv) : (passToUp v).config = v.config := by cases v; rfl

@[simp] theorem enterTest_config (v : Psv) : (enterTest v).config = v.config := by cases v; rfl

@[simp] theorem enterService_config (carrier : Bool) (v : Psv) :
    (enterService carrier v).config = v.config := by cases carrier <;> rfl

@[simp] theorem makeRoom_config (v : Psv) : (makeRoom v).config = v.config := by
  unfold makeRoom
  split <;> simp

@[simp] theorem dueTaken_config (stamp : BitVec 32) (d : Due) (v : Psv) :
    (dueTaken stamp d v).config = v.config := by
  cases d with
  | probe => simp [dueTaken, takeSteadyProbe, advanceId]
  | surveyProbe k =>
    unfold dueTaken takeSurveyProbe
    dsimp only
    split <;> rfl
  | pathOpen => rfl
  | echo id value => rfl
  | fill => rfl
  | pathSwap leaving => rfl

/-! ## Paths -/

@[simp] theorem rateView_cleanUp (g : Bool) (p : Path) : rateView (cleanUp g p s) = rateView s := by
  simp [cleanUp]

@[simp] theorem rateView_startSurvey (p : Path) : rateView (startSurvey p s) = rateView s := by
  simp [startSurvey]

@[simp] theorem rateView_countIgnored (p : Path) : rateView (countIgnored p s) = rateView s := by
  simp [countIgnored]

@[simp] theorem rateView_countStray (p : Path) : rateView (countStray p s) = rateView s := by
  simp [countStray]

@[simp] theorem rateView_startOrDefer (p : Path) : rateView (startOrDefer p s) = rateView s := by
  unfold startOrDefer
  split <;> simp

@[simp] theorem rateView_acceptArrives (p : Path) : rateView (acceptArrives p s) = rateView s := by
  unfold acceptArrives
  split <;> simp

@[simp] theorem rateView_answerProbe (p : Path) (id : BitVec 8) (value : BitVec 32) :
    rateView (answerProbe p id value s) = rateView s := by
  unfold answerProbe
  split <;> simp

@[simp] theorem rateView_probeArrives (p : Path) (id : BitVec 8) (value : BitVec 32) :
    rateView (probeArrives p id value s) = rateView s := by
  unfold probeArrives
  (repeat' split) <;> simp

@[simp] theorem rateView_pathOpenDue (p : Path) : rateView (pathOpenDue p s) = rateView s := by
  unfold pathOpenDue
  split <;> simp

@[simp] theorem rateView_settleExpiry (p : Path) : rateView (settleExpiry p s) = rateView s := by
  simp [settleExpiry]

@[simp] theorem rateView_openExpiry (p : Path) : rateView (openExpiry p s) = rateView s := by
  unfold openExpiry
  split <;> simp

@[simp] theorem rateView_surveyNext (p : Path) (run : SurveyRun) :
    rateView (surveyNext p run s) = rateView s := by
  unfold surveyNext
  split <;> simp

@[simp] theorem rateView_probeExpiry (p : Path) : rateView (probeExpiry p s) = rateView s := by
  unfold probeExpiry
  dsimp only
  split <;> simp

@[simp] theorem rateView_idleExpiry (p : Path) : rateView (idleExpiry p s) = rateView s := by
  unfold idleExpiry
  dsimp only
  split <;> simp

@[simp] theorem rateView_gapEnd (p : Path) : rateView (gapEnd p s) = rateView s := by
  unfold gapEnd
  dsimp only
  (repeat' split) <;> simp

@[simp] theorem rateView_carrierArrives (p : Path) : rateView (carrierArrives p s) = rateView s := by
  unfold carrierArrives
  dsimp only
  split <;> simp

@[simp] theorem rateView_enablePath (p : Path) : rateView (enablePath p s) = rateView s := by
  unfold enablePath
  split <;> simp

@[simp] theorem rateView_pathRestart (p : Path) : rateView (pathRestart p s) = rateView s := by
  unfold pathRestart
  split <;> simp

/-! ## Transmitters, requests and time -/

@[simp] theorem rateView_shoreSend (p : Path) (body : List Byte) :
    rateView (shoreSend p body s) = rateView s := by
  unfold shoreSend
  dsimp only
  split <;> simp

@[simp] theorem rateView_takeSupervision (p : Path) (d : Due) (left : List Due) :
    rateView (takeSupervision p d left s) = rateView s := by simp [takeSupervision]

@[simp] theorem rateView_takeShoreReply (p : Path) (r : Reply) :
    rateView (takeShoreReply p r s) = rateView s := by simp [takeShoreReply]

@[simp] theorem rateView_sendData (p : Path) (e : UplinkEntry) :
    rateView (sendData p e s) = rateView s := by
  simp only [sendData, rateView_shoreSend]
  rfl

@[simp] theorem rateView_takeUser : rateView (takeUser s) = rateView s := by
  unfold takeUser
  split <;> rfl

@[simp] theorem rateView_shipTake : rateView (shipTake s) = rateView s := by
  have hown : rateView (takeOwn s) = rateView s := by
    unfold takeOwn
    split
    · rfl
    · split
      · rfl
      · split
        · rfl
        · exact rateView_takeUser
  unfold shipTake
  split
  · exact rateView_takeUser
  · exact hown

@[simp] theorem rateView_offerShip (r : Request) : rateView (offerShip r s) = rateView s := by
  unfold offerShip
  split <;> rfl

@[simp] theorem rateView_offerShore (p : Path) (r : Request) :
    rateView (offerShore p r s) = rateView s := by
  unfold offerShore
  split <;> rfl

@[simp] theorem rateView_uplinkQueue (e : UplinkEntry) : rateView (uplinkQueue e s) = rateView s := by
  unfold uplinkQueue
  (repeat' split) <;> rfl

@[simp] theorem rateView_dropRequest (port : Port) : rateView (dropRequest port s) = rateView s := by
  cases port <;> rfl

@[simp] theorem rateView_placeReply (port : Port) (x : Reply) :
    rateView (placeReply port x s) = rateView s := by cases port <;> rfl

@[simp] theorem rateView_recordFault (port : Port) (r : Request) (why : Reason) :
    rateView (recordFault port r why s) = rateView s := rfl

@[simp] theorem rateView_statusLeaves (port : Port) : rateView (statusLeaves port s) = rateView s := by
  cases port with
  | ship => exact rateView_setPsv fun p _ => by cases p <;> rfl
  | shore p => rfl

@[simp] theorem rateView_checkGapTimer : rateView (checkGapTimer s) = rateView s := by
  rw [checkGapTimer_eq]
  rfl

@[simp] theorem rateView_tickTimers : rateView (tickTimers s) = rateView s :=
  congrArg (Prod.mk _) (conditions_congr rfl rfl rfl (fun p _ => by cases p <;> rfl) rfl rfl)

end Sys2Proof.Machine
end

section
/-! SUPPORT. The operations on entries and records keep the consistency of open records: marks, the close, the
review and the owed work, the charge, attachment, removal, release and the restart's pass (R24, R28, R30, R49, R65,
R66, R69, R77, R83, R88, R93). -/

namespace Sys2Proof.Machine

variable {s t : State} {i : Nat} {c : Conditions} {v : Visitor}

/-! ## Marks -/

theorem rated_setCloseMark (v : Visitor) : rated (setCloseMark v) = rated v := by
  unfold setCloseMark
  split <;> rfl

theorem rated_voyageVisitor (v : Visitor) : rated (voyageVisitor v) = rated v := by
  unfold voyageVisitor
  split <;> rfl

/-- A map of the ledgers' hidden fields turns no other entry into a FREE one. -/
theorem eq_freeEntry_iff_of_ledger {f : Visitor → Visitor} (hf : ∀ v, ledger (f v) = ledger v)
    (v : Visitor) : f v = Visitor.freeEntry ↔ v = Visitor.freeEntry := by
  rw [← ledger_eq_freeEntry, hf, ledger_eq_freeEntry]

/-- A change of every entry in fields that the law does not read. -/
theorem RecordsLaw.map {f : Visitor → Visitor} (h : RecordsLaw s)
    (he : t.vtb.entries = tableMap f s.vtb.entries) (hf : ∀ v, ledger (f v) = ledger v)
    (hrated : ∀ v, rated (f v) = rated v) (hc : conditions t = conditions s) : RecordsLaw t :=
  recordsLaw_of_map h.table he (eq_freeEntry_iff_of_ledger hf) fun i =>
    hc ▸ (h.fits i).edit (hrated _)

theorem bulkClose_recordsLaw (h : RecordsLaw s) : RecordsLaw (bulkClose s) :=
  h.map (by simp [bulkClose]) ledger_setCloseMark rated_setCloseMark (by rw [bulkClose_frame]; rfl)

theorem setReviewMark_fits
    (h : lifecycleOpen v.lifecycle = true → (snapshot v).isSome = true) : c.Fits (setReviewMark v) := by
  unfold setReviewMark
  split
  · next hfree => exact Conditions.fits_of_closed (by rw [hfree]; rfl)
  · exact Conditions.fits_of_marked h fun _ => rfl

/-- A bulk review marks whatever a change of the conditions has made different (R83). -/
theorem bulkReview_recordsLaw (h : PresenceLaw s) : RecordsLaw (bulkReview s) := by
  obtain ⟨htable, hopen⟩ := h
  exact recordsLaw_of_map htable (by simp [bulkReview]) (eq_freeEntry_iff_of_ledger ledger_setReviewMark)
    fun i => setReviewMark_fits (hopen i)

/-- Where one partner's visitors are marked, a change of that partner alone leaves no difference (R43, R83). -/
theorem setPartnerReviewMark_fits {n : Fin 128} {x : Vector Partner 128} (h : c.Fits v)
    (hx : ∀ m, m ≠ n → x[m] = c.partners[m]) :
    { c with partners := x }.Fits (setPartnerReviewMark n v) := by
  unfold setPartnerReviewMark
  split
  · next hv =>
    rcases hv with hfree | hpartner
    · exact Conditions.fits_of_closed (by rw [hfree]; rfl)
    · simp only [Conditions.Fits, Conditions.Rates, Conditions.price, Conditions.roaming, hx _ hpartner]
      exact h
  · exact Conditions.fits_of_marked (fun hl => (h hl).1) fun _ => rfl

/-! ## The close of a record -/

@[simp] theorem conditions_closeRecord (i : Nat) (why : CloseReason) :
    conditions (closeRecord i why s).1 = conditions s := by
  rw [closeRecord_frame]
  rfl

theorem closeRecord_table (why : CloseReason) (h : TableLaw s) : TableLaw (closeRecord i why s).1 := by
  unfold closeRecord
  split
  · exact h
  · split
    · exact setVisitor_wf h i _
    · split
      · exact setVisitor_wf (by rw [joinQueue_frame]; exact h) i _
      · exact setVisitor_wf (setVisitor_wf h i _) i _

theorem RecordsLawBut.close (h : RecordsLawBut i s) (why : CloseReason) :
    RecordsLawBut i (closeRecord i why s).1 := by
  obtain ⟨htable, hother⟩ := h
  refine ⟨closeRecord_table why htable, fun j hj => ?_⟩
  rw [conditions_closeRecord, closeRecord_visitor_ne why s hj]
  exact hother j hj

/-- An entry after its close: as it was, but for a record with the current snapshot (R63, R65). -/
theorem closeRecord_rates (why : CloseReason) {r : OpenRecord} (hr : (s.visitor i).openRecord = some r) :
    (conditions s).Rates ((closeRecord i why s).1.visitor i) := by
  obtain ⟨a, n, hv⟩ := closeRecord_visitor why hr
  rw [hv]
  exact rates_of_opened rfl rfl

theorem closeRecord_recordsLaw (i : Nat) (why : CloseReason) (h : RecordsLaw s) :
    RecordsLaw (closeRecord i why s).1 := by
  cases hr : (s.visitor i).openRecord with
  | none =>
    simp only [closeRecord, hr]
    exact h
  | some r =>
    refine ((h.but i).close why).recordsLaw ?_
    have hrates := closeRecord_rates why hr
    obtain ⟨a, n, hv⟩ := closeRecord_visitor why hr
    rw [conditions_closeRecord]
    rw [hv] at hrates ⊢
    intro hopen
    obtain ⟨-, hcurrent⟩ := h.fits i hopen
    exact ⟨by rw [hrates]; rfl, fun hm => ⟨hrates, (hcurrent hm).2⟩⟩

/-! ## Reviews and owed work -/

theorem recordDifference_eq_none {r : OpenRecord} (h : recordDifference s v r = none)
    (hr : v.openRecord = some r) : (conditions s).Rates v := by
  unfold recordDifference at h
  split at h
  · cases h
  · next hzone =>
    split at h
    · cases h
    · next hpath =>
      split at h
      · cases h
      · next hprice =>
        rw [Conditions.Rates, snapshot, hr, ← priceNow_eq]
        simp only [Classical.not_not] at hzone hpath hprice
        rw [← hprice, Option.map_some, hzone, hpath]
        rfl

@[simp] theorem conditions_review (i : Nat) : conditions (review i s) = conditions s := by
  simp [conditions, currentTerms, activeSurcharge, State.path]

theorem RecordsLawBut.of_review (h : RecordsLawBut i s) : RecordsLawBut i (review i s) := by
  refine ⟨?_, fun j hj => ?_⟩
  · obtain ⟨t, ht, -, hreview⟩ := review_eq i s
    have htable : TableLaw t := by
      rw [TableLaw, ht]
      exact setVisitor_wf h.1 i _
    rcases hreview with he | ⟨why, he⟩ <;> rw [he]
    · exact htable
    · exact closeRecord_table why htable
  · rw [conditions_review, review_visitor_ne s hj]
    exact h.2 j hj

/-- A close after ROAMING has been evaluated leaves nothing different (R66). -/
theorem closeRecord_reviewed (why : CloseReason) {r : OpenRecord}
    (hr : (s.visitor i).openRecord = some r)
    (hroaming : (s.visitor i).roaming = (conditions s).roaming (s.visitor i).partner) :
    (conditions s).Reviewed ((closeRecord i why s).1.visitor i) := fun _ => by
  refine ⟨closeRecord_rates why hr, ?_⟩
  obtain ⟨a, n, hv⟩ := closeRecord_visitor why hr
  rw [hv]
  exact hroaming

/-- The review evaluates ROAMING and closes the record at a difference, so that nothing differs after it (R66). -/
theorem review_reviewed (htable : TableLaw s)
    (h : lifecycleOpen (s.visitor i).lifecycle = true → (snapshot (s.visitor i)).isSome = true) :
    (conditions s).Reviewed ((review i s).visitor i) := by
  have hread : ∀ v, ((s.setVisitor i v).setRse { s.rse with reviews := s.rse.reviews + 1 }).visitor i = v :=
    setVisitor_visitor_of_wf htable i
  unfold review
  dsimp only
  split
  · next hr =>
    intro hopen
    rw [hread] at hopen
    rw [snapshot_isSome, hr] at h
    cases h hopen
  · next r hr =>
    split
    · next hnone =>
      rw [hread]
      exact fun _ => ⟨recordDifference_eq_none hnone hr, rfl⟩
    · next why _ =>
      refine closeRecord_reviewed (s := State.setRse _ _) why
        ((congrArg Visitor.openRecord (hread _)).trans hr) ?_
      rw [State.setRse_visitor, hread]
      rfl

/-- What a review has settled holds whatever becomes of the marks. -/
theorem Conditions.Reviewed.unmark (h : c.Reviewed v) (a b : Bool) :
    c.Reviewed { v with reviewMark := a, closeMark := b } := h

theorem RecordsLaw.review_reviewed (h : RecordsLaw s) (i : Nat) :
    (conditions s).Reviewed ((review i s).visitor i) :=
  Machine.review_reviewed h.table fun hopen => (h.fits i hopen).1

theorem owedClose_recordsLaw (h : RecordsLaw s) : RecordsLaw (owedClose i s) := by
  unfold owedClose
  split
  · exact (closeRecord_recordsLaw i _ h).edit rfl
  · exact h

theorem owedReview_recordsLaw (h : RecordsLaw s) : RecordsLaw (owedReview i s) := by
  unfold owedReview
  split
  · refine (h.but i).of_review.write ?_
    rw [conditions_review]
    exact ((h.review_reviewed i).unmark false _).fits
  · exact h

theorem owedWork_recordsLaw (i : Nat) (h : RecordsLaw s) : RecordsLaw (owedWork i s) := by
  unfold owedWork
  split
  · exact (owedReview_recordsLaw (i := i) (owedClose_recordsLaw (i := i) h)).of_view (by simp)
  · exact h

/-! ## Refusal and charge -/

theorem blockPacket_recordsLaw (i : Nat) (why : Refused) (h : RecordsLaw s) :
    RecordsLaw (blockPacket i why s) :=
  (h.edit (i := i) (v := { s.visitor i with
    blocked := saturateInc Config.max32 (s.visitor i).blocked }) rfl).of_view
    (congrArg (Prod.mk · _) (countRefusal_entries _ why))

theorem volumeClose_recordsLaw (n : Nat) (d : Direction) (h : RecordsLaw s) :
    RecordsLaw (volumeClose i n d s) := by
  unfold volumeClose
  split
  · exact h
  · split
    · exact closeRecord_recordsLaw i .volume h
    · exact h

/-- A charge counts on an open record and leaves its snapshot (R53). -/
theorem rated_visitorCharged {r : OpenRecord} (hr : v.openRecord = some r) (n : Nat) (d : Direction) :
    rated (visitorCharged v r n d) = rated v := by
  simp only [rated, snapshot, hr]
  cases d <;> rfl

theorem writeCharge_recordsLaw {r : OpenRecord} (hr : (s.visitor i).openRecord = some r) (n : Nat)
    (d : Direction) (h : RecordsLaw s) : RecordsLaw (writeCharge i n d (s.visitor i) r s) := by
  refine (h.edit (i := i) (rated_visitorCharged hr n d)).of_view ?_
  exact Prod.ext (congrArg Vtb.entries (writeCharge_vtb ..)) (by rw [writeCharge_frame]; rfl)

theorem charge_recordsLaw (i n : Nat) (d : Direction) (h : RecordsLaw s) :
    RecordsLaw (charge i n d s).1 := by
  have hvolume := volumeClose_recordsLaw (i := i) n d h
  unfold charge
  dsimp only
  split
  · exact hvolume
  · next r hr =>
    split
    · exact blockPacket_recordsLaw i _ hvolume
    · exact writeCharge_recordsLaw hr n d hvolume

/-! ## Attachment, removal and release -/

theorem attach_recordsLaw (i : Nat) (h : RecordsLaw s) : RecordsLaw (attach i s) := by
  have hwrite := (h.but i).write (v := { s.visitor i with
    lifecycle := .attached, roaming := roamingNow s (s.visitor i).partner, reviewMark := false,
    openRecord := some (openNow s { s.visitor i with
      roaming := roamingNow s (s.visitor i).partner }) })
    (Conditions.Reviewed.fits fun _ => ⟨rates_of_opened rfl rfl, rfl⟩)
  exact hwrite.of_view (by rw [attach, rateView_refreshEngine]; rfl)

theorem becomeFree_recordsLaw (i : Nat) (h : RecordsLaw s) : RecordsLaw (becomeFree i s) :=
  ((h.but i).write (Conditions.fits_of_closed rfl)).of_view
    (by rw [becomeFree, rateView_refreshEngine, dropCredit_frame]; rfl)

/-- The record opened at a removal bears the current snapshot, though the marks are cleared unread (R28). -/
theorem removeClosing_recordsLaw (ha : (s.visitor i).lifecycle = .attached) (h : RecordsLaw s) :
    RecordsLaw (removeClosing i s).1 := by
  obtain ⟨hsome, -⟩ := h.fits i (by rw [ha]; rfl)
  rw [snapshot_isSome] at hsome
  obtain ⟨r, hr⟩ := Option.isSome_iff_exists.1 hsome
  have hclear : ((clearMarks i s).visitor i).openRecord = some r := by
    rw [clearMarks, (h.but i).visitor_setVisitor]
    exact hr
  have hrates := closeRecord_rates .removed hclear
  have hsome' : (snapshot ((closeRecord i .removed (clearMarks i s)).1.visitor i)).isSome = true := by
    rw [hrates]
    rfl
  refine (((h.but i).setVisitor _).close .removed).write ?_
  rw [conditions_closeRecord]
  exact fun _ => ⟨hsome', fun _ => ⟨hrates, by rintro ⟨⟩⟩⟩

theorem removeSettled_recordsLaw (h : RecordsLaw s) : RecordsLaw (removeSettled i s) := by
  unfold removeSettled
  split
  · exact becomeFree_recordsLaw i h
  · exact h.of_view (by simp)

theorem releaseHead_recordsLaw (r : Record) (left : List Record) (h : RecordsLaw s) :
    RecordsLaw (releaseHead r left s) := by
  have hq : RecordsLaw (s.setRcq { s.rcq with records := left }) := h.of_view rfl
  have hsettled : RecordsLaw ((s.setRcq { s.rcq with records := left }).setVisitor r.index
    { s.visitor r.index with
      settled := (s.visitor r.index).settled + recordCharge r.contents }) := hq.edit rfl
  unfold releaseHead releaseEntry
  dsimp only
  split
  · exact becomeFree_recordsLaw _ hsettled
  · exact hsettled

theorem releaseRecords_recordsLaw : ∀ (n : Nat) {s : State}, RecordsLaw s → RecordsLaw (releaseRecords n s)
  | 0, _, h => h
  | n + 1, _, h => by
    unfold releaseRecords
    split
    · exact h
    · exact releaseRecords_recordsLaw n (releaseHead_recordsLaw _ _ h)

/-! ## The restart's pass -/

theorem restartClose_reviewed (h : (conditions s).Reviewed (s.visitor i)) :
    (conditions s).Reviewed ((restartClose i s).1.visitor i) := by
  unfold restartClose
  split
  · next hopen =>
    obtain ⟨hrates, hroaming⟩ := h hopen
    obtain ⟨r, hr, -⟩ := Option.map_eq_some_iff.1 hrates
    exact closeRecord_reviewed .restart hr hroaming
  · exact h

@[simp] theorem conditions_restartClose (i : Nat) :
    conditions (restartClose i s).1 = conditions s := by
  unfold restartClose
  split <;> simp

theorem RecordsLawBut.of_restartClose (h : RecordsLawBut i s) :
    RecordsLawBut i (restartClose i s).1 := by
  unfold restartClose
  split
  · exact h.close .restart
  · exact h

/-- An entry of the pass is reviewed before its marks are cleared (R69). -/
theorem restartEntry_recordsLaw (i : Nat) (x : RestartRun) (h : RecordsLaw s) :
    RecordsLaw (restartEntry i x s) := by
  have hreviewed : (conditions (review i s)).Reviewed ((review i s).visitor i) := by
    rw [conditions_review]
    exact h.review_reviewed i
  have hclear : RecordsLaw (clearMarks i (restartClose i (review i s)).1) := by
    refine (h.but i).of_review.of_restartClose.write ?_
    rw [conditions_restartClose]
    exact ((restartClose_reviewed hreviewed).unmark false false).fits
  exact hclear.of_view (by simp [restartEntry])

end Sys2Proof.Machine
end

section
/-! SUPPORT. The swap, the loss of the active path, the zone change and the rounds that bring them about keep the
consistency of open records: each change of the conditions is followed by a bulk review (R83, R93, R134, R138). -/

namespace Sys2Proof.Machine

variable {s t : State}

/-! ## Swaps and NO_BACKHAUL -/

/-- A swap up to its bulk review: the queue is moved and the new path is active (R134). -/
def swapped (b : Path) (cause : SwapCause) (s : State) : State :=
  let moved := match s.psl.active with
    | none => s
    | some p => splice p b s
  makeDue b (.pathSwap s.psl.active) (withdrawPathSwap
    (moved.setPsl { moved.psl with active := some b, lastFrom := s.psl.active, lastCause := cause }))

theorem swapped_entries (b : Path) (cause : SwapCause) (s : State) :
    (swapped b cause s).vtb.entries = s.vtb.entries := by
  unfold swapped
  cases s.psl.active <;> rfl

/-- After the bulk review a swap opens a drain window, starts the hold-down, counts and gives notice. -/
theorem rateView_swapTo (b : Path) (cause : SwapCause) :
    rateView (swapTo b cause s) = rateView (bulkReview (swapped b cause s)) := by
  simp only [swapTo, rateView_raiseNotice, rateView_setPsl, countSwap_active, rateView_swapDrain]
  rfl

theorem swapTo_recordsLaw {b : Path} {cause : SwapCause} (h : PresenceLaw s) :
    RecordsLaw (swapTo b cause s) :=
  (bulkReview_recordsLaw (h.of_entries (swapped_entries b cause s))).of_view (rateView_swapTo b cause)

theorem enterNoBackhaul_recordsLaw {a : Path} (h : PresenceLaw s) :
    RecordsLaw (enterNoBackhaul a s) :=
  (bulkReview_recordsLaw (s := withdrawPathSwap ((withdrawDue a isFill (flushQueue a s)).setPsl
    { s.psl with active := none })) (h.of_entries rfl)).of_view (by
      simp only [enterNoBackhaul, rateView_raiseNotice, rateView_setPsl, rateView_drainIfUp]
      rfl)

theorem leaveActive_recordsLaw {a : Path} (h : RecordsLaw s) : RecordsLaw (leaveActive a s) := by
  have hc : PresenceLaw (computeCandidate s) := h.presence.of_entries rfl
  unfold leaveActive
  dsimp only
  split
  · exact swapTo_recordsLaw hc
  · exact enterNoBackhaul_recordsLaw hc

theorem activate_recordsLaw (h : RecordsLaw s) : RecordsLaw (activate s) := by
  unfold activate
  split
  · dsimp only
    split
    · exact swapTo_recordsLaw (h.presence.of_entries rfl)
    · exact h.of_view rfl
  · exact h

theorem pathEntersUp_recordsLaw {p : Path} (h : RecordsLaw s) : RecordsLaw (pathEntersUp p s) := by
  have hn : RecordsLaw (raiseNotice .pathState s) := h.of_view rfl
  unfold pathEntersUp
  dsimp only
  split
  · exact activate_recordsLaw hn
  · exact hn

theorem pathLeavesUp_recordsLaw {p : Path} (h : RecordsLaw s) : RecordsLaw (pathLeavesUp p s) := by
  have hd : RecordsLaw (closeDrain p (withdrawDue p isPathSwap (raiseNotice .pathState s))) :=
    h.of_view rfl
  unfold pathLeavesUp
  dsimp only
  split
  · exact leaveActive_recordsLaw hd
  · exact hd

theorem selectorZoneChange_recordsLaw (h : RecordsLaw s) : RecordsLaw (selectorZoneChange s) := by
  unfold selectorZoneChange
  split
  · split
    · exact h
    · exact leaveActive_recordsLaw h
  · exact activate_recordsLaw h

theorem advanceConfirm_recordsLaw {b : Path} (h : RecordsLaw s) :
    RecordsLaw (advanceConfirm b s) := by
  unfold advanceConfirm
  dsimp only
  split
  · exact swapTo_recordsLaw (h.presence.of_entries rfl)
  · exact h.of_view rfl

theorem evaluateCases_recordsLaw (h : RecordsLaw s) : RecordsLaw (evaluateCases s) := by
  have hclear : RecordsLaw (clearConfirm s) := h.of_view rfl
  unfold evaluateCases
  split
  · split
    · exact hclear
    · split
      · split
        · exact swapTo_recordsLaw h.presence
        · exact hclear
      · split
        · exact advanceConfirm_recordsLaw h
        · exact hclear
  · exact hclear

theorem evaluate_recordsLaw (h : RecordsLaw s) : RecordsLaw (evaluate s) := by
  have hc : RecordsLaw (evaluateCases (computeCandidate s)) :=
    evaluateCases_recordsLaw (h.of_view rfl)
  exact hc.of_view rfl

theorem selectorRestart_recordsLaw (h : PresenceLaw s) : RecordsLaw (selectorRestart s) :=
  bulkReview_recordsLaw (h.of_entries rfl)

/-! ## Zone changes -/

/-- Whatever zone is taken on, the bulk review follows (R98). -/
theorem zoneChange_recordsLaw {z : Zone} {cause : ChangeCause} (h : PresenceLaw s) :
    RecordsLaw (zoneChange z cause s) := by
  have hreview : RecordsLaw (bulkReview (s.setZnu (zoneRecord s.znu z cause))) :=
    bulkReview_recordsLaw (h.of_entries rfl)
  have hselect := selectorZoneChange_recordsLaw (hreview.of_view rateView_retarget)
  exact hselect.of_view rfl

theorem reportTaken_terms (u : Znu) (lat lon : Int) :
    (reportTaken u lat lon).current = u.current ∧ (reportTaken u lat lon).zones = u.zones ∧
      (reportTaken u lat lon).defaultTerms = u.defaultTerms := by
  unfold reportTaken debounce
  dsimp only
  (repeat' split) <;> exact ⟨rfl, rfl, rfl⟩

theorem positionExpiry_recordsLaw (h : RecordsLaw s) : RecordsLaw (positionExpiry s) := by
  have hstale : RecordsLaw (s.setZnu
      { s.znu with positionState := .stale, positionTimer := none }) := h.of_view rfl
  have hend : ∀ u : State, RecordsLaw u → RecordsLaw (raiseNotice .positionStale
      (u.setZnu { clearCandidate u.znu with fallbacks := u.znu.fallbacks + 1 })) :=
    fun u hu => hu.of_view rfl
  unfold positionExpiry
  dsimp only
  split
  · exact hend _ hstale
  · exact hend _ (zoneChange_recordsLaw hstale.presence)

theorem positionReport_recordsLaw {lat lon : Int} (h : RecordsLaw s) :
    RecordsLaw (positionReport lat lon s).1 := by
  unfold positionReport
  dsimp only
  split
  · obtain ⟨hcurrent, hzones, hdefault⟩ := reportTaken_terms s.znu lat lon
    refine h.of_view (rateView_setZnu hcurrent ?_)
    rw [hcurrent, currentTerms]
    unfold zoneTerms
    rw [hzones, hdefault]
  · exact zoneChange_recordsLaw (h.presence.of_entries rfl)

/-! ## Paths -/

theorem completeSurvey_recordsLaw {p : Path} {es : List SurveyEntry} (h : RecordsLaw s) :
    RecordsLaw (completeSurvey p es s) := by
  unfold completeSurvey
  dsimp only
  split
  case h_1 =>
    split
    · exact pathEntersUp_recordsLaw (h.of_view (by simp))
    · exact h.of_view (by simp)
  all_goals exact h.of_view (by simp)

theorem updateSurvey_recordsLaw {p : Path} {run : SurveyRun} {es : List SurveyEntry}
    (h : RecordsLaw s) : RecordsLaw (updateSurvey p run es s) := by
  unfold updateSurvey
  split
  · exact completeSurvey_recordsLaw h
  · exact h.of_view (by simp)

theorem echoTaken_recordsLaw {p : Path} {id : BitVec 8} (h : RecordsLaw s) :
    RecordsLaw (echoTaken p id s) := by
  unfold echoTaken
  split
  · exact h.of_view (by simp)
  · split
    · split
      · exact updateSurvey_recordsLaw (h.of_view (by simp))
      · exact h.of_view (by simp)
    · exact h.of_view (by simp)
    · exact h.of_view (by simp)

theorem echoArrives_recordsLaw {p : Path} {id : BitVec 8} (h : RecordsLaw s) :
    RecordsLaw (echoArrives p id s) := by
  unfold echoArrives
  split
  · exact h.of_view (by simp)
  · exact echoTaken_recordsLaw h

theorem deadlineExpiry_recordsLaw {p : Path} {id : BitVec 8} (h : RecordsLaw s) :
    RecordsLaw (deadlineExpiry p id s) := by
  unfold deadlineExpiry
  split
  · exact h.of_view (by simp)
  · split
    · split
      · exact updateSurvey_recordsLaw h
      · exact h
    · exact h
    · exact h

theorem carrierLost_recordsLaw {p : Path} (h : RecordsLaw s) : RecordsLaw (carrierLost p s) := by
  unfold carrierLost
  dsimp only
  split
  · split
    · exact pathLeavesUp_recordsLaw (h.of_view (by simp))
    · exact h.of_view (by simp)
  · exact h.of_view (by simp)

theorem disablePath_recordsLaw {p : Path} (h : RecordsLaw s) : RecordsLaw (disablePath p s) := by
  unfold disablePath
  split
  · exact h
  · dsimp only
    split
    · exact pathLeavesUp_recordsLaw (h.of_view (by simp))
    · exact h.of_view (by simp)

/-! ## The restart -/

theorem zoneRestart_rateView : rateView (s.setZnu (zoneRestart s.znu)) = rateView s := by
  unfold zoneRestart
  dsimp only
  split <;> exact rateView_setZnu rfl rfl

theorem restartStages_recordsLaw (h : RecordsLaw s) : RecordsLaw (restartStages s) := by
  have hpaths : RecordsLaw (Path.all.foldl (fun s p => pathRestart p s)
      (restartPackets (restartNotices s))) :=
    List.foldlRecOn _ _ (h.of_view rfl) fun _ hu _ _ => hu.of_view (by simp)
  have hselector := selectorRestart_recordsLaw hpaths.presence
  exact hselector.of_view zoneRestart_rateView

end Sys2Proof.Machine
end

section
/-! SUPPORT. The movement of packets keeps the consistency of open records: the delivery and the resequencer, the
uplink, the transmitters and the frames that arrive (R11 to R15, R145 to R152). -/

namespace Sys2Proof.Machine

variable {s t : State}

/-! ## The delivery of a packet in hand -/

theorem refuseHeld_recordsLaw (i : Nat) (why : Refused) (h : RecordsLaw s) :
    RecordsLaw (refuseHeld i why s) := (blockPacket_recordsLaw i why h).of_view rfl

@[simp] theorem rateView_countSubstitution (b : Bool) :
    rateView (countSubstitution b s) = rateView s := by cases b <;> rfl

theorem deliverCharged_recordsLaw (i : Nat) (x : Held) (c : Cell) (h : RecordsLaw s) :
    RecordsLaw (deliverCharged i x c s) := by
  have hcharge := charge_recordsLaw i x.length .down h
  unfold deliverCharged
  split
  · exact h.of_view rfl
  · dsimp only
    split <;> exact hcharge.of_view rfl

theorem deliverTo_recordsLaw (i : Nat) (x : Held) (h : RecordsLaw s) :
    RecordsLaw (deliverTo i x s) := by
  unfold deliverTo
  split
  · exact refuseHeld_recordsLaw i _ h
  · split
    · exact refuseHeld_recordsLaw i _ h
    · exact deliverCharged_recordsLaw i x _ (h.of_view (by simp))

theorem downlinkDelivery_recordsLaw (x : Held) (h : RecordsLaw s) :
    RecordsLaw (downlinkDelivery x s) := by
  unfold downlinkDelivery
  split
  · exact h.of_view rfl
  · exact deliverTo_recordsLaw _ x (owedWork_recordsLaw _ h)

theorem deliver_recordsLaw (x : Held) (h : RecordsLaw s) : RecordsLaw (deliver x s) :=
  downlinkDelivery_recordsLaw x (h.of_view rfl)

theorem deliverNext_recordsLaw (x : Held) (left : List Held) (h : RecordsLaw s) :
    RecordsLaw (deliverNext x left s) := deliver_recordsLaw x (h.of_view rfl)

theorem deliverRun_recordsLaw :
    ∀ (run : List Held) {s : State}, RecordsLaw s → RecordsLaw (deliverRun run s)
  | [], _, h => h
  | x :: left, _, h => by
    unfold deliverRun
    split
    · exact deliverRun_recordsLaw left (deliverNext_recordsLaw x left h)
    · exact h

theorem deliverAll_recordsLaw :
    ∀ (out : List Held) {s : State}, RecordsLaw s → RecordsLaw (deliverAll out s)
  | [], _, h => h
  | x :: left, _, h => deliverAll_recordsLaw left (deliver_recordsLaw x h)

/-! ## The resequencer -/

theorem placeNear_recordsLaw (x : Held) (h : RecordsLaw s) : RecordsLaw (placeNear x s) := by
  unfold placeNear
  split
  · exact deliverRun_recordsLaw _ (deliverNext_recordsLaw x _ h)
  · split <;> exact h.of_view rfl

theorem jumpTo_recordsLaw (next : BitVec 16) (h : RecordsLaw s) : RecordsLaw (jumpTo next s) :=
  deliverRun_recordsLaw _ (deliverAll_recordsLaw _ (h.of_view rfl))

theorem jump_recordsLaw (x : Held) (h : RecordsLaw s) : RecordsLaw (jump x s) :=
  (placeNear_recordsLaw x (jumpTo_recordsLaw _ h)).of_view rfl

theorem placeLocked_recordsLaw (x : Held) (h : RecordsLaw s) : RecordsLaw (placeLocked x s) := by
  unfold placeLocked
  dsimp only
  split
  · exact placeNear_recordsLaw x h
  · split
    · exact jump_recordsLaw x h
    · exact h.of_view rfl

theorem resequence_recordsLaw (x : Held) (h : RecordsLaw s) : RecordsLaw (resequence x s) := by
  unfold resequence
  split
  · exact (placeLocked_recordsLaw x h).of_view (by simp)
  · exact (placeNear_recordsLaw (s := s.setDrs { s.drs with locked := true, nextExpected := x.seq }) x
      (h.of_view rfl)).of_view rateView_checkGapTimer

theorem resync_recordsLaw (h : RecordsLaw s) : RecordsLaw (resync s) := by
  unfold resync
  split
  · exact deliverAll_recordsLaw _ (h.of_view rfl)
  · exact h

theorem resyncIf_recordsLaw {b : Bool} (h : RecordsLaw s) : RecordsLaw (resyncIf b s) := by
  cases b with
  | false => exact h
  | true => exact resync_recordsLaw h

theorem gapExpiry_recordsLaw (h : RecordsLaw s) : RecordsLaw (gapExpiry s) := by
  unfold gapExpiry
  dsimp only
  split
  · exact h.of_view (by simp)
  · refine RecordsLaw.of_view (deliverRun_recordsLaw _ ?_) rateView_checkGapTimer
    exact h.of_view rfl

theorem downlinkArrival_recordsLaw (x : Held) (h : RecordsLaw s) :
    RecordsLaw (downlinkArrival x s) := by
  unfold downlinkArrival
  split
  · exact h.of_view rfl
  · exact resequence_recordsLaw x (h.of_view rfl)

/-! ## The uplink -/

theorem attachLearning_recordsLaw (i : Nat) (h : RecordsLaw s) : RecordsLaw (attachLearning i s) := by
  unfold attachLearning
  split
  · exact attach_recordsLaw i h
  · exact h

theorem uplinkAdmit_recordsLaw (i : Nat) (e : UplinkEntry) (h : RecordsLaw s) :
    RecordsLaw (uplinkAdmit i e s) := by
  unfold uplinkAdmit
  split
  · exact blockPacket_recordsLaw i _ h
  · have hlearn : RecordsLaw (s.setVisitor i { s.visitor i with servingCell := some e.cell }) :=
      h.edit rfl
    exact hlearn.of_view (rateView_uplinkQueue e)

theorem uplinkArrival_recordsLaw (e : UplinkEntry) (h : RecordsLaw s) :
    RecordsLaw (uplinkArrival e s) := by
  unfold uplinkArrival
  split
  · exact h.of_view rfl
  · exact uplinkAdmit_recordsLaw _ e (attachLearning_recordsLaw _ h)

theorem takeAdmitted_recordsLaw (p : Path) (i : Nat) (e : UplinkEntry) (h : RecordsLaw s) :
    RecordsLaw (takeAdmitted p i e s) := by
  have hcharge := charge_recordsLaw i e.length .up h
  unfold takeAdmitted
  split
  · exact blockPacket_recordsLaw i _ h
  · dsimp only
    split
    · exact hcharge.of_view (rateView_sendData p e)
    · exact hcharge

theorem takeUplink_recordsLaw (p : Path) (e : UplinkEntry) (left : List UplinkEntry)
    (h : RecordsLaw s) : RecordsLaw (takeUplink p e left s) := by
  unfold takeUplink
  dsimp only
  split
  · exact h.of_view rfl
  · exact takeAdmitted_recordsLaw p _ e (owedWork_recordsLaw _ (h.of_view rfl))

theorem shoreTake_recordsLaw (p : Path) (h : RecordsLaw s) : RecordsLaw (shoreTake p s) := by
  unfold shoreTake
  split
  · exact h.of_view (by simp)
  · split
    · exact h.of_view (by simp)
    · split
      · exact takeUplink_recordsLaw p _ _ h
      · exact h

/-! ## Frames that arrive -/

theorem userArrives_recordsLaw (b : List Byte) (h : RecordsLaw s) : RecordsLaw (userArrives b s) := by
  unfold userArrives
  split
  · exact h.of_view rfl
  · split
    · exact h.of_view rfl
    · split
      · exact h.of_view rfl
      · exact uplinkArrival_recordsLaw _ (h.of_view rfl)

@[simp] theorem rateView_heartbeatArrives (src : Mac) (b : List Byte) :
    rateView (heartbeatArrives src b s) = rateView s := by
  unfold heartbeatArrives
  dsimp only
  split <;> simp

@[simp] theorem rateView_shipRequestArrives (src : Mac) (b : List Byte) :
    rateView (shipRequestArrives src b s) = rateView s := by simp [shipRequestArrives]

theorem shipSort_recordsLaw (f : EthFrame) (kind : Byte) (h : RecordsLaw s) :
    RecordsLaw (shipSort f kind s) := by
  unfold shipSort
  split
  · exact h.of_view rfl
  · split
    · exact h.of_view rfl
    · split
      · exact userArrives_recordsLaw _ h
      · exact h.of_view (by simp)
      · exact h.of_view (by simp)

theorem shipArrival_recordsLaw (f : EthFrame) (h : RecordsLaw s) : RecordsLaw (shipArrival f s) := by
  unfold shipArrival
  split
  · exact h.of_view rfl
  · split
    · exact h.of_view rfl
    · split
      · exact h.of_view rfl
      · exact shipSort_recordsLaw f _ h

theorem dataArrives_recordsLaw (p : Path) (src : Mac) (b : List Byte) (h : RecordsLaw s) :
    RecordsLaw (dataArrives p src b s) := by
  unfold dataArrives
  split
  · exact h.of_view rfl
  · split
    · exact h.of_view rfl
    · exact downlinkArrival_recordsLaw _ (h.of_view rfl)

@[simp] theorem rateView_shoreRequestArrives (p : Path) (src : Mac) (b : List Byte) :
    rateView (shoreRequestArrives p src b s) = rateView s := by
  unfold shoreRequestArrives
  split <;> simp [learnShore]

theorem shoreSort_recordsLaw (p : Path) (f : EthFrame) (kind : Byte) (h : RecordsLaw s) :
    RecordsLaw (shoreSort p f kind s) := by
  have hcounted : RecordsLaw (supervisionCounted p f.src s) := h.of_view rfl
  unfold shoreSort
  split
  · exact h.of_view rfl
  · split
    · exact h.of_view rfl
    · split
      · exact dataArrives_recordsLaw p _ _ h
      · exact hcounted.of_view (by simp)
      · exact echoArrives_recordsLaw hcounted
      · exact hcounted.of_view (by simp)
      · exact h.of_view (by simp)

theorem shoreArrival_recordsLaw (p : Path) (f : EthFrame) (h : RecordsLaw s) :
    RecordsLaw (shoreArrival p f s) := by
  unfold shoreArrival
  split
  · exact h.of_view rfl
  · split
    · exact h.of_view rfl
    · split
      · exact h.of_view rfl
      · exact shoreSort_recordsLaw p f _ h

end Sys2Proof.Machine
end

section
/-! SUPPORT. What keeps a property of states through a request, through an outcome and through time: the frame of
every command, for a property that the command's own work keeps. -/

namespace Sys2Proof.Machine

variable {P : State → Prop} {s t : State}

/-- A property that the taking of a request, its reply and its fault keep. -/
structure RequestStable (P : State → Prop) : Prop where
  drop : ∀ (port : Port) (s : State), P s → P (dropRequest port s)
  reply : ∀ (port : Port) (x : Reply) (s : State), P s → P (placeReply port x s)
  fault : ∀ (port : Port) (r : Request) (why : Reason) (s : State), P s → P (recordFault port r why s)

/-- A request's body leaves a state of the property. -/
def BodyLeaves (P : State → Prop) (body : Request → State → Answer) : Prop :=
  ∀ (r : Request) (s : State), P s → (body r s).Leaves P

/-- A next state that an outcome answers has the property. -/
def NextLeaves (P : State → Prop) (o : Host.Outcome State Fault Refusal) : Prop :=
  ∀ t : State, o = .next t → P t

theorem nextLeaves_next (h : P t) : NextLeaves P (.next t) := by
  rintro _ ⟨⟩
  exact h

theorem nextLeaves_ite {c : Prop} [Decidable c] {a b : Host.Outcome State Fault Refusal}
    (ha : NextLeaves P a) (hb : NextLeaves P b) : NextLeaves P (if c then a else b) := by
  split
  · exact ha
  · exact hb

theorem RequestStable.settle {port : Port} {taken : List Name} {r : Request} {a : Answer}
    (hP : RequestStable P) (h : P s) (ha : a.Leaves P) : P (settle port taken r a s) := by
  cases a with
  | refused x => exact hP.reply port _ s h
  | malformed why => exact hP.reply port _ _ (hP.fault port r why s h)
  | done adjusted items records t => exact hP.reply port _ t ha

theorem RequestStable.execute {port : Port} {taken : List Name} {body : Request → State → Answer}
    (hP : RequestStable P) (hb : BodyLeaves P body) (r : Request) (s : State) (h : P s) :
    P (execute port taken body r s) := by
  refine hP.settle h ?_
  unfold answer
  split
  · next ha => exact generalCheck_leaves ha
  · exact hb r s h

theorem RequestStable.takeNamed {port : Port} {fits : Name → Bool} {run : Request → State → State}
    (hP : RequestStable P) (hrun : ∀ (r : Request) (t : State), P t → P (run r t)) (h : P s) :
    P (takeNamed port fits run s) := by
  unfold Machine.takeNamed
  split
  · exact h
  · split
    · exact hrun _ _ (hP.drop port s h)
    · exact h

theorem RequestStable.request {port : Port} {name : String} {taken : List Name}
    {body : Request → State → Answer} (hP : RequestStable P) (hb : BodyLeaves P body) (h : P s) :
    NextLeaves P (request port name taken body s) :=
  nextLeaves_next (hP.takeNamed (hP.execute hb) h)

/-- Time makes the due expiries as commands, so a property that commands and clocks keep is kept by every step. -/
theorem step_leaves (hpending : ∀ (s : State) (l : List Instr), P s → P (s.setPending l))
    (hclocks : ∀ (s : State) (x : Clocks), P s → P (s.setClocks x))
    (htimers : ∀ s : State, P s → P (tickTimers s))
    (hexec : ∀ (i : Instr) (s : State), P s → NextLeaves P (exec i s))
    (h : P s) (ht : step s = .next t) : P t := by
  have hfire : ∀ (u : State) (i : Instr), P u → P (fire u i) := fun u i hu => by
    unfold fire
    split
    · split
      · next hn => exact hexec i u hu _ hn
      · exact hu
      · exact hu
    · exact hu
  have htick : ∀ u : State, P u → P (tick u) := fun u hu =>
    List.foldlRecOn _ fire (htimers u hu) fun v hv i _ => hfire v i hv
  unfold step at ht
  split at ht
  · cases ht
    unfold timeStep
    split
    · exact hclocks _ _ h
    · exact htick _ (hclocks _ _ h)
  · next i rest _ => exact hexec i _ (hpending s rest h) t ht

end Sys2Proof.Machine
end

section
/-! SUPPORT. Every request, every event and so every step keeps the consistency of open records (R93). -/

namespace Sys2Proof.Machine

variable {s t : State} {i : Nat}

theorem recordsLaw_requestStable : RequestStable RecordsLaw where
  drop port _ h := h.of_view (rateView_dropRequest port)
  reply port x _ h := h.of_view (rateView_placeReply port x)
  fault port r why _ h := h.of_view (rateView_recordFault port r why)

/-! ## The bodies of the requests on visitors -/

theorem unknownBody_records : BodyLeaves RecordsLaw unknownBody := fun _ _ _ => trivial

theorem visitorAddBody_records : BodyLeaves RecordsLaw visitorAddBody := fun _ _ h =>
  leaves_need fun _ => leaves_need fun _ => leaves_need fun _ => leaves_need fun _ =>
  leaves_ite trivial <| leaves_named fun i => leaves_named fun _ => leaves_named fun _ =>
  leaves_ite trivial <| leaves_ite trivial <| (h.but i).write (Conditions.fits_of_closed rfl)

theorem visitorRemoveBody_records : BodyLeaves RecordsLaw visitorRemoveBody := fun _ _ h =>
  leaves_needEntry fun i => by
    split
    · trivial
    · trivial
    · exact becomeFree_recordsLaw i h
    · next ha => exact removeSettled_recordsLaw (removeClosing_recordsLaw ha h)

theorem visitorReadBody_records : BodyLeaves RecordsLaw visitorReadBody := fun _ _ h => by
  unfold visitorReadBody
  split
  · trivial
  · trivial
  · exact leaves_named fun _ => h
  · exact leaves_ite trivial (leaves_named fun _ => h)

theorem visitorCreditBody_records : BodyLeaves RecordsLaw visitorCreditBody := fun _ _ h =>
  leaves_need fun _ => leaves_need fun _ => leaves_named fun _ => leaves_entry fun _ => h.edit rfl

theorem visitorAllowBody_records : BodyLeaves RecordsLaw visitorAllowBody := fun _ _ h =>
  leaves_need fun _ => leaves_need fun _ => leaves_named fun _ => leaves_entry fun _ => h.edit rfl

theorem visitorSettleBody_records : BodyLeaves RecordsLaw visitorSettleBody := fun _ _ h =>
  leaves_needEntry fun _ => leaves_entry fun _ => h.edit rfl

/-! ## The bodies of the requests on the tables -/

/-- TARIFF_LOAD writes the standby bank, of which no price is taken (R39). -/
theorem bankWritten_standby (u : Rtu) (region : Region) (plan : Fin 8) (x : TariffRow) :
    (bankWritten u u.activeBank.other region plan x).partners = u.partners ∧
      bankRows (bankWritten u u.activeBank.other region plan x)
        (bankWritten u u.activeBank.other region plan x).activeBank = bankRows u u.activeBank := by
  obtain ⟨bank0, bank1, activeBank, plans, partners⟩ := u
  cases activeBank <;> exact ⟨rfl, rfl⟩

theorem rateView_bankWritten (region : Region) (plan : Fin 8) (x : TariffRow) :
    rateView (s.setRtu (bankWritten s.rtu s.rtu.activeBank.other region plan x)) = rateView s := by
  obtain ⟨hpartners, hrows⟩ := bankWritten_standby s.rtu region plan x
  exact congrArg (Prod.mk _) (conditions_congr rfl rfl rfl (fun _ _ => rfl) hrows hpartners)

theorem tariffLoadBody_records : BodyLeaves RecordsLaw tariffLoadBody := fun _ _ h =>
  leaves_need fun _ => leaves_need fun _ => leaves_need fun _ => leaves_need fun _ =>
  leaves_named fun a => leaves_named fun b => leaves_bankChecked <|
  h.of_view (rateView_bankWritten a b _)

theorem tariffSwitchBody_records : BodyLeaves RecordsLaw tariffSwitchBody := fun _ _ h =>
  leaves_bankChecked (bulkReview_recordsLaw (h.presence.of_entries rfl))

theorem planLoadBody_records : BodyLeaves RecordsLaw planLoadBody := fun _ _ h =>
  leaves_need fun _ => leaves_named fun _ => bulkReview_recordsLaw (h.presence.of_entries rfl)

/-- The visitors of the partner written are marked, and no other reads it (R43). -/
theorem partnerReview_recordsLaw (n : Fin 128) (x : Partner) (h : RecordsLaw s) :
    RecordsLaw (partnerReview n (s.setRtu { s.rtu with partners := s.rtu.partners.set n x })) := by
  have hc : conditions (partnerReview n (s.setRtu
      { s.rtu with partners := s.rtu.partners.set n x })) =
      { conditions s with partners := s.rtu.partners.set n x } := by
    rw [partnerReview, refreshEngine_frame]
    rfl
  refine recordsLaw_of_map h.table (by simp [partnerReview])
    (eq_freeEntry_iff_of_ledger (ledger_setPartnerReviewMark n)) fun i => ?_
  rw [hc]
  exact setPartnerReviewMark_fits (h.fits i) fun m hm =>
    Vector.getElem_set_ne _ _ (fun e => hm (Fin.ext e.symm))

theorem partnerLoadBody_records : BodyLeaves RecordsLaw partnerLoadBody := fun _ _ h =>
  leaves_need fun _ => leaves_ite trivial <| leaves_named fun n => partnerReview_recordsLaw n _ h

/-! ## The bodies of the requests on records -/

theorem recordDrainBody_records : BodyLeaves RecordsLaw recordDrainBody := fun _ _ h =>
  leaves_need fun _ => h.of_view rfl

@[simp] theorem rateView_cursorForward (old : Rcq) (n : Nat) :
    rateView (cursorForward old n s) = rateView s := by
  unfold cursorForward
  split <;> rfl

theorem recordReleaseBody_records : BodyLeaves RecordsLaw recordReleaseBody := fun _ _ h =>
  leaves_need fun _ => leaves_ite trivial <|
  (releaseRecords_recordsLaw _ h).of_view (rateView_cursorForward _ _)

theorem voyageStartBody_records : BodyLeaves RecordsLaw voyageStartBody := fun _ _ h =>
  h.map rfl ledger_voyageVisitor rated_voyageVisitor rfl

theorem recordIntervalBody_records : BodyLeaves RecordsLaw recordIntervalBody := fun _ _ h =>
  leaves_need fun _ => h.of_view rfl

theorem recordFlushBody_records : BodyLeaves RecordsLaw recordFlushBody := fun _ _ h =>
  bulkClose_recordsLaw (h.of_view rfl)

/-! ## The bodies of the requests on zones -/

/-- ZONE_LOAD writes one entry of the zones, whose terms are read while it is current (R96). -/
theorem zoneTerms_zoneLoaded {k : ZoneIndex} {z : ZoneRow} {u : Znu} (h : u.current ≠ some (.entry k)) :
    zoneTerms (zoneLoaded k z u) u.current = zoneTerms u u.current := by
  cases hc : u.current with
  | none => rfl
  | some y =>
    cases y with
    | default => rfl
    | entry j =>
      have hj : k.val ≠ j.val := fun e => h (by rw [hc, Fin.ext e])
      exact congrArg ZoneRow.terms (Vector.getElem_set_ne k.isLt j.isLt hj)

theorem zoneLoadBody_records : BodyLeaves RecordsLaw zoneLoadBody := fun _ s h =>
  leaves_need fun _ => leaves_ite trivial <| leaves_named fun k => leaves_ite trivial <| by
    rw [zoneLoadWrite, leaves_done]
    split
    · exact zoneChange_recordsLaw (h.presence.of_entries rfl)
    · next hk =>
      refine h.of_view (rateView_setZnu rfl ?_)
      exact congrArg Terms.region (zoneTerms_zoneLoaded (by simpa using hk))

/-- Where no terms item is present the region of the DEFAULT record stands (R97). -/
theorem termsWritten_region {r : Request} {old : Terms} (h : termsPresent r = false) :
    (termsWritten r old).region = old.region := by
  have hr : arg "REGION" r = none := by
    simp only [termsPresent, Bool.or_eq_false_iff] at h
    obtain ⟨⟨⟨hr, -⟩, -⟩, -⟩ := h
    simpa using hr
  simp [termsWritten, hr, clampedNat]

theorem defaultsWritten_zones (r : Request) (u : Znu) :
    (defaultsWritten r u).current = u.current ∧ (defaultsWritten r u).zones = u.zones ∧
      (defaultsWritten r u).defaultTerms = termsWritten r u.defaultTerms := by
  unfold defaultsWritten
  dsimp only
  split <;> exact ⟨rfl, rfl, rfl⟩

theorem zoneTerms_defaultsWritten {r : Request} {u : Znu}
    (h : (termsPresent r && decide (u.current = some .default)) = false) :
    (zoneTerms (defaultsWritten r u) u.current).region = (zoneTerms u u.current).region := by
  obtain ⟨-, hzones, hterms⟩ := defaultsWritten_zones r u
  cases hc : u.current with
  | none => rfl
  | some z =>
    cases z with
    | default =>
      have hr : termsPresent r = false := by simpa [hc] using h
      rw [zoneTerms, hterms]
      exact termsWritten_region hr
    | entry k => simp only [zoneTerms, hzones]

theorem zoneDefaultsBody_records : BodyLeaves RecordsLaw zoneDefaultsBody := fun r s h =>
  leaves_ite trivial <| leaves_ite trivial <| by
    rw [leaves_done]
    split
    · exact zoneChange_recordsLaw (h.presence.of_entries rfl)
    · next hk =>
      obtain ⟨hcurrent, -⟩ := defaultsWritten_zones r s.znu
      refine h.of_view (rateView_setZnu hcurrent ?_)
      rw [hcurrent]
      exact zoneTerms_defaultsWritten (Bool.eq_false_of_not_eq_true hk)

theorem positionBody_records : BodyLeaves RecordsLaw positionBody := fun _ _ h =>
  leaves_need fun _ => leaves_need fun _ => leaves_ite (positionReport_recordsLaw h) trivial

theorem forceZone_records {z : Zone} (h : RecordsLaw s) : (forceZone z s).Leaves RecordsLaw := by
  rw [forceZone, leaves_done]
  split
  · exact zoneChange_recordsLaw (h.presence.of_entries rfl)
  · exact h.of_view rfl

theorem zoneForceBody_records : BodyLeaves RecordsLaw zoneForceBody := fun _ _ h =>
  leaves_need fun _ => leaves_named fun _ => leaves_ite (forceZone_records h) trivial

/-! ## The bodies of the requests on paths, the selector and the resequencer -/

/-- A surcharge that the conditions read is changed with a bulk review (R44, R83). -/
theorem pathConfigBody_records : BodyLeaves RecordsLaw pathConfigBody := fun _ _ h =>
  leaves_need fun _ => leaves_ite trivial <| leaves_named fun _ => by
    rw [leaves_done, surchargeMarks]
    split
    · exact bulkReview_recordsLaw (h.presence.of_entries rfl)
    · next hsame =>
      refine h.of_view (rateView_setPath fun ha => ?_)
      by_contra hne
      exact hsame ⟨ha, Ne.symm hne⟩

theorem pathEnableBody_records : BodyLeaves RecordsLaw pathEnableBody := fun _ _ h =>
  leaves_needPath fun p => h.of_view (rateView_enablePath p)

theorem pathDisableBody_records : BodyLeaves RecordsLaw pathDisableBody := fun _ _ h =>
  leaves_needPath fun _ => disablePath_recordsLaw h

theorem pathSurveyBody_records : BodyLeaves RecordsLaw pathSurveyBody := fun _ _ h =>
  leaves_needPath fun p =>
    leaves_ite (leaves_ite trivial (h.of_view (rateView_startOrDefer p))) trivial

theorem pathTestBody_records : BodyLeaves RecordsLaw pathTestBody := fun _ s h =>
  leaves_needPath fun p => by
    have htest : RecordsLaw (s.modPath p enterTest) := h.of_view (by simp)
    split
    · exact htest
    · exact htest
    · exact h
    all_goals trivial

theorem selectConfigBody_records : BodyLeaves RecordsLaw selectConfigBody := fun _ _ h =>
  h.of_view (rateView_setPsl (clearConfirmIf_active ..))

theorem pathPinBody_records : BodyLeaves RecordsLaw pathPinBody := fun _ _ h =>
  leaves_need fun _ => leaves_named fun _ => h.of_view (rateView_setPsl (clearConfirmIf_active ..))

theorem reseqConfigBody_records : BodyLeaves RecordsLaw reseqConfigBody := fun _ _ h =>
  resyncIf_recordsLaw (h.of_view (rateView_setDrs _))

/-! ## The bodies of the requests on cell heads, the clock, status and notices -/

theorem cellConfigBody_records : BodyLeaves RecordsLaw cellConfigBody := fun _ _ h =>
  leaves_need fun _ => leaves_named fun _ => leaves_ite trivial <| h.of_view rfl

theorem grantConfigBody_records : BodyLeaves RecordsLaw grantConfigBody := fun _ _ h => h.of_view rfl

theorem clockSetBody_records : BodyLeaves RecordsLaw clockSetBody := fun _ _ h =>
  leaves_need fun _ => h.of_view rfl

theorem statusReadBody_records (port : Port) : BodyLeaves RecordsLaw (statusReadBody port) :=
  fun _ _ h => leaves_named fun _ => h.of_view (rateView_statusLeaves port)

theorem noticeArmBody_records : BodyLeaves RecordsLaw noticeArmBody := fun _ _ h => h.of_view rfl

theorem noticeClearBody_records : BodyLeaves RecordsLaw noticeClearBody := fun _ _ h => h.of_view rfl

theorem creditListReadBody_records : BodyLeaves RecordsLaw creditListReadBody := fun _ _ h =>
  h.of_view rfl

/-! ## The events -/

/-- Power-on reset leaves every entry FREE (R182). -/
theorem powerOnFrom_recordsLaw (s : State) : RecordsLaw (powerOnFrom s) :=
  recordsLaw_iff.2 ⟨⟨.nil, by simp [powerOnFrom, State.reset, Vtb.powerOn]⟩, fun _ => Conditions.fits_of_closed rfl⟩

theorem sweepVisit_recordsLaw (h : RecordsLaw s) : RecordsLaw (sweepVisit s) := by
  unfold sweepVisit
  dsimp only
  split
  · exact h.of_view rfl
  · exact (owedWork_recordsLaw _ h).of_view rfl

theorem intervalExpiry_recordsLaw (h : RecordsLaw s) : RecordsLaw (intervalExpiry s) := by
  have hclose : RecordsLaw (bulkClose (s.setRse { s.rse with closeReason := reasonAtExpiry s })) :=
    bulkClose_recordsLaw (h.of_view rfl)
  exact hclose.of_view rfl

theorem restartTaken_recordsLaw {port : Port} (r : Request) (s : State) (h : RecordsLaw s) :
    RecordsLaw (restartTaken port r s) := by
  unfold restartTaken
  split
  · next ha => exact recordsLaw_requestStable.settle h (generalCheck_leaves ha)
  · exact (restartStages_recordsLaw h).of_view rfl

/-! ## Every command -/

theorem execSurveyProbeDue_records (p : Path) (h : RecordsLaw s) :
    NextLeaves RecordsLaw (execSurveyProbeDue p s) := by
  unfold execSurveyProbeDue
  split
  · exact nextLeaves_ite (nextLeaves_next (h.of_view (by simp))) (nextLeaves_next h)
  · exact nextLeaves_next h
  · exact nextLeaves_next h

theorem execHeartbeatTimerExpiry_records (c : Nat) (h : RecordsLaw s) :
    NextLeaves RecordsLaw (execHeartbeatTimerExpiry c s) := by
  unfold execHeartbeatTimerExpiry
  split
  · exact nextLeaves_ite (nextLeaves_next (h.of_view rfl)) (nextLeaves_next h)
  · exact nextLeaves_next h

theorem execRestartEntryStep_records (h : RecordsLaw s) :
    NextLeaves RecordsLaw (execRestartEntryStep s) := by
  unfold execRestartEntryStep
  split
  · exact nextLeaves_next h
  · split
    · exact nextLeaves_next h
    · exact nextLeaves_next (restartEntry_recordsLaw _ _ h)

theorem execRestartIntervalTimer_records (h : RecordsLaw s) :
    NextLeaves RecordsLaw (execRestartIntervalTimer s) := by
  unfold execRestartIntervalTimer
  split
  · exact nextLeaves_next h
  · split
    · exact nextLeaves_next (h.of_view rfl)
    · exact nextLeaves_next h

theorem exec_records (c : Instr) (s : State) (h : RecordsLaw s) : NextLeaves RecordsLaw (exec c s) := by
  have hkeep : NextLeaves RecordsLaw (.next s) := nextLeaves_next h
  have same : ∀ t : State, rateView t = rateView s → NextLeaves RecordsLaw (.next t) :=
    fun _ e => nextLeaves_next (h.of_view e)
  have req : ∀ {port : Port} {name : String} {taken : List Name} {body : Request → State → Answer},
      BodyLeaves RecordsLaw body → NextLeaves RecordsLaw (request port name taken body s) :=
    fun hb => recordsLaw_requestStable.request hb h
  cases c with
  | powerOnReset => exact nextLeaves_next (powerOnFrom_recordsLaw s)
  | shipFrameArrival f => exact nextLeaves_next (shipArrival_recordsLaw f h)
  | shoreFrameArrival p f => exact nextLeaves_next (shoreArrival_recordsLaw p f h)
  | shoreTransmitTake p => exact nextLeaves_ite (nextLeaves_next (shoreTake_recordsLaw p h)) hkeep
  | shoreTransmissionEnd p => exact same _ rfl
  | shipTransmitTake => exact nextLeaves_ite (same _ (by simp)) hkeep
  | shipTransmissionEnd => exact same _ rfl
  | shipLinkLoss => exact same _ rfl
  | shipLinkReturn => exact same _ rfl
  | carrierArrival p => exact nextLeaves_ite hkeep (same _ (by simp))
  | carrierLoss p => exact nextLeaves_ite (nextLeaves_next (carrierLost_recordsLaw h)) hkeep
  | settleTimerExpiry p => exact nextLeaves_ite (same _ (by simp)) hkeep
  | openTimerExpiry p => exact nextLeaves_ite (same _ (by simp)) hkeep
  | surveyProbeDue p => exact execSurveyProbeDue_records p h
  | probeTimerExpiry p => exact nextLeaves_ite (same _ (by simp)) hkeep
  | probeDeadlineExpiry p id => exact nextLeaves_next (deadlineExpiry_recordsLaw h)
  | idleTimerExpiry p => exact nextLeaves_ite (same _ (by simp)) hkeep
  | recoveryGapEnd p => exact nextLeaves_ite (same _ (by simp)) hkeep
  | drainWindowExpiry p => exact nextLeaves_ite (same _ rfl) hkeep
  | holdDownExpiry => exact same _ rfl
  | periodTimerExpiry => exact nextLeaves_next (evaluate_recordsLaw h)
  | gapTimerExpiry => exact nextLeaves_ite (nextLeaves_next (gapExpiry_recordsLaw h)) hkeep
  | heartbeatTimerExpiry n => exact execHeartbeatTimerExpiry_records n h
  | grantBoundary => exact same _ rfl
  | positionTimerExpiry =>
    exact nextLeaves_ite (nextLeaves_next (positionExpiry_recordsLaw h)) hkeep
  | intervalExpiry => exact nextLeaves_ite (nextLeaves_next (intervalExpiry_recordsLaw h)) hkeep
  | sweepVisit => exact nextLeaves_ite (nextLeaves_next (sweepVisit_recordsLaw h)) hkeep
  | voyageClockRise => exact same _ rfl
  | unknownRequest port =>
    exact nextLeaves_next (recordsLaw_requestStable.takeNamed
      (recordsLaw_requestStable.execute unknownBody_records) h)
  | visitorAdd port => exact req visitorAddBody_records
  | visitorRemove port => exact req visitorRemoveBody_records
  | visitorRead port => exact req visitorReadBody_records
  | visitorCredit port => exact req visitorCreditBody_records
  | visitorAllow port => exact req visitorAllowBody_records
  | visitorSettle port => exact req visitorSettleBody_records
  | tariffLoad port => exact req tariffLoadBody_records
  | tariffSwitch port => exact req tariffSwitchBody_records
  | planLoad port => exact req planLoadBody_records
  | partnerLoad port => exact req partnerLoadBody_records
  | recordDrain port => exact req recordDrainBody_records
  | recordRelease port => exact req recordReleaseBody_records
  | voyageStart port => exact req voyageStartBody_records
  | recordInterval port => exact req recordIntervalBody_records
  | recordFlush port => exact req recordFlushBody_records
  | zoneLoad port => exact req zoneLoadBody_records
  | zoneDefaults port => exact req zoneDefaultsBody_records
  | position port => exact req positionBody_records
  | zoneForce port => exact req zoneForceBody_records
  | pathConfig port => exact req pathConfigBody_records
  | pathEnable port => exact req pathEnableBody_records
  | pathDisable port => exact req pathDisableBody_records
  | pathSurvey port => exact req pathSurveyBody_records
  | pathTest port => exact req pathTestBody_records
  | selectConfig port => exact req selectConfigBody_records
  | pathPin port => exact req pathPinBody_records
  | reseqConfig port => exact req reseqConfigBody_records
  | cellConfig port => exact req cellConfigBody_records
  | grantConfig port => exact req grantConfigBody_records
  | clockSet port => exact req clockSetBody_records
  | statusRead port => exact req (statusReadBody_records port)
  | noticeArm port => exact req noticeArmBody_records
  | noticeClear port => exact req noticeClearBody_records
  | creditListRead port => exact req creditListReadBody_records
  | partRestart port =>
    exact nextLeaves_next (recordsLaw_requestStable.takeNamed restartTaken_recordsLaw h)
  | restartEntryStep => exact execRestartEntryStep_records h
  | restartIntervalTimer => exact execRestartIntervalTimer_records h

/-- Settles O9: the law is that of each entry under the conditions a snapshot is evaluated from. A change of the
conditions is followed by the marks of a review, which excuse the difference; a mark is cleared by a review that
leaves none, or with the lifecycle by a removal that opens a current record. So each command keeps it, and so each
step. -/
theorem stepKeepsRecordsLaw : Obligations.StepKeepsRecordsLaw := by
  intro s t h ht
  exact step_leaves (fun _ _ hu => hu.of_view rfl) (fun _ _ hu => hu.of_view rfl)
    (fun _ hu => hu.of_view rateView_tickTimers) exec_records h ht

end Sys2Proof.Machine
end

section
/-! SUPPORT. What a zone change leaves: its record in the Zone Unit, the notice, every visitor marked for review, the
cell heads under the cap of the new zone, and the blocks it does not touch (R104). -/

namespace Sys2Proof.Machine

variable {s t : State}

/-! ## Every visitor marked -/

/-- Every entry that is not FREE carries REVIEW_MARK, as a bulk review leaves the table (R83). -/
def AllMarked (s : State) : Prop :=
  ∀ i : Nat, (s.visitor i).lifecycle ≠ .free → (s.visitor i).reviewMark = true

theorem AllMarked.of_vtb (h : AllMarked s) (e : t.vtb = s.vtb) : AllMarked t := by
  unfold AllMarked State.visitor
  rw [e]
  exact h

theorem bulkReview_allMarked (s : State) : AllMarked (bulkReview s) := fun i hi => by
  rw [bulkReview_visitor] at hi ⊢
  exact setReviewMark_marked _ hi

/-- After its bulk review a swap leaves the visitor table as it stands (R134). -/
theorem swapTo_vtb (b : Path) (cause : SwapCause) (s : State) :
    (swapTo b cause s).vtb = (bulkReview (swapped b cause s)).vtb := by
  simp only [swapTo, raiseNotice_vtb, State.setPsl_vtb, swapDrain_vtb]
  rfl

theorem swapTo_allMarked (b : Path) (cause : SwapCause) (s : State) : AllMarked (swapTo b cause s) :=
  (bulkReview_allMarked (swapped b cause s)).of_vtb (swapTo_vtb b cause s)

theorem enterNoBackhaul_allMarked (a : Path) (s : State) : AllMarked (enterNoBackhaul a s) :=
  (bulkReview_allMarked (withdrawPathSwap ((withdrawDue a isFill (flushQueue a s)).setPsl
    { s.psl with active := none }))).of_vtb (by simp [enterNoBackhaul])

theorem leaveActive_allMarked (a : Path) (s : State) : AllMarked (leaveActive a s) := by
  unfold leaveActive
  dsimp only
  split
  · exact swapTo_allMarked _ _ _
  · exact enterNoBackhaul_allMarked _ _

theorem activate_allMarked (h : AllMarked s) : AllMarked (activate s) := by
  unfold activate
  split
  · dsimp only
    split
    · exact swapTo_allMarked _ _ _
    · exact h.of_vtb rfl
  · exact h

theorem selectorZoneChange_allMarked (h : AllMarked s) : AllMarked (selectorZoneChange s) := by
  unfold selectorZoneChange
  split
  · split
    · exact h
    · exact leaveActive_allMarked _ _
  · exact activate_allMarked h

/-! ## The effects of a zone change -/

@[simp] theorem zoneChange_znu (z : Zone) (cause : ChangeCause) (s : State) :
    (zoneChange z cause s).znu = zoneRecord s.znu z cause := by simp [zoneChange]

/-- The notice is raised last, so no other effect of the change clears it (R104). -/
theorem zoneChange_pendingNotice (z : Zone) (cause : ChangeCause) (s : State) :
    (zoneChange z cause s).ntu.zoneChange.pending = true :=
  raiseNotice_sets .zoneChange _

theorem zoneChange_allMarked (z : Zone) (cause : ChangeCause) (s : State) :
    AllMarked (zoneChange z cause s) :=
  (selectorZoneChange_allMarked ((bulkReview_allMarked _).of_vtb (retarget_vtb _))).of_vtb rfl

/-- The terms of a zone are read from the zone table and the DEFAULT record alone (R99). -/
theorem zoneTerms_of_tables {u w : Znu} (hz : u.zones = w.zones) (hd : u.defaultTerms = w.defaultTerms) :
    ∀ z : Option Zone, zoneTerms u z = zoneTerms w z
  | none => rfl
  | some .default => hd
  | some (.entry k) => congrArg (fun x => x[k].terms) hz

/-- The targets are worked out with the new zone current, so under its cap; the selector's part leaves them
(R104, R162). -/
theorem zoneChange_levelLaw (z : Zone) (cause : ChangeCause) (s : State) (c : Cell) :
    LevelLaw (zoneTerms s.znu (some z)).cap ((zoneChange z cause s).cell c) := by
  have hterms : currentTerms (bulkReview (s.setZnu (zoneRecord s.znu z cause))) =
      zoneTerms s.znu (some z) := by
    rw [currentTerms, bulkReview_znu]
    exact zoneTerms_of_tables rfl rfl _
  have hcell : (zoneChange z cause s).cell c =
      (retarget (bulkReview (s.setZnu (zoneRecord s.znu z cause)))).cell c := by
    simp [zoneChange, State.cell]
  rw [hcell, ← hterms]
  exact retarget_levelLaw _ c

/-! ## What a zone change does not touch -/

/-- The blocks that neither a zone change nor a request's reply at the ship port touches. -/
def outsideZoneChange (s : State) :
    BitVec 16 × Rtu × Rcq × PerPath Psv × Drs × Cfu × Clocks × List Instr :=
  (s.uplinkSeq, s.rtu, s.rcq, s.psv, s.drs, s.cfu, s.clocks, s.pending)

theorem outsideZoneChange_zoneChange (z : Zone) (cause : ChangeCause) (s : State) :
    outsideZoneChange (zoneChange z cause s) = outsideZoneChange s := by simp [outsideZoneChange]

theorem frame_of_outsideZoneChange (h : outsideZoneChange t = outsideZoneChange s) :
    t = { s with
      shi := t.shi, shore := t.shore, freeBuffers := t.freeBuffers, vtb := t.vtb, rse := t.rse,
      znu := t.znu, psl := t.psl, cvu := t.cvu, ntu := t.ntu } := by
  cases t
  cases h
  rfl

end Sys2Proof.Machine
end

section
/-! SUPPORT. ZONE_FORCE: the zone that a number names, what the request's body answers, and the obligation on it
(R103). -/

namespace Sys2Proof.Machine

variable {s : State} {r : Request} {z : Zone}

/-! ## A malformed request -/

/-- A request at the head of the ship queue that its body finds malformed. -/
theorem request_ship_malformed {name : String} {taken : List Name} {body : Request → State → Answer}
    {why : Reason} (h : ShipHead name r s) (hn : nm name ∈ requestNames)
    (hw : why ≠ .unknownRequest) (hb : body r (dropRequest .ship s) = .malformed why) :
    request .ship name taken body s = .next
      (placeReply .ship (plainReply r .malformed (setsAside taken r))
        (recordFault .ship r why (dropRequest .ship s))) := by
  obtain ⟨hhead, hname, hrepeat, hfree⟩ := h
  have hcheck : generalCheck .ship r = none := generalCheck_ship (hname ▸ hn) hrepeat
  have hexamined : examined (.malformed why) = true := bne_iff_ne.2 hw
  rw [request, takeNamed_of_head hhead (by simp [hname]) hfree]
  simp [execute, answer, hcheck, hb, settle, hexamined]

/-! ## The zone that a number names -/

theorem indexBelow_val {n : Nat} (k : Fin n) : indexBelow n (k.val : Int) = some k := by
  simp [indexBelow]

theorem indexBelow_eq_none {n : Nat} {v : Int} (h : v < 0 ∨ (n : Int) ≤ v) : indexBelow n v = none :=
  dif_neg (by omega)

theorem zoneNamed_zoneNum : ∀ z : Zone, zoneNamed (zoneNum z : Int) = some z
  | .default => rfl
  | .entry k => by
    have hk : ¬(k.val : Int) = 32 := by omega
    simp only [zoneNamed, zoneNum, if_neg hk, indexBelow_val, Option.map_some]

theorem zoneNamed_eq_none {v : Int} (h : v < 0 ∨ 32 < v) : zoneNamed v = none := by
  have hv : ¬v = 32 := by omega
  rw [zoneNamed, if_neg hv, indexBelow_eq_none (by omega), Option.map_none]

/-! ## The answers of the body -/

theorem zoneForceBody_of_absent (h : arg "ZONE" r = none) :
    zoneForceBody r s = .malformed .missingItem := by simp [zoneForceBody, need, h]

theorem zoneForceBody_of_unnamed {v : Int} (h : arg "ZONE" r = some v) (hv : zoneNamed v = none) :
    zoneForceBody r s = .refused .refusedIndex := by simp [zoneForceBody, need, named, h, hv]

theorem zoneForceBody_of_zone (h : arg "ZONE" r = some (zoneNum z : Int)) :
    zoneForceBody r s = if zoneUsable s.znu z then forceZone z s else .refused .refusedState := by
  simp [zoneForceBody, need, named, h, zoneNamed_zoneNum]

theorem zoneForceBody_of_unusable (h : arg "ZONE" r = some (zoneNum z : Int))
    (hu : zoneUsable s.znu z = false) : zoneForceBody r s = .refused .refusedState := by
  rw [zoneForceBody_of_zone h, if_neg (Bool.eq_false_iff.1 hu)]

/-- A force to the zone that is current clears the candidate and changes no zone (R103). -/
theorem zoneForceBody_of_current (h : arg "ZONE" r = some (zoneNum z : Int))
    (hu : zoneUsable s.znu z = true) (hc : s.znu.current = some z) :
    zoneForceBody r s = .done false [item "CURRENT_ZONE" (zoneNum z), item "ZONE_CHANGE" 0] []
      (s.setZnu (clearCandidate s.znu)) := by
  rw [zoneForceBody_of_zone h, if_pos hu]
  simp [forceZone, clearCandidate, zoneCode, boolCode, hc]

/-- A force to another zone is a zone change after the candidate is cleared (R103). -/
theorem zoneForceBody_of_other (h : arg "ZONE" r = some (zoneNum z : Int))
    (hu : zoneUsable s.znu z = true) (hc : s.znu.current ≠ some z) :
    zoneForceBody r s = .done false [item "CURRENT_ZONE" (zoneNum z), item "ZONE_CHANGE" 1] []
      (zoneChange z .force (s.setZnu (clearCandidate s.znu))) := by
  rw [zoneForceBody_of_zone h, if_pos hu]
  simp [forceZone, zoneRecord, zoneCode, boolCode, hc]

/-! ## The request -/

theorem zoneForce_mem_requestNames : nm "ZONE_FORCE" ∈ requestNames := by simp [requestNames]

/-- Settles O37: the body answers each case, and where the zone is another one the state is that of a zone change,
whose effects stand in the lemmas about it; the reply is written after them and touches its slot alone. -/
theorem zoneForceChangesZone : Obligations.ZoneForceChangesZone := by
  intro r s hhead
  have hname := zoneForce_mem_requestNames
  refine ⟨fun habsent => ?absent, fun v hv hout => ?unnamed, fun k hk hinvalid => ?invalid,
    fun z hz husable => ⟨fun hother => ?change, fun hcurrent => ?stay⟩⟩
  case absent =>
    exact request_ship_malformed hhead hname (by decide) (zoneForceBody_of_absent habsent)
  case unnamed =>
    exact request_ship_refused hhead hname (by decide)
      (zoneForceBody_of_unnamed hv (zoneNamed_eq_none hout))
  case invalid =>
    exact request_ship_refused hhead hname (by decide)
      (zoneForceBody_of_unusable (z := .entry k) hk hinvalid)
  case change =>
    have hznu : (zoneChange z .force ((dropRequest .ship s).setZnu (clearCandidate s.znu))).znu =
        zoneRecord (clearCandidate s.znu) z .force := zoneChange_znu ..
    have hterms : zoneTerms (clearCandidate s.znu) (some z) = zoneTerms s.znu (some z) :=
      zoneTerms_of_tables rfl rfl _
    refine ⟨_, request_ship_done hhead hname (zoneForceBody_of_other hz husable hother),
      congrArg Znu.current hznu, congrArg Znu.prevZone hznu, congrArg Znu.changeCause hznu,
      congrArg Znu.zoneChanges hznu, congrArg Znu.candidate hznu, congrArg Znu.candidateCount hznu,
      (congrArg Znu.positionState hznu :), (congrArg Znu.positionTimer hznu :),
      zoneChange_pendingNotice .., rfl, frame_of_outsideZoneChange (outsideZoneChange_zoneChange ..),
      zoneChange_allMarked _ _ _, fun c => ?_⟩
    rw [← hterms]
    exact zoneChange_levelLaw _ _ ((dropRequest .ship s).setZnu (clearCandidate s.znu)) c
  case stay =>
    exact request_ship_done hhead hname (zoneForceBody_of_current hz husable hcurrent)

end Sys2Proof.Machine
end

section
/-! SUPPORT. What the law of the active path (R129) reads of a state, as a view of its own; what is left of the law
while a path's standing or the zone changes; and what a change of one path or of the active path does to it. -/

namespace Sys2Proof.Machine

variable {s t : State} {p : Path} {v w : Psv}

/-! ## The bring-up of one path -/

/-- What the law reads of a path: its state and whether its two bring-up timers run (R114). -/
def bringUp (v : Psv) : PathState × Bool × Bool :=
  (v.state, timerRunning v.settleTimer, timerRunning v.openTimer)

/-- The settle timer runs in SETTLING alone and the open timer in OPENING alone (R114). -/
def TimersLaw (v : Psv) : Prop :=
  (v.settleTimer ≠ none → v.state = .settling) ∧ (v.openTimer ≠ none → v.state = .opening)

theorem TimersLaw.of_bringUp (h : TimersLaw v) (e : bringUp w = bringUp v) : TimersLaw w := by
  simp only [bringUp, timerRunning, Prod.mk.injEq] at e
  obtain ⟨hstate, hsettle, hopen⟩ := e
  simp only [TimersLaw, ← Option.isSome_iff_ne_none, hstate, hsettle, hopen] at h ⊢
  exact h

theorem TimersLaw.settle_none (h : TimersLaw v) (hs : v.state ≠ .settling) : v.settleTimer = none :=
  Classical.not_not.1 fun hn => hs (h.1 hn)

theorem TimersLaw.open_none (h : TimersLaw v) (hs : v.state ≠ .opening) : v.openTimer = none :=
  Classical.not_not.1 fun hn => hs (h.2 hn)

theorem timersLaw_of_stopped (hs : v.settleTimer = none) (ho : v.openTimer = none) : TimersLaw v :=
  ⟨fun hn => absurd hs hn, fun hn => absurd ho hn⟩

/-- A path may settle once its open timer is stopped (R114). -/
theorem timersLaw_startSettle (ho : v.openTimer = none) : TimersLaw (startSettle v) :=
  ⟨fun _ => rfl, fun hn => absurd ho hn⟩

/-- A path in service is SETTLING with carrier and DOWN without (R110, R126). -/
theorem timersLaw_enterService (b : Bool) (hs : v.settleTimer = none) (ho : v.openTimer = none) :
    TimersLaw (enterService b v) := by
  cases b with
  | false => exact timersLaw_of_stopped hs ho
  | true => exact timersLaw_startSettle ho

/-! ## The view and the law -/

/-- What the law of the active path reads of a state. -/
structure ActiveView where
  active : Option Path
  queue : Path → List UplinkEntry
  mask : PerPath Bool
  bringUp : Path → PathState × Bool × Bool

def activeView (s : State) : ActiveView :=
  { active := s.psl.active, queue := fun p => (s.port p).txQueue, mask := (currentTerms s).pathMask,
    bringUp := fun p => bringUp (s.path p) }

/-- No path but the active one holds packets in its transmit queue (R129). -/
def QueueLaw (s : State) : Prop := ∀ p : Path, s.psl.active ≠ some p → (s.port p).txQueue = []

/-- Every path's bring-up timers run in their states alone (R114). -/
def BringUpLaw (s : State) : Prop := ∀ p : Path, TimersLaw (s.path p)

theorem eligible_iff : eligible s p = true ↔ (s.path p).state = .up ∧ permitted s p = true := by
  simp [eligible, isUp]

/-- The active path is one that is eligible (R129, R132). -/
theorem activeLaw_iff : ActiveLaw s ↔
    (∀ p : Path, s.psl.active = some p → eligible s p = true) ∧ QueueLaw s ∧ BringUpLaw s := by
  simp only [ActiveLaw, QueueLaw, BringUpLaw, TimersLaw, eligible_iff]

theorem ActiveLaw.eligible (h : ActiveLaw s) (ha : s.psl.active = some p) :
    eligible s p = true := (activeLaw_iff.1 h).1 p ha

theorem ActiveLaw.queues (h : ActiveLaw s) : QueueLaw s := (activeLaw_iff.1 h).2.1

theorem ActiveLaw.bringUps (h : ActiveLaw s) : BringUpLaw s := (activeLaw_iff.1 h).2.2

/-- A path that is not UP is not the active one (R129). -/
theorem ActiveLaw.not_active (h : ActiveLaw s) (hp : (s.path p).state ≠ .up) :
    s.psl.active ≠ some p := fun ha => hp (eligible_iff.1 (h.eligible ha)).1

/-- What is left of the law while path p changes its state: were p active, it might be eligible no longer. -/
def ActiveLawBut (p : Path) (s : State) : Prop :=
  (∀ q : Path, q ≠ p → s.psl.active = some q → eligible s q = true) ∧ QueueLaw s ∧ BringUpLaw s

theorem ActiveLaw.but (h : ActiveLaw s) (p : Path) : ActiveLawBut p s :=
  ⟨fun _ _ ha => h.eligible ha, h.queues, h.bringUps⟩

theorem ActiveLawBut.activeLaw (h : ActiveLawBut p s)
    (hp : s.psl.active = some p → eligible s p = true) : ActiveLaw s := by
  obtain ⟨hother, hrest⟩ := h
  refine activeLaw_iff.2 ⟨fun q hq => ?_, hrest⟩
  by_cases hqp : q = p
  · subst hqp; exact hp hq
  · exact hother q hqp hq

/-! ## States of one view -/

theorem eligible_of_view (e : activeView t = activeView s) (p : Path) :
    eligible t p = eligible s p := by
  have hup : (t.path p).state = (s.path p).state :=
    congrArg (fun x : ActiveView => (x.bringUp p).1) e
  have hmask : permitted t p = permitted s p :=
    congrArg (fun x : ActiveView => x.mask.get p) e
  simp only [Machine.eligible, isUp, hup, hmask]

theorem active_of_view (e : activeView t = activeView s) : t.psl.active = s.psl.active :=
  congrArg ActiveView.active e

theorem queue_of_view (e : activeView t = activeView s) (p : Path) :
    (t.port p).txQueue = (s.port p).txQueue := congrArg (fun x : ActiveView => x.queue p) e

theorem QueueLaw.of_view (h : QueueLaw s) (e : activeView t = activeView s) : QueueLaw t :=
  fun p ha => (queue_of_view e p).trans (h p (active_of_view e ▸ ha))

theorem BringUpLaw.of_view (h : BringUpLaw s) (e : activeView t = activeView s) : BringUpLaw t :=
  fun p => (h p).of_bringUp (congrArg (fun x : ActiveView => x.bringUp p) e)

theorem ActiveLawBut.of_view (h : ActiveLawBut p s) (e : activeView t = activeView s) :
    ActiveLawBut p t := by
  obtain ⟨hother, hqueue, hbring⟩ := h
  exact ⟨fun q hqp hq => (eligible_of_view e q).trans (hother q hqp (active_of_view e ▸ hq)),
    hqueue.of_view e, hbring.of_view e⟩

theorem ActiveLaw.of_view (h : ActiveLaw s) (e : activeView t = activeView s) : ActiveLaw t :=
  activeLaw_iff.2 ⟨fun p hp => (eligible_of_view e p).trans (h.eligible (active_of_view e ▸ hp)),
    h.queues.of_view e, h.bringUps.of_view e⟩

/-- The view of the buffers holds the queues and the active path. -/
theorem activeView_of_buffers (hb : bufferView t = bufferView s) (hz : t.znu = s.znu)
    (hp : t.psv = s.psv) : activeView t = activeView s := by
  have hqueue : (fun p => (t.port p).txQueue) = fun p => (s.port p).txQueue :=
    congrArg BufferView.queue hb
  have hactive : t.psl.active = s.psl.active := congrArg BufferView.active hb
  simp only [activeView, hqueue, hactive, currentTerms, State.path, hz, hp]

/-! ## One path or port changed -/

theorem BringUpLaw.modPath {f : Psv → Psv} (h : BringUpLaw s) (hf : TimersLaw (f (s.path p))) :
    BringUpLaw (s.modPath p f) := fun q => by
  rw [State.modPath, State.setPath_path]
  split
  · exact hf
  · exact h q

theorem eligible_modPath_ne {q : Path} (f : Psv → Psv) (hq : q ≠ p) :
    eligible (s.modPath p f) q = eligible s q := by
  simp only [Machine.eligible, isUp, State.modPath, State.setPath_path_ne s _ hq]
  rfl

theorem ActiveLawBut.modPath {f : Psv → Psv} (h : ActiveLawBut p s)
    (hf : TimersLaw (f (s.path p))) : ActiveLawBut p (s.modPath p f) := by
  obtain ⟨hother, hqueue, hbring⟩ := h
  exact ⟨fun q hqp hq => (eligible_modPath_ne f hqp).trans (hother q hqp hq), hqueue,
    hbring.modPath hf⟩

/-- A path that is not UP may change as it will, for it is not active. -/
theorem ActiveLaw.modPath {f : Psv → Psv} (h : ActiveLaw s) (hp : (s.path p).state ≠ .up)
    (hf : TimersLaw (f (s.path p))) : ActiveLaw (s.modPath p f) :=
  ((h.but p).modPath hf).activeLaw fun ha => absurd ha (h.not_active hp)

/-- A path outside bring-up and UP runs neither bring-up timer and is not active. -/
theorem ActiveLaw.modPath_of_idle {f : Psv → Psv} (h : ActiveLaw s)
    (hp : (s.path p).state ∈ [.disabled, .down, .surveying, .test])
    (hf : (s.path p).settleTimer = none → (s.path p).openTimer = none → TimersLaw (f (s.path p))) :
    ActiveLaw (s.modPath p f) := by
  have hne : ∀ x : PathState, x ∉ [.disabled, .down, .surveying, .test] → (s.path p).state ≠ x :=
    fun x hx e => hx (e ▸ hp)
  exact h.modPath (hne .up (by decide)) (hf ((h.bringUps p).settle_none (hne .settling (by decide)))
    ((h.bringUps p).open_none (hne .opening (by decide))))

/-- The transmit queue of the active path may hold what it will (R129). -/
theorem ActiveLaw.setPort {x : ShorePort} (h : ActiveLaw s) (ha : s.psl.active = some p) :
    ActiveLaw (s.setPort p x) := by
  refine activeLaw_iff.2 ⟨fun q hq => h.eligible hq, fun q hq => ?_, h.bringUps⟩
  have hqp : q ≠ p := by rintro rfl; exact hq ha
  rw [State.setPort_port_ne s x hqp]
  exact h.queues q hq

/-- A path that queues a packet is the active one (R129). -/
theorem ActiveLaw.active_of_queue (h : ActiveLaw s) (hq : (s.port p).txQueue ≠ []) :
    s.psl.active = some p := Classical.not_not.1 fun hn => hq (h.queues p hn)

/-- With no path active, the queues empty and the timers in their states nothing else is asked. -/
theorem activeLaw_of_inactive (ha : s.psl.active = none) (hq : ∀ p, (s.port p).txQueue = [])
    (hb : BringUpLaw s) : ActiveLaw s :=
  activeLaw_iff.2 ⟨fun p hp => absurd (ha.symm.trans hp) (by simp), fun p _ => hq p, hb⟩

end Sys2Proof.Machine
end

section
/-! SUPPORT. The operations that leave what the law of the active path reads as it stands, one lemma per operation. -/

namespace Sys2Proof.Machine

variable {s : State} {p : Path}

/-! ## One field -/

@[simp] theorem activeView_setShi (x : Shi) : activeView (s.setShi x) = activeView s := rfl
@[simp] theorem activeView_returnBuffers (n : Nat) :
    activeView (s.returnBuffers n) = activeView s := rfl
@[simp] theorem activeView_takeBuffer : activeView s.takeBuffer = activeView s := rfl
@[simp] theorem activeView_setUplinkSeq (x : BitVec 16) :
    activeView (s.setUplinkSeq x) = activeView s := rfl
@[simp] theorem activeView_setVtb (x : Vtb) : activeView (s.setVtb x) = activeView s := rfl
@[simp] theorem activeView_setRtu (x : Rtu) : activeView (s.setRtu x) = activeView s := rfl
@[simp] theorem activeView_setRcq (x : Rcq) : activeView (s.setRcq x) = activeView s := rfl
@[simp] theorem activeView_setRse (x : Rse) : activeView (s.setRse x) = activeView s := rfl
@[simp] theorem activeView_setDrs (x : Drs) : activeView (s.setDrs x) = activeView s := rfl
@[simp] theorem activeView_setCvu (x : Cvu) : activeView (s.setCvu x) = activeView s := rfl
@[simp] theorem activeView_setCfu (x : Cfu) : activeView (s.setCfu x) = activeView s := rfl
@[simp] theorem activeView_setNtu (x : Ntu) : activeView (s.setNtu x) = activeView s := rfl
@[simp] theorem activeView_setClocks (x : Clocks) : activeView (s.setClocks x) = activeView s := rfl
@[simp] theorem activeView_setPending (x : List Instr) :
    activeView (s.setPending x) = activeView s := rfl
@[simp] theorem activeView_setVisitor (i : Nat) (x : Visitor) :
    activeView (s.setVisitor i x) = activeView s := rfl
@[simp] theorem activeView_setCell (c : Cell) (x : CellHead) :
    activeView (s.setCell c x) = activeView s := rfl
@[simp] theorem activeView_countShip (f : ShipCounters → ShipCounters) :
    activeView (s.countShip f) = activeView s := rfl
@[simp] theorem activeView_raiseNotice (x : Source) :
    activeView (raiseNotice x s) = activeView s := rfl

@[simp] theorem activeView_setPsl {x : Psl} (h : x.active = s.psl.active) :
    activeView (s.setPsl x) = activeView s := activeView_of_buffers (by simp [h]) rfl rfl

/-- A change of the Zone Unit that leaves the paths permitted as they are. -/
theorem activeView_setZnu {x : Znu}
    (h : (zoneTerms x x.current).pathMask = (currentTerms s).pathMask) :
    activeView (s.setZnu x) = activeView s :=
  congrArg (fun m => { activeView s with mask := m }) h

@[simp] theorem activeView_setPort {x : ShorePort} (h : x.txQueue = (s.port p).txQueue) :
    activeView (s.setPort p x) = activeView s := activeView_of_buffers (by simp [h]) rfl rfl

@[simp] theorem activeView_modPort {f : ShorePort → ShorePort}
    (h : (f (s.port p)).txQueue = (s.port p).txQueue) :
    activeView (s.modPort p f) = activeView s := activeView_setPort h

@[simp] theorem activeView_countShore (f : ShoreCounters → ShoreCounters) :
    activeView (s.countShore p f) = activeView s := activeView_setPort rfl

@[simp] theorem activeView_setPath {x : Psv} (h : bringUp x = bringUp (s.path p)) :
    activeView (s.setPath p x) = activeView s := by
  have hb : (fun q => bringUp ((s.setPath p x).path q)) = fun q => bringUp (s.path q) := by
    funext q
    rw [State.setPath_path]
    split
    · next hq => rw [h, hq]
    · rfl
  exact congrArg (fun b => { activeView s with bringUp := b }) hb

@[simp] theorem activeView_modPath {f : Psv → Psv} (h : bringUp (f (s.path p)) = bringUp (s.path p)) :
    activeView (s.modPath p f) = activeView s := activeView_setPath h

/-! ## Visitors, records and coverage -/

@[simp] theorem activeView_bulkReview : activeView (bulkReview s) = activeView s :=
  activeView_of_buffers (by simp) (by simp) (by simp)
@[simp] theorem activeView_bulkClose : activeView (bulkClose s) = activeView s :=
  activeView_of_buffers (by simp) (by simp) (by simp)
@[simp] theorem activeView_partnerReview (n : Fin 128) :
    activeView (partnerReview n s) = activeView s :=
  activeView_of_buffers (by simp) (by simp) (by simp)
@[simp] theorem activeView_refreshEngine : activeView (refreshEngine s) = activeView s :=
  activeView_of_buffers (by simp) (by simp) (by simp)
@[simp] theorem activeView_attach (i : Nat) : activeView (attach i s) = activeView s :=
  activeView_of_buffers (by simp) (by simp) (by simp)
@[simp] theorem activeView_becomeFree (i : Nat) : activeView (becomeFree i s) = activeView s :=
  activeView_of_buffers (by simp) (by simp) (by simp)
@[simp] theorem activeView_closeRecord (i : Nat) (why : CloseReason) :
    activeView (closeRecord i why s).1 = activeView s :=
  activeView_of_buffers (by simp) (by simp) (by simp)
@[simp] theorem activeView_review (i : Nat) : activeView (review i s) = activeView s :=
  activeView_of_buffers (by simp) (by simp) (by simp)
@[simp] theorem activeView_clearMarks (i : Nat) : activeView (clearMarks i s) = activeView s := rfl
@[simp] theorem activeView_owedWork (i : Nat) : activeView (owedWork i s) = activeView s :=
  activeView_of_buffers (by simp) (by simp) (by simp)
@[simp] theorem activeView_blockPacket (i : Nat) (why : Refused) :
    activeView (blockPacket i why s) = activeView s :=
  activeView_of_buffers (by simp) (by simp) (by simp)
@[simp] theorem activeView_charge (i n : Nat) (d : Direction) :
    activeView (charge i n d s).1 = activeView s :=
  activeView_of_buffers (by simp) (by simp) (by simp)
@[simp] theorem activeView_retarget : activeView (retarget s) = activeView s := rfl
@[simp] theorem activeView_heartbeat (c : Cell) (level : Nat) :
    activeView (heartbeat c level s) = activeView s :=
  activeView_of_buffers (by simp) (by simp) (by simp)
@[simp] theorem activeView_heartbeatLoss (c : Cell) :
    activeView (heartbeatLoss c s) = activeView s :=
  activeView_of_buffers (by simp) (by simp) (by simp)

@[simp] theorem activeView_releaseHead (r : Record) (left : List Record) :
    activeView (releaseHead r left s) = activeView s := by
  unfold releaseHead releaseEntry
  dsimp only
  split <;> simp

@[simp] theorem activeView_releaseRecords : ∀ (n : Nat) (s : State),
    activeView (releaseRecords n s) = activeView s
  | 0, _ => rfl
  | n + 1, s => by
    unfold releaseRecords
    split
    · rfl
    · rw [activeView_releaseRecords n, activeView_releaseHead]

@[simp] theorem activeView_cursorForward (old : Rcq) (n : Nat) :
    activeView (cursorForward old n s) = activeView s := by
  unfold cursorForward
  split <;> rfl

@[simp] theorem activeView_removeClosing (i : Nat) :
    activeView (removeClosing i s).1 = activeView s := by simp [removeClosing]

@[simp] theorem activeView_removeSettled (i : Nat) :
    activeView (removeSettled i s) = activeView s := by
  unfold removeSettled
  split <;> simp

@[simp] theorem activeView_restartClose (i : Nat) :
    activeView (restartClose i s).1 = activeView s := by
  unfold restartClose
  split <;> simp

/-! ## Due frames and the selector's timers -/

@[simp] theorem activeView_makeDue (d : Due) : activeView (makeDue p d s) = activeView s :=
  activeView_setPort rfl
@[simp] theorem activeView_withdrawDue (f : Due → Bool) :
    activeView (withdrawDue p f s) = activeView s := activeView_setPort rfl
@[simp] theorem activeView_computeCandidate : activeView (computeCandidate s) = activeView s := rfl
@[simp] theorem activeView_closeDrain : activeView (closeDrain p s) = activeView s := rfl

/-! ## One supervisor -/

@[simp] theorem bringUp_resolveLost (v : Psv) : bringUp (resolveLost v) = bringUp v := by
  unfold resolveLost
  dsimp only
  split <;> rfl

@[simp] theorem bringUp_resolveReceived (sample : Nat) (v : Psv) :
    bringUp (resolveReceived sample v) = bringUp v := by
  unfold resolveReceived
  dsimp only
  split <;> rfl

@[simp] theorem bringUp_testReturn (id : BitVec 8) (sample : Nat) (v : Psv) :
    bringUp (testReturn id sample v) = bringUp v := rfl

@[simp] theorem bringUp_makeRoom (v : Psv) : bringUp (makeRoom v) = bringUp v := by
  unfold makeRoom
  split
  · rfl
  · exact bringUp_resolveLost _

@[simp] theorem bringUp_dueTaken (stamp : BitVec 32) (d : Due) (v : Psv) :
    bringUp (dueTaken stamp d v) = bringUp v := by
  cases d with
  | probe => exact bringUp_makeRoom v
  | surveyProbe k =>
    unfold dueTaken takeSurveyProbe
    dsimp only
    split <;> rfl
  | pathOpen => rfl
  | echo id value => rfl
  | fill => rfl
  | pathSwap leaving => rfl

@[simp] theorem bringUp_idleRestarted (v : Psv) : bringUp (idleRestarted v) = bringUp v := by
  unfold idleRestarted
  split <;> rfl

@[simp] theorem bringUp_tickPath (v : Psv) : bringUp (tickPath v) = bringUp v := by
  simp [bringUp, tickPath, timerRunning, timerTick]

/-! ## Paths -/

@[simp] theorem activeView_startSurvey : activeView (startSurvey p s) = activeView s := by
  rw [startSurvey, activeView_makeDue]
  exact activeView_modPath rfl

@[simp] theorem activeView_startOrDefer : activeView (startOrDefer p s) = activeView s := by
  unfold startOrDefer
  split
  · exact activeView_modPath rfl
  · exact activeView_startSurvey

@[simp] theorem activeView_countIgnored : activeView (countIgnored p s) = activeView s :=
  activeView_modPath rfl

@[simp] theorem activeView_countStray : activeView (countStray p s) = activeView s :=
  activeView_modPath rfl

@[simp] theorem activeView_answerProbe (id : BitVec 8) (value : BitVec 32) :
    activeView (answerProbe p id value s) = activeView s := by
  unfold answerProbe
  split
  · rw [activeView_makeDue]
    exact activeView_modPath rfl
  · exact activeView_countIgnored

@[simp] theorem activeView_probeArrives (id : BitVec 8) (value : BitVec 32) :
    activeView (probeArrives p id value s) = activeView s := by
  unfold probeArrives
  split
  case h_4 =>
    split
    · exact activeView_modPath (bringUp_testReturn ..)
    · exact activeView_countIgnored
  all_goals simp

@[simp] theorem activeView_pathOpenDue : activeView (pathOpenDue p s) = activeView s := by
  unfold pathOpenDue
  split <;> simp

@[simp] theorem activeView_surveyNext (run : SurveyRun) :
    activeView (surveyNext p run s) = activeView s := by
  unfold surveyNext
  split
  · rw [activeView_makeDue]
    exact activeView_modPath rfl
  · rfl

@[simp] theorem activeView_probeExpiry : activeView (probeExpiry p s) = activeView s := by
  have htimer : activeView (s.modPath p fun v =>
      { v with probeTimer := some (probeInterval v.config) }) = activeView s := activeView_modPath rfl
  unfold probeExpiry
  dsimp only
  split <;> simp [htimer]

@[simp] theorem activeView_idleExpiry : activeView (idleExpiry p s) = activeView s := by
  have htimer : activeView (s.modPath p fun v => { v with idleTimer := some 50 }) = activeView s :=
    activeView_modPath rfl
  unfold idleExpiry
  dsimp only
  split <;> simp [htimer]

@[simp] theorem activeView_gapEnd : activeView (gapEnd p s) = activeView s := by
  have hgap : activeView (s.modPath p fun v => { v with gap := none }) = activeView s :=
    activeView_modPath rfl
  unfold gapEnd
  dsimp only
  split
  · split
    · rw [activeView_startSurvey, hgap]
    · exact (activeView_modPath rfl).trans hgap
  · exact hgap

/-! ## The transmitters -/

@[simp] theorem activeView_shoreSend (body : List Byte) :
    activeView (shoreSend p body s) = activeView s := by
  rw [shoreSend_eq, activeView_setPath (by simp)]
  exact activeView_setPort rfl

@[simp] theorem activeView_takeSupervision (d : Due) (left : List Due) :
    activeView (takeSupervision p d left s) = activeView s := by
  rw [takeSupervision, activeView_shoreSend, activeView_countShore,
    activeView_modPath (bringUp_dueTaken ..)]
  exact activeView_modPort rfl

@[simp] theorem activeView_takeShoreReply (r : Reply) :
    activeView (takeShoreReply p r s) = activeView s := by
  rw [takeShoreReply, activeView_shoreSend, activeView_countShore]
  exact activeView_modPort rfl

@[simp] theorem activeView_takeAdmitted (i : Nat) (e : UplinkEntry) :
    activeView (takeAdmitted p i e s) = activeView s := by
  unfold takeAdmitted
  split
  · exact activeView_blockPacket i _
  · dsimp only
    split <;> simp [sendData]

@[simp] theorem activeView_takeUser : activeView (takeUser s) = activeView s := by
  unfold takeUser
  split <;> rfl

@[simp] theorem activeView_takeOwn : activeView (takeOwn s) = activeView s := by
  unfold takeOwn
  split
  · rfl
  · split
    · rfl
    · split
      · rfl
      · exact activeView_takeUser

@[simp] theorem activeView_shipTake : activeView (shipTake s) = activeView s := by
  unfold shipTake
  split
  · exact activeView_takeUser
  · exact activeView_takeOwn

/-! ## The delivery of packets -/

/-- A delivery moves its packet to the ship egress queue or returns its buffer (R14). -/
@[simp] theorem activeView_deliver (h : Held) : activeView (deliver h s) = activeView s := by
  have hqueue : (fun p => ((deliver h s).port p).txQueue) = fun p => (s.port p).txQueue := by
    obtain e | ⟨-, _, e⟩ := deliver_delivered h s <;> exact congrArg BufferView.queue e
  simp only [activeView, hqueue, deliver_psl, currentTerms, deliver_znu, State.path, deliver_psv]

@[simp] theorem activeView_deliverNext (h : Held) (left : List Held) :
    activeView (deliverNext h left s) = activeView s := by simp [deliverNext]

@[simp] theorem activeView_deliverRun : ∀ (run : List Held) (s : State),
    activeView (deliverRun run s) = activeView s
  | [], _ => rfl
  | h :: left, s => by
    unfold deliverRun
    split
    · rw [activeView_deliverRun left, activeView_deliverNext]
    · rfl

@[simp] theorem activeView_deliverAll : ∀ (out : List Held) (s : State),
    activeView (deliverAll out s) = activeView s
  | [], _ => rfl
  | h :: left, s => by rw [deliverAll, activeView_deliverAll left, activeView_deliver]

@[simp] theorem activeView_checkGapTimer : activeView (checkGapTimer s) = activeView s := by
  rw [checkGapTimer_eq]
  rfl

@[simp] theorem activeView_placeNear (h : Held) : activeView (placeNear h s) = activeView s := by
  unfold placeNear
  split
  · simp
  · split <;> rfl

@[simp] theorem activeView_placeLocked (h : Held) : activeView (placeLocked h s) = activeView s := by
  unfold placeLocked
  dsimp only
  split
  · exact activeView_placeNear h
  · split
    · simp [jump, jumpTo]
    · rfl

@[simp] theorem activeView_resequence (h : Held) : activeView (resequence h s) = activeView s := by
  unfold resequence
  split <;> simp

@[simp] theorem activeView_resyncIf (b : Bool) : activeView (resyncIf b s) = activeView s := by
  have hresync : activeView (resync s) = activeView s := by
    unfold resync
    split <;> simp
  cases b with
  | false => rfl
  | true => exact hresync

@[simp] theorem activeView_gapExpiry : activeView (gapExpiry s) = activeView s := by
  unfold gapExpiry
  dsimp only
  split <;> simp

@[simp] theorem activeView_downlinkArrival (h : Held) :
    activeView (downlinkArrival h s) = activeView s := by
  unfold downlinkArrival
  split <;> simp

/-! ## Requests and time -/

@[simp] theorem activeView_offerShip (r : Request) : activeView (offerShip r s) = activeView s := by
  unfold offerShip
  split <;> rfl

@[simp] theorem activeView_offerShore (r : Request) :
    activeView (offerShore p r s) = activeView s := by
  unfold offerShore
  split
  · exact activeView_modPort rfl
  · exact activeView_countShore _

@[simp] theorem activeView_dropRequest (port : Port) :
    activeView (dropRequest port s) = activeView s := by
  cases port with
  | ship => rfl
  | shore p => exact activeView_setPort rfl

@[simp] theorem activeView_placeReply (port : Port) (x : Reply) :
    activeView (placeReply port x s) = activeView s := by
  cases port with
  | ship => rfl
  | shore p => exact activeView_setPort rfl

@[simp] theorem activeView_recordFault (port : Port) (r : Request) (why : Reason) :
    activeView (recordFault port r why s) = activeView s := rfl

/-- A change of every supervisor that leaves the states and the bring-up timers as they stand. -/
theorem activeView_setPsv {f : Path → Psv} (h : ∀ p, bringUp (f p) = bringUp (s.path p)) :
    activeView (s.setPsv (PerPath.tabulate f)) = activeView s := by
  have hb : (fun p => bringUp ((s.setPsv (PerPath.tabulate f)).path p)) =
      fun p => bringUp (s.path p) := by
    funext p
    rw [State.path, State.setPsv_psv, perPath_get_tabulate, h]
  exact congrArg (fun b => { activeView s with bringUp := b }) hb

@[simp] theorem activeView_statusLeaves (port : Port) :
    activeView (statusLeaves port s) = activeView s := by
  cases port with
  | ship => exact activeView_setPsv fun _ => rfl
  | shore p => rfl

@[simp] theorem activeView_tickTimers : activeView (tickTimers s) = activeView s :=
  activeView_setPsv (s := s) fun p => bringUp_tickPath (s.path p)

end Sys2Proof.Machine
end

section
/-! SUPPORT. The operations that change the active path, its queue or the state of a path keep the law of the active
path: the uplink (R8, R11), the selector's swaps and what brings them about (R134 to R140), the zone change (R104), and
the events of the supervisors (R110 to R117). -/

namespace Sys2Proof.Machine

variable {s t : State} {p : Path}

/-! ## The uplink -/

/-- A packet joins the queue of the active path alone (R8, R10). -/
theorem uplinkQueue_activeLaw (e : UplinkEntry) (h : ActiveLaw s) : ActiveLaw (uplinkQueue e s) := by
  unfold uplinkQueue
  split
  · exact h.of_view rfl
  · split
    · exact h
    · next ha =>
      split
      · exact (h.setPort ha).of_view rfl
      · exact h.of_view rfl

theorem uplinkArrival_activeLaw (e : UplinkEntry) (h : ActiveLaw s) :
    ActiveLaw (uplinkArrival e s) := by
  have hattach : ∀ i, ActiveLaw (attachLearning i s) := fun i => by
    unfold attachLearning
    split
    · exact h.of_view (activeView_attach i)
    · exact h
  unfold uplinkArrival
  split
  · exact h.of_view rfl
  · next i _ =>
    unfold uplinkAdmit
    split
    · exact (hattach i).of_view (activeView_blockPacket i _)
    · exact uplinkQueue_activeLaw e ((hattach i).of_view rfl)

/-- The path that a packet is taken from is the active one, so its queue may shorten (R11). -/
theorem takeUplink_activeLaw (e : UplinkEntry) (left : List UplinkEntry) (h : ActiveLaw s)
    (hq : (s.port p).txQueue = e :: left) : ActiveLaw (takeUplink p e left s) := by
  have hout : ActiveLaw ((s.modPort p fun x => { x with txQueue := left }).returnBuffers 1) :=
    (h.setPort (h.active_of_queue (by simp [hq]))).of_view rfl
  unfold takeUplink
  dsimp only
  split
  · exact hout.of_view (activeView_countShore _)
  · exact hout.of_view (by simp)

theorem shoreTake_activeLaw (h : ActiveLaw s) : ActiveLaw (shoreTake p s) := by
  unfold shoreTake
  split
  · exact h.of_view (activeView_takeSupervision _ _)
  · split
    · exact h.of_view (activeView_takeShoreReply _)
    · split
      · next hq => exact takeUplink_activeLaw _ _ h hq
      · exact h

/-! ## The candidate -/

theorem cheaper_eligible {best : Option Path} (h : ∀ b, best = some b → eligible s b = true) {b : Path}
    (hb : cheaper s best p = some b) : eligible s b = true := by
  unfold cheaper at hb
  split at hb
  · next hp =>
    split at hb
    · cases hb; exact hp
    · split at hb
      · cases hb; exact hp
      · exact h b hb
  · exact h b hb

theorem cheapest_eligible : ∀ b, cheapest s = some b → eligible s b = true :=
  List.foldlRecOn Path.all (cheaper s) (motive := fun o => ∀ b, o = some b → eligible s b = true)
    (fun _ hb => by cases hb) fun _ hbest _ _ _ hb => cheaper_eligible hbest hb

/-- The candidate is an eligible path (R132). -/
theorem candidateNow_eligible {b : Path} (h : candidateNow s = some b) : eligible s b = true := by
  unfold candidateNow at h
  split at h
  · split at h
    · next hp => cases h; exact hp
    · exact cheapest_eligible b h
  · exact cheapest_eligible b h

/-! ## Swaps and NO_BACKHAUL -/

theorem swapTo_active (b : Path) (cause : SwapCause) : (swapTo b cause s).psl.active = some b := by
  cases ha : s.psl.active with
  | none => exact congrArg BufferView.active (bufferView_swapTo_of_none ha)
  | some a => exact congrArg BufferView.active (bufferView_swapTo_of_some ha)

theorem eligible_of_units (hp : t.psv = s.psv) (hz : t.znu = s.znu) (q : Path) :
    eligible t q = eligible s q := by
  simp only [Machine.eligible, isUp, permitted, currentTerms, State.path, hp, hz]

theorem BringUpLaw.of_psv (h : BringUpLaw s) (hp : t.psv = s.psv) : BringUpLaw t := by
  unfold BringUpLaw State.path
  rw [hp]
  exact h

/-- Every queue is empty once the active path's is (R129). -/
theorem QueueLaw.cleared {a : Path} (h : QueueLaw s) (ha : s.psl.active = some a) (q : Path) :
    Function.update (bufferView s).queue a [] q = [] := by
  by_cases hqa : q = a
  · simp [hqa]
  · rw [Function.update_of_ne hqa]
    exact h q (by simpa [ha] using Ne.symm hqa)

/-- The queue of the path left is the only one that holds packets, and it is emptied into the new path's (R16). -/
theorem QueueLaw.swapTo {b : Path} {cause : SwapCause} (h : QueueLaw s) :
    QueueLaw (swapTo b cause s) := fun q hq => by
  rw [swapTo_active] at hq
  have hqb : q ≠ b := by rintro rfl; exact hq rfl
  cases ha : s.psl.active with
  | none =>
    have hqueue := congrArg (fun v => v.queue q) (bufferView_swapTo_of_none (b := b) (cause := cause) ha)
    exact hqueue.trans (h q (by simp [ha]))
  | some a =>
    have hqueue := congrArg (fun v => v.queue q) (bufferView_swapTo_of_some (b := b) (cause := cause) ha)
    rw [bufferView_splice] at hqueue
    exact hqueue.trans ((Function.update_of_ne hqb _ _).trans (h.cleared ha q))

/-- A swap to an eligible path restores the law, whatever the path left has become (R134). -/
theorem swapTo_activeLaw {b : Path} {cause : SwapCause} (hq : QueueLaw s) (hb : BringUpLaw s)
    (he : eligible s b = true) : ActiveLaw (swapTo b cause s) := by
  refine activeLaw_iff.2 ⟨fun q hqa => ?_, hq.swapTo, hb.of_psv (by simp)⟩
  rw [swapTo_active] at hqa
  cases hqa
  exact (eligible_of_units (by simp) (by simp) b).trans he

theorem enterNoBackhaul_activeLaw {a : Path} (hq : QueueLaw s) (hb : BringUpLaw s)
    (ha : s.psl.active = some a) : ActiveLaw (enterNoBackhaul a s) := by
  have hview := bufferView_enterNoBackhaul (s := s) a
  rw [bufferView_flushQueue] at hview
  exact activeLaw_of_inactive (congrArg BufferView.active hview)
    (fun q => (congrArg (fun v => v.queue q) hview).trans (hq.cleared ha q)) (hb.of_psv (by simp))

/-- The active path is left for an eligible path, or for none (R137, R138). -/
theorem leaveActive_activeLaw {a : Path} (hq : QueueLaw s) (hb : BringUpLaw s)
    (ha : s.psl.active = some a) : ActiveLaw (leaveActive a s) := by
  have hview := activeView_computeCandidate (s := s)
  unfold leaveActive
  dsimp only
  split
  · next hc => exact swapTo_activeLaw (hq.of_view hview) (hb.of_view hview) (candidateNow_eligible hc)
  · exact enterNoBackhaul_activeLaw (hq.of_view hview) (hb.of_view hview) ha

theorem activate_activeLaw (h : ActiveLaw s) : ActiveLaw (activate s) := by
  have hc : ActiveLaw (computeCandidate s) := h.of_view rfl
  unfold activate
  split
  · dsimp only
    split
    · next hcand => exact swapTo_activeLaw hc.queues hc.bringUps (candidateNow_eligible hcand)
    · exact hc
  · exact h

theorem pathEntersUp_activeLaw (h : ActiveLaw s) : ActiveLaw (pathEntersUp p s) := by
  have hn : ActiveLaw (raiseNotice .pathState s) := h.of_view rfl
  unfold pathEntersUp
  dsimp only
  split
  · exact activate_activeLaw hn
  · exact hn

/-- A path that has left UP is left by the selector too, if it was the active one (R138). -/
theorem pathLeavesUp_activeLaw (h : ActiveLawBut p s) : ActiveLaw (pathLeavesUp p s) := by
  have hd : ActiveLawBut p (closeDrain p (withdrawDue p isPathSwap (raiseNotice .pathState s))) :=
    h.of_view (by simp)
  unfold pathLeavesUp
  dsimp only
  split
  · next ha =>
    obtain ⟨-, hqueue, hbring⟩ := hd
    exact leaveActive_activeLaw hqueue hbring ha
  · next ha => exact hd.activeLaw fun hp => absurd hp ha

/-- The selector answers a zone change by leaving a path that the new zone does not permit (R104). -/
theorem selectorZoneChange_activeLaw (hup : ∀ p, s.psl.active = some p → (s.path p).state = .up)
    (hq : QueueLaw s) (hb : BringUpLaw s) : ActiveLaw (selectorZoneChange s) := by
  unfold selectorZoneChange
  split
  · next a ha =>
    split
    · next hp =>
      refine activeLaw_iff.2 ⟨fun q hqa => ?_, hq, hb⟩
      cases ha.symm.trans hqa
      exact eligible_iff.2 ⟨hup a ha, hp⟩
    · exact leaveActive_activeLaw hq hb ha
  · next ha => exact activate_activeLaw (activeLaw_of_inactive ha (fun q => hq q (by simp [ha])) hb)

theorem advanceConfirm_activeLaw {b : Path} (h : ActiveLaw s) (hb : eligible s b = true) :
    ActiveLaw (advanceConfirm b s) := by
  have hc : ActiveLaw (s.setPsl { s.psl with
      confirmCount := confirmNext s.psl b, confirmFor := some b }) := h.of_view rfl
  unfold advanceConfirm
  dsimp only
  split
  · exact swapTo_activeLaw hc.queues hc.bringUps hb
  · exact hc

theorem evaluateCases_activeLaw (h : ActiveLaw s)
    (hc : ∀ b, s.psl.candidate = some b → eligible s b = true) : ActiveLaw (evaluateCases s) := by
  have hclear : ActiveLaw (clearConfirm s) := h.of_view rfl
  unfold evaluateCases
  split
  · next hb =>
    split
    · exact hclear
    · split
      · split
        · exact swapTo_activeLaw h.queues h.bringUps (hc _ hb)
        · exact hclear
      · split
        · exact advanceConfirm_activeLaw h (hc _ hb)
        · exact hclear
  · exact hclear

/-- An evaluation swaps to the candidate it has just computed (R140). -/
theorem evaluate_activeLaw (h : ActiveLaw s) : ActiveLaw (evaluate s) := by
  have hcases : ActiveLaw (evaluateCases (computeCandidate s)) :=
    evaluateCases_activeLaw (h.of_view rfl) fun _ hb => candidateNow_eligible hb
  exact hcases.of_view rfl

/-! ## Zone changes -/

/-- Whatever zone is taken on, and whatever it permits, the selector's part follows (R104). -/
theorem zoneChange_activeLaw {z : Zone} {cause : ChangeCause} {u : Znu} (h : ActiveLaw s) :
    ActiveLaw (zoneChange z cause (s.setZnu u)) := by
  have hview : activeView (retarget (bulkReview ((s.setZnu u).setZnu (zoneRecord u z cause)))) =
      activeView (s.setZnu (zoneRecord u z cause)) := by
    rw [activeView_retarget, activeView_bulkReview]
    rfl
  have hqueue : QueueLaw (s.setZnu (zoneRecord u z cause)) := h.queues
  have hbring : BringUpLaw (s.setZnu (zoneRecord u z cause)) := h.bringUps
  have hselect : ActiveLaw (selectorZoneChange
      (retarget (bulkReview ((s.setZnu u).setZnu (zoneRecord u z cause))))) := by
    refine selectorZoneChange_activeLaw (fun q hq => ?_) (hqueue.of_view hview) (hbring.of_view hview)
    have hactive : s.psl.active = some q := (active_of_view hview).symm.trans hq
    have hstate := congrArg (fun x : ActiveView => (x.bringUp q).1) hview
    exact hstate.trans (eligible_iff.1 (h.eligible hactive)).1
  exact hselect.of_view rfl

theorem positionExpiry_activeLaw (h : ActiveLaw s) : ActiveLaw (positionExpiry s) := by
  have hend : ∀ u : State, ActiveLaw u → ActiveLaw (raiseNotice .positionStale
      (u.setZnu { clearCandidate u.znu with fallbacks := u.znu.fallbacks + 1 })) :=
    fun u hu => hu.of_view rfl
  unfold positionExpiry
  dsimp only
  split
  · exact hend _ (h.of_view rfl)
  · exact hend _ (zoneChange_activeLaw h)

theorem positionReport_activeLaw {lat lon : Int} (h : ActiveLaw s) :
    ActiveLaw (positionReport lat lon s).1 := by
  unfold positionReport
  dsimp only
  split
  · obtain ⟨hcurrent, hzones, hdefault⟩ := reportTaken_terms s.znu lat lon
    refine h.of_view (activeView_setZnu ?_)
    rw [hcurrent, zoneTerms_of_tables hzones hdefault, currentTerms]
  · exact zoneChange_activeLaw h

/-! ## Bring-up and carrier -/

/-- A running settle timer finds its path SETTLING (R114). -/
theorem settleExpiry_activeLaw (h : ActiveLaw s) (hr : timerRunning (s.path p).settleTimer = true) :
    ActiveLaw (settleExpiry p s) := by
  have hstate : (s.path p).state = .settling := (h.bringUps p).1 (Option.isSome_iff_ne_none.1 hr)
  refine ActiveLaw.of_view (h.modPath (hstate.trans_ne nofun) ?_) activeView_pathOpenDue
  exact ⟨fun hn => absurd rfl hn, fun _ => rfl⟩

/-- A running open timer finds its path OPENING (R114). -/
theorem openExpiry_activeLaw (h : ActiveLaw s) (hr : timerRunning (s.path p).openTimer = true) :
    ActiveLaw (openExpiry p s) := by
  have hstate : (s.path p).state = .opening := (h.bringUps p).2 (Option.isSome_iff_ne_none.1 hr)
  have hsettle := (h.bringUps p).settle_none (hstate.trans_ne nofun)
  unfold openExpiry
  split
  · refine ActiveLaw.of_view (h.modPath (hstate.trans_ne nofun) ?_) activeView_pathOpenDue
    exact ⟨fun hn => absurd hsettle hn, fun _ => hstate⟩
  · exact h.modPath (hstate.trans_ne nofun) (timersLaw_startSettle rfl)

theorem acceptArrives_activeLaw (h : ActiveLaw s) : ActiveLaw (acceptArrives p s) := by
  unfold acceptArrives
  split
  · next hstate =>
    refine ActiveLaw.of_view (h.modPath (hstate.trans_ne nofun) ?_) activeView_startOrDefer
    exact timersLaw_of_stopped ((h.bringUps p).settle_none (hstate.trans_ne nofun)) rfl
  · exact h.of_view activeView_countIgnored

theorem carrierArrives_activeLaw (h : ActiveLaw s) : ActiveLaw (carrierArrives p s) := by
  have hport : ActiveLaw (s.modPort p fun x => { x with carrier := true }) :=
    h.of_view (activeView_modPort rfl)
  unfold carrierArrives
  dsimp only
  split
  · next hstate =>
    exact hport.modPath_of_idle (show (s.path p).state ∈ _ by rw [hstate]; decide) fun _ ho =>
      timersLaw_startSettle ho
  · exact hport

theorem enablePath_activeLaw (h : ActiveLaw s) : ActiveLaw (enablePath p s) := by
  unfold enablePath
  split
  case h_1 hstate => exact h.modPath_of_idle (by simp [hstate]) (timersLaw_enterService _)
  case h_2 hstate =>
    exact h.modPath_of_idle (by simp [hstate]) fun hs ho => timersLaw_enterService _ hs ho
  all_goals exact h

/-! ## Leaving service -/

theorem cleanUp_timers (g : Bool) (p : Path) (s : State) :
    ((cleanUp g p s).path p).settleTimer = none ∧ ((cleanUp g p s).path p).openTimer = none := by
  simp [cleanUp, withdrawDue, State.modPath]

/-- The clean-up stops both bring-up timers, so the path may take any state; were it active, the selector has yet to
leave it (R109). -/
theorem ActiveLaw.cleanUp_modPath {f : Psv → Psv} (h : ActiveLaw s) (g : Bool) (p : Path)
    (hs : ∀ v, (f v).settleTimer = v.settleTimer) (ho : ∀ v, (f v).openTimer = v.openTimer) :
    ActiveLawBut p ((cleanUp g p s).modPath p f) := by
  have hclean : ActiveLawBut p (cleanUp g p s) :=
    ((h.but p).modPath (timersLaw_of_stopped rfl rfl)).of_view (activeView_withdrawDue _)
  obtain ⟨hsettle, hopen⟩ := cleanUp_timers g p s
  exact hclean.modPath (timersLaw_of_stopped ((hs _).trans hsettle) ((ho _).trans hopen))

/-- A path that goes out of service, by carrier loss or by request, leaves UP if it was UP (R111, R112, R138). -/
theorem leaveService_activeLaw (h : ActiveLaw s) (ht : ActiveLawBut p t)
    (ha : t.psl.active = s.psl.active) :
    ActiveLaw (if (s.path p).state = .up then pathLeavesUp p t else t) := by
  split
  · exact pathLeavesUp_activeLaw ht
  · next hp => exact ht.activeLaw fun hp' => absurd (ha.symm.trans hp') (h.not_active hp)

theorem carrierLost_activeLaw (h : ActiveLaw s) : ActiveLaw (carrierLost p s) := by
  have hport : ActiveLaw (s.modPort p portLosesCarrier) := h.of_view (activeView_modPort rfl)
  unfold carrierLost
  dsimp only
  split
  · have hdown : ActiveLawBut p ((cleanUp true p (s.modPort p portLosesCarrier)).modPath p
        pathLosesCarrier) := hport.cleanUp_modPath true p (fun _ => rfl) fun _ => rfl
    exact leaveService_activeLaw h (hdown.of_view rfl) rfl
  · exact hport

theorem disablePath_activeLaw (h : ActiveLaw s) : ActiveLaw (disablePath p s) := by
  unfold disablePath
  split
  · exact h
  · have hdown : ActiveLawBut p ((cleanUp true p s).modPath p fun v => { v with state := .disabled }) :=
      h.cleanUp_modPath true p (fun _ => rfl) fun _ => rfl
    exact leaveService_activeLaw h (hdown.of_view rfl) rfl

/-! ## The end of a survey -/

/-- A bring-up survey takes its path to UP or back to SETTLING (R116). -/
theorem completeSurvey_activeLaw {es : List SurveyEntry} (h : ActiveLaw s) :
    ActiveLaw (completeSurvey p es s) := by
  have hdone : ActiveLaw (s.modPath p fun v =>
      { v with surveyRecord := surveyResult v.config es, survey := .idle, surveys := v.surveys + 1,
               gap := gapStart v.config }) := h.of_view (activeView_modPath rfl)
  unfold completeSurvey
  dsimp only
  split
  case h_1 hstate =>
    split
    · exact pathEntersUp_activeLaw (hdone.modPath_of_idle (by rw [hstate]; decide) fun hs ho =>
        timersLaw_of_stopped hs ho)
    · exact hdone.modPath_of_idle (by rw [hstate]; decide) fun _ ho => timersLaw_startSettle ho
  case h_2 => exact hdone.of_view rfl
  all_goals exact hdone

theorem updateSurvey_activeLaw {run : SurveyRun} {es : List SurveyEntry} (h : ActiveLaw s) :
    ActiveLaw (updateSurvey p run es s) := by
  unfold updateSurvey
  split
  · exact completeSurvey_activeLaw h
  · exact h.of_view (activeView_modPath rfl)

theorem echoTaken_activeLaw {id : BitVec 8} (h : ActiveLaw s) : ActiveLaw (echoTaken p id s) := by
  have hstray : ActiveLaw (countStray p s) := h.of_view activeView_countStray
  unfold echoTaken
  split
  · exact h.of_view (activeView_modPath (bringUp_resolveReceived _ _))
  · split
    · split
      · exact updateSurvey_activeLaw (h.of_view (activeView_modPath rfl))
      · exact hstray
    · exact hstray
    · exact hstray

theorem echoArrives_activeLaw {id : BitVec 8} (h : ActiveLaw s) : ActiveLaw (echoArrives p id s) := by
  unfold echoArrives
  split
  · exact h.of_view activeView_countStray
  · exact echoTaken_activeLaw h

theorem deadlineExpiry_activeLaw {id : BitVec 8} (h : ActiveLaw s) :
    ActiveLaw (deadlineExpiry p id s) := by
  unfold deadlineExpiry
  split
  · exact h.of_view (activeView_modPath (bringUp_resolveLost _))
  · split
    · split
      · exact updateSurvey_activeLaw h
      · exact h
    · exact h
    · exact h

/-! ## The restart -/

/-- A path put into service again after its clean-up (R126). -/
theorem BringUpLaw.restarted {f : Psv → Psv} (h : BringUpLaw s)
    (hf : ∀ v, v.settleTimer = none → v.openTimer = none → TimersLaw (f v)) :
    BringUpLaw ((cleanUp false p s).modPath p f) := by
  have hclean : BringUpLaw (cleanUp false p s) :=
    BringUpLaw.of_view (h.modPath (timersLaw_of_stopped rfl rfl)) (activeView_withdrawDue _)
  obtain ⟨hsettle, hopen⟩ := cleanUp_timers false p s
  exact hclean.modPath (hf _ hsettle hopen)

theorem pathRestart_bringUpLaw (h : BringUpLaw s) : BringUpLaw (pathRestart p s) := by
  unfold pathRestart
  split
  case h_1 => exact h.of_view (activeView_modPath rfl)
  case h_2 => exact h.restarted fun _ hs ho => timersLaw_of_stopped hs ho
  all_goals exact h.restarted fun _ hs ho => timersLaw_enterService _ hs ho

/-- After its stages a restart has no path active and no packet queued (R17, R143). -/
theorem restartStages_activeLaw (h : ActiveLaw s) : ActiveLaw (restartStages s) := by
  have hpaths : BringUpLaw (Path.all.foldl (fun s p => pathRestart p s)
      (restartPackets (restartNotices s))) :=
    List.foldlRecOn _ _ h.bringUps fun _ hu _ _ => pathRestart_bringUpLaw hu
  have hview := bufferView_restartStages (s := s)
  exact activeLaw_of_inactive (congrArg BufferView.active hview)
    (fun q => congrArg (fun v => v.queue q) hview) (hpaths.of_psv (by simp [restartStages, selectorRestart]))

/-- Power-on reset leaves every path DISABLED with its timers stopped, and none active (R182). -/
theorem powerOnFrom_activeLaw (s : State) : ActiveLaw (powerOnFrom s) :=
  activeLaw_of_inactive rfl (fun p => by cases p <;> rfl)
    fun p => by cases p <;> exact timersLaw_of_stopped rfl rfl

end Sys2Proof.Machine
end

section
/-! SUPPORT. Arriving frames, requests, events and so every step keep the law of the active path (R129). -/

namespace Sys2Proof.Machine

variable {s : State} {p : Path}

/-! ## Frames that arrive -/

theorem userArrives_activeLaw (b : List Byte) (h : ActiveLaw s) : ActiveLaw (userArrives b s) := by
  unfold userArrives
  split
  · exact h.of_view rfl
  · split
    · exact h.of_view rfl
    · split
      · exact h.of_view rfl
      · exact uplinkArrival_activeLaw _ (h.of_view rfl)

@[simp] theorem activeView_heartbeatArrives (src : Mac) (b : List Byte) :
    activeView (heartbeatArrives src b s) = activeView s := by
  unfold heartbeatArrives
  dsimp only
  split <;> simp

theorem shipSort_activeLaw (f : EthFrame) (kind : Byte) (h : ActiveLaw s) :
    ActiveLaw (shipSort f kind s) := by
  unfold shipSort
  split
  · exact h.of_view rfl
  · split
    · exact h.of_view rfl
    · split
      · exact userArrives_activeLaw _ h
      · exact h.of_view (activeView_heartbeatArrives _ _)
      · exact h.of_view (activeView_offerShip _)

theorem shipArrival_activeLaw (f : EthFrame) (h : ActiveLaw s) : ActiveLaw (shipArrival f s) := by
  unfold shipArrival
  split
  · exact h.of_view rfl
  · split
    · exact h.of_view rfl
    · split
      · exact h.of_view rfl
      · exact shipSort_activeLaw f _ h

@[simp] theorem activeView_learnShore (src : Mac) : activeView (learnShore p src s) = activeView s :=
  activeView_modPort rfl

@[simp] theorem activeView_dataArrives (src : Mac) (b : List Byte) :
    activeView (dataArrives p src b s) = activeView s := by
  unfold dataArrives
  split
  · exact activeView_countShore _
  · split <;> simp

@[simp] theorem activeView_shoreRequestArrives (src : Mac) (b : List Byte) :
    activeView (shoreRequestArrives p src b s) = activeView s := by
  unfold shoreRequestArrives
  split <;> simp

theorem shoreSort_activeLaw (f : EthFrame) (kind : Byte) (h : ActiveLaw s) :
    ActiveLaw (shoreSort p f kind s) := by
  have hcount : ∀ c, ActiveLaw (s.countShore p c) := fun c => h.of_view (activeView_countShore c)
  have hcounted : ActiveLaw (supervisionCounted p f.src s) :=
    h.of_view (by simp [supervisionCounted])
  unfold shoreSort
  split
  · exact hcount _
  · split
    · exact hcount _
    · split
      · exact h.of_view (activeView_dataArrives _ _)
      · exact hcounted.of_view (activeView_probeArrives _ _)
      · exact echoArrives_activeLaw hcounted
      · exact acceptArrives_activeLaw hcounted
      · exact h.of_view (activeView_shoreRequestArrives _ _)

theorem shoreArrival_activeLaw (f : EthFrame) (h : ActiveLaw s) : ActiveLaw (shoreArrival p f s) := by
  have hcount : ∀ c, ActiveLaw (s.countShore p c) := fun c => h.of_view (activeView_countShore c)
  unfold shoreArrival
  split
  · exact hcount _
  · split
    · exact hcount _
    · split
      · exact hcount _
      · exact shoreSort_activeLaw f _ h

/-! ## The bodies of the requests on visitors, tables and records -/

theorem activeLaw_requestStable : RequestStable ActiveLaw where
  drop port _ h := h.of_view (activeView_dropRequest port)
  reply port x _ h := h.of_view (activeView_placeReply port x)
  fault port r why _ h := h.of_view (activeView_recordFault port r why)

theorem unknownBody_active : BodyLeaves ActiveLaw unknownBody := fun _ _ _ => trivial

theorem visitorAddBody_active : BodyLeaves ActiveLaw visitorAddBody := fun _ _ h =>
  leaves_need fun _ => leaves_need fun _ => leaves_need fun _ => leaves_need fun _ =>
  leaves_ite trivial <| leaves_named fun _ => leaves_named fun _ => leaves_named fun _ =>
  leaves_ite trivial <| leaves_ite trivial <| h.of_view rfl

theorem visitorRemoveBody_active : BodyLeaves ActiveLaw visitorRemoveBody := fun _ _ h =>
  leaves_needEntry fun i => by
    split
    · trivial
    · trivial
    · exact h.of_view (activeView_becomeFree i)
    · exact h.of_view ((activeView_removeSettled i).trans (activeView_removeClosing i))

theorem visitorReadBody_active : BodyLeaves ActiveLaw visitorReadBody := fun _ _ h => by
  unfold visitorReadBody
  split
  · trivial
  · trivial
  · exact leaves_named fun _ => h
  · exact leaves_ite trivial (leaves_named fun _ => h)

theorem visitorCreditBody_active : BodyLeaves ActiveLaw visitorCreditBody := fun _ _ h =>
  leaves_need fun _ => leaves_need fun _ => leaves_named fun _ => leaves_onVisitor fun _ =>
  h.of_view rfl

theorem visitorAllowBody_active : BodyLeaves ActiveLaw visitorAllowBody := fun _ _ h =>
  leaves_need fun _ => leaves_need fun _ => leaves_named fun _ => leaves_onVisitor fun _ =>
  h.of_view rfl

theorem visitorSettleBody_active : BodyLeaves ActiveLaw visitorSettleBody := fun _ _ h =>
  leaves_needEntry fun _ => leaves_onVisitor fun _ => h.of_view rfl

theorem tariffLoadBody_active : BodyLeaves ActiveLaw tariffLoadBody := fun _ _ h =>
  leaves_need fun _ => leaves_need fun _ => leaves_need fun _ => leaves_need fun _ =>
  leaves_named fun _ => leaves_named fun _ => leaves_bankChecked (h.of_view rfl)

theorem tariffSwitchBody_active : BodyLeaves ActiveLaw tariffSwitchBody := fun _ _ h =>
  leaves_bankChecked (h.of_view activeView_bulkReview)

theorem planLoadBody_active : BodyLeaves ActiveLaw planLoadBody := fun _ _ h =>
  leaves_need fun _ => leaves_named fun _ => h.of_view activeView_bulkReview

theorem partnerLoadBody_active : BodyLeaves ActiveLaw partnerLoadBody := fun _ _ h =>
  leaves_need fun _ => leaves_ite trivial <| leaves_named fun n =>
  h.of_view (activeView_partnerReview n)

theorem recordDrainBody_active : BodyLeaves ActiveLaw recordDrainBody := fun _ _ h =>
  leaves_need fun _ => h.of_view rfl

theorem recordReleaseBody_active : BodyLeaves ActiveLaw recordReleaseBody := fun _ _ h =>
  leaves_need fun _ => leaves_ite trivial <|
  h.of_view ((activeView_cursorForward _ _).trans (activeView_releaseRecords _ _))

theorem voyageStartBody_active : BodyLeaves ActiveLaw voyageStartBody := fun _ _ h => h.of_view rfl

theorem recordIntervalBody_active : BodyLeaves ActiveLaw recordIntervalBody := fun _ _ h =>
  leaves_need fun _ => h.of_view rfl

theorem recordFlushBody_active : BodyLeaves ActiveLaw recordFlushBody := fun _ _ h =>
  h.of_view activeView_bulkClose

/-! ## The bodies of the requests on zones -/

theorem zoneLoadBody_active : BodyLeaves ActiveLaw zoneLoadBody := fun _ _ h =>
  leaves_need fun _ => leaves_ite trivial <| leaves_named fun _ => leaves_ite trivial <| by
    rw [zoneLoadWrite, leaves_done]
    split
    · exact zoneChange_activeLaw h
    · next hk =>
      exact h.of_view (activeView_setZnu (congrArg Terms.pathMask (zoneTerms_zoneLoaded (by simpa using hk))))

/-- Where no terms item is present the PATH_MASK of the DEFAULT record stands (R97). -/
theorem termsWritten_pathMask {r : Request} {old : Terms} (h : termsPresent r = false) :
    (termsWritten r old).pathMask = old.pathMask := by
  simp only [termsPresent, Bool.or_eq_false_iff] at h
  obtain ⟨⟨-, hpermit⟩, -⟩ := h
  refine perPath_ext fun p => ?_
  have hp : argK "PERMIT_SP" p.num r = none := by
    have hall := List.any_eq_false.1 hpermit p (by cases p <;> simp [Path.all])
    simpa using hall
  simp [termsWritten, hp, clampedBool]

theorem pathMask_defaultsWritten {r : Request} {u : Znu}
    (h : (termsPresent r && decide (u.current = some .default)) = false) :
    (zoneTerms (defaultsWritten r u) u.current).pathMask = (zoneTerms u u.current).pathMask := by
  obtain ⟨-, hzones, hterms⟩ := defaultsWritten_zones r u
  cases hc : u.current with
  | none => rfl
  | some z =>
    cases z with
    | default =>
      have hr : termsPresent r = false := by simpa [hc] using h
      rw [zoneTerms, hterms]
      exact termsWritten_pathMask hr
    | entry k => simp only [zoneTerms, hzones]

theorem zoneDefaultsBody_active : BodyLeaves ActiveLaw zoneDefaultsBody := fun r s h =>
  leaves_ite trivial <| leaves_ite trivial <| by
    rw [leaves_done]
    split
    · exact zoneChange_activeLaw h
    · next hk =>
      obtain ⟨hcurrent, -⟩ := defaultsWritten_zones r s.znu
      refine h.of_view (activeView_setZnu ?_)
      rw [hcurrent]
      exact pathMask_defaultsWritten (Bool.eq_false_of_not_eq_true hk)

theorem positionBody_active : BodyLeaves ActiveLaw positionBody := fun _ _ h =>
  leaves_need fun _ => leaves_need fun _ => leaves_ite (positionReport_activeLaw h) trivial

theorem forceZone_active {z : Zone} (h : ActiveLaw s) : (forceZone z s).Leaves ActiveLaw := by
  rw [forceZone, leaves_done]
  split
  · exact zoneChange_activeLaw h
  · exact h.of_view rfl

theorem zoneForceBody_active : BodyLeaves ActiveLaw zoneForceBody := fun _ _ h =>
  leaves_need fun _ => leaves_named fun _ => leaves_ite (forceZone_active h) trivial

/-! ## The bodies of the requests on paths, the selector and the resequencer -/

theorem pathConfigBody_active : BodyLeaves ActiveLaw pathConfigBody := fun r s h =>
  leaves_need fun _ => leaves_ite trivial <| leaves_named fun p => by
    have hconfig : ActiveLaw (s.setPath p { s.path p with config := configWritten r (s.path p).config }) :=
      h.of_view (activeView_setPath rfl)
    rw [leaves_done, surchargeMarks]
    split
    · exact hconfig.of_view activeView_bulkReview
    · exact hconfig

theorem pathEnableBody_active : BodyLeaves ActiveLaw pathEnableBody := fun _ _ h =>
  leaves_needPath fun _ => enablePath_activeLaw h

theorem pathDisableBody_active : BodyLeaves ActiveLaw pathDisableBody := fun _ _ h =>
  leaves_needPath fun _ => disablePath_activeLaw h

theorem pathSurveyBody_active : BodyLeaves ActiveLaw pathSurveyBody := fun _ _ h =>
  leaves_needPath fun _ =>
    leaves_ite (leaves_ite trivial (h.of_view activeView_startOrDefer)) trivial

/-- A path enters TEST from DISABLED and from DOWN (R124). -/
theorem pathTestBody_active : BodyLeaves ActiveLaw pathTestBody := fun _ s h =>
  leaves_needPath fun p => by
    have htest : (s.path p).state ∈ [.disabled, .down, .surveying, .test] →
        ActiveLaw (s.modPath p enterTest) := fun hp =>
      h.modPath_of_idle hp fun hs ho => timersLaw_of_stopped hs ho
    split
    case h_1 hstate => exact htest (by simp [hstate])
    case h_2 hstate => exact htest (by simp [hstate])
    case h_3 => exact h
    all_goals trivial

theorem selectConfigBody_active : BodyLeaves ActiveLaw selectConfigBody := fun _ _ h =>
  h.of_view (activeView_setPsl (clearConfirmIf_active ..))

theorem pathPinBody_active : BodyLeaves ActiveLaw pathPinBody := fun _ _ h =>
  leaves_need fun _ => leaves_named fun _ =>
  h.of_view (activeView_setPsl (clearConfirmIf_active ..))

theorem reseqConfigBody_active : BodyLeaves ActiveLaw reseqConfigBody := fun _ _ h =>
  h.of_view (activeView_resyncIf _)

/-! ## The bodies of the requests on cell heads, the clock, status and notices -/

theorem cellConfigBody_active : BodyLeaves ActiveLaw cellConfigBody := fun _ _ h =>
  leaves_need fun _ => leaves_named fun _ => leaves_ite trivial <| h.of_view rfl

theorem grantConfigBody_active : BodyLeaves ActiveLaw grantConfigBody := fun _ _ h => h.of_view rfl

theorem clockSetBody_active : BodyLeaves ActiveLaw clockSetBody := fun _ _ h =>
  leaves_need fun _ => h.of_view rfl

theorem statusReadBody_active (port : Port) : BodyLeaves ActiveLaw (statusReadBody port) :=
  fun _ _ h => leaves_named fun _ => h.of_view (activeView_statusLeaves port)

theorem noticeArmBody_active : BodyLeaves ActiveLaw noticeArmBody := fun _ _ h => h.of_view rfl

theorem noticeClearBody_active : BodyLeaves ActiveLaw noticeClearBody := fun _ _ h => h.of_view rfl

theorem creditListReadBody_active : BodyLeaves ActiveLaw creditListReadBody := fun _ _ h =>
  h.of_view rfl

/-! ## The events -/

@[simp] theorem activeView_sweepVisit : activeView (sweepVisit s) = activeView s := by
  unfold sweepVisit
  dsimp only
  split <;> simp

theorem restartTaken_activeLaw {port : Port} (r : Request) (s : State) (h : ActiveLaw s) :
    ActiveLaw (restartTaken port r s) := by
  unfold restartTaken
  split
  · next ha => exact activeLaw_requestStable.settle h (generalCheck_leaves ha)
  · exact (restartStages_activeLaw h).of_view rfl

theorem execSettleTimerExpiry_active (p : Path) (h : ActiveLaw s) :
    NextLeaves ActiveLaw (execSettleTimerExpiry p s) := by
  unfold execSettleTimerExpiry
  split
  · next hr => exact nextLeaves_next (settleExpiry_activeLaw h hr)
  · exact nextLeaves_next h

theorem execOpenTimerExpiry_active (p : Path) (h : ActiveLaw s) :
    NextLeaves ActiveLaw (execOpenTimerExpiry p s) := by
  unfold execOpenTimerExpiry
  split
  · next hr => exact nextLeaves_next (openExpiry_activeLaw h hr)
  · exact nextLeaves_next h

theorem execSurveyProbeDue_active (p : Path) (h : ActiveLaw s) :
    NextLeaves ActiveLaw (execSurveyProbeDue p s) := by
  unfold execSurveyProbeDue
  split
  · exact nextLeaves_ite (nextLeaves_next (h.of_view (activeView_surveyNext _))) (nextLeaves_next h)
  · exact nextLeaves_next h
  · exact nextLeaves_next h

theorem execHeartbeatTimerExpiry_active (c : Nat) (h : ActiveLaw s) :
    NextLeaves ActiveLaw (execHeartbeatTimerExpiry c s) := by
  unfold execHeartbeatTimerExpiry
  split
  · exact nextLeaves_ite (nextLeaves_next (h.of_view (activeView_heartbeatLoss _))) (nextLeaves_next h)
  · exact nextLeaves_next h

theorem execRestartEntryStep_active (h : ActiveLaw s) :
    NextLeaves ActiveLaw (execRestartEntryStep s) := by
  unfold execRestartEntryStep
  split
  · exact nextLeaves_next h
  · split
    · exact nextLeaves_next h
    · exact nextLeaves_next (h.of_view (by simp [restartEntry]))

theorem execRestartIntervalTimer_active (h : ActiveLaw s) :
    NextLeaves ActiveLaw (execRestartIntervalTimer s) := by
  unfold execRestartIntervalTimer
  split
  · exact nextLeaves_next h
  · split
    · exact nextLeaves_next (h.of_view rfl)
    · exact nextLeaves_next h

/-! ## Every command, and every step -/

theorem exec_active (c : Instr) (s : State) (h : ActiveLaw s) : NextLeaves ActiveLaw (exec c s) := by
  have hkeep : NextLeaves ActiveLaw (.next s) := nextLeaves_next h
  have same : ∀ t : State, activeView t = activeView s → NextLeaves ActiveLaw (.next t) :=
    fun _ e => nextLeaves_next (h.of_view e)
  have req : ∀ {port : Port} {name : String} {taken : List Name} {body : Request → State → Answer},
      BodyLeaves ActiveLaw body → NextLeaves ActiveLaw (request port name taken body s) :=
    fun hb => activeLaw_requestStable.request hb h
  cases c with
  | powerOnReset => exact nextLeaves_next (powerOnFrom_activeLaw s)
  | shipFrameArrival f => exact nextLeaves_next (shipArrival_activeLaw f h)
  | shoreFrameArrival p f => exact nextLeaves_next (shoreArrival_activeLaw f h)
  | shoreTransmitTake p => exact nextLeaves_ite (nextLeaves_next (shoreTake_activeLaw h)) hkeep
  | shoreTransmissionEnd p => exact same _ (activeView_modPort rfl)
  | shipTransmitTake => exact nextLeaves_ite (same _ activeView_shipTake) hkeep
  | shipTransmissionEnd => exact same _ rfl
  | shipLinkLoss => exact same _ rfl
  | shipLinkReturn => exact same _ rfl
  | carrierArrival p => exact nextLeaves_ite hkeep (nextLeaves_next (carrierArrives_activeLaw h))
  | carrierLoss p => exact nextLeaves_ite (nextLeaves_next (carrierLost_activeLaw h)) hkeep
  | settleTimerExpiry p => exact execSettleTimerExpiry_active p h
  | openTimerExpiry p => exact execOpenTimerExpiry_active p h
  | surveyProbeDue p => exact execSurveyProbeDue_active p h
  | probeTimerExpiry p => exact nextLeaves_ite (same _ activeView_probeExpiry) hkeep
  | probeDeadlineExpiry p id => exact nextLeaves_next (deadlineExpiry_activeLaw h)
  | idleTimerExpiry p => exact nextLeaves_ite (same _ activeView_idleExpiry) hkeep
  | recoveryGapEnd p => exact nextLeaves_ite (same _ activeView_gapEnd) hkeep
  | drainWindowExpiry p => exact nextLeaves_ite (same _ activeView_closeDrain) hkeep
  | holdDownExpiry => exact same _ rfl
  | periodTimerExpiry => exact nextLeaves_next (evaluate_activeLaw h)
  | gapTimerExpiry => exact nextLeaves_ite (same _ activeView_gapExpiry) hkeep
  | heartbeatTimerExpiry n => exact execHeartbeatTimerExpiry_active n h
  | grantBoundary => exact same _ rfl
  | positionTimerExpiry =>
    exact nextLeaves_ite (nextLeaves_next (positionExpiry_activeLaw h)) hkeep
  | intervalExpiry => exact nextLeaves_ite (same _ (by simp [intervalExpiry])) hkeep
  | sweepVisit => exact nextLeaves_ite (same _ activeView_sweepVisit) hkeep
  | voyageClockRise => exact same _ rfl
  | unknownRequest port =>
    exact nextLeaves_next (activeLaw_requestStable.takeNamed
      (activeLaw_requestStable.execute unknownBody_active) h)
  | visitorAdd port => exact req visitorAddBody_active
  | visitorRemove port => exact req visitorRemoveBody_active
  | visitorRead port => exact req visitorReadBody_active
  | visitorCredit port => exact req visitorCreditBody_active
  | visitorAllow port => exact req visitorAllowBody_active
  | visitorSettle port => exact req visitorSettleBody_active
  | tariffLoad port => exact req tariffLoadBody_active
  | tariffSwitch port => exact req tariffSwitchBody_active
  | planLoad port => exact req planLoadBody_active
  | partnerLoad port => exact req partnerLoadBody_active
  | recordDrain port => exact req recordDrainBody_active
  | recordRelease port => exact req recordReleaseBody_active
  | voyageStart port => exact req voyageStartBody_active
  | recordInterval port => exact req recordIntervalBody_active
  | recordFlush port => exact req recordFlushBody_active
  | zoneLoad port => exact req zoneLoadBody_active
  | zoneDefaults port => exact req zoneDefaultsBody_active
  | position port => exact req positionBody_active
  | zoneForce port => exact req zoneForceBody_active
  | pathConfig port => exact req pathConfigBody_active
  | pathEnable port => exact req pathEnableBody_active
  | pathDisable port => exact req pathDisableBody_active
  | pathSurvey port => exact req pathSurveyBody_active
  | pathTest port => exact req pathTestBody_active
  | selectConfig port => exact req selectConfigBody_active
  | pathPin port => exact req pathPinBody_active
  | reseqConfig port => exact req reseqConfigBody_active
  | cellConfig port => exact req cellConfigBody_active
  | grantConfig port => exact req grantConfigBody_active
  | clockSet port => exact req clockSetBody_active
  | statusRead port => exact req (statusReadBody_active port)
  | noticeArm port => exact req noticeArmBody_active
  | noticeClear port => exact req noticeClearBody_active
  | creditListRead port => exact req creditListReadBody_active
  | partRestart port =>
    exact nextLeaves_next (activeLaw_requestStable.takeNamed restartTaken_activeLaw h)
  | restartEntryStep => exact execRestartEntryStep_active h
  | restartIntervalTimer => exact execRestartIntervalTimer_active h

/-- Settles O5: the law is that of a view which most operations leave as it stands. A path that is not UP is not
active and may change freely; where the active path leaves UP, or the zone changes, the selector at once swaps to a
candidate, which is eligible, or has none active, and moves or empties the one queue that holds packets. The settle
and open timers find their path in its bring-up state, so each command keeps the law, and so each step. -/
theorem stepKeepsActiveLaw : Obligations.StepKeepsActiveLaw := by
  intro s t h ht
  exact step_leaves (fun _ _ hu => hu.of_view rfl) (fun _ _ hu => hu.of_view rfl)
    (fun _ hu => hu.of_view activeView_tickTimers) exec_active h ht

end Sys2Proof.Machine
end

section
/-! SUPPORT. What the law of the Coverage Unit (R162, R165) reads of a state, as a view of its own; what its
operations on one cell head and on all of them do to the levels; and the targets by the standing of the cell heads
alone (R161). -/

namespace Sys2Proof.Machine

variable {s t : State} {g h : CellHead} {cap : Nat} {c : Cell}

/-! ## The view and the law -/

/-- What the law reads of a cell head: its state and its three levels. -/
def levelsOf (h : CellHead) : CellState × Nat × Nat × Nat :=
  (h.state, h.target, h.pendingLevel, h.activeLevel)

/-- What the law of the Coverage Unit reads of a state: the CAP of the current zone and every cell head's levels. -/
def coverView (s : State) : Nat × (Cell → CellState × Nat × Nat × Nat) :=
  ((currentTerms s).cap, fun c => levelsOf (s.cell c))

theorem LevelLaw.of_levels (hl : LevelLaw cap h) (e : levelsOf g = levelsOf h) : LevelLaw cap g := by
  simp only [levelsOf, Prod.mk.injEq] at e
  obtain ⟨hstate, htarget, hpending, hactive⟩ := e
  unfold LevelLaw at hl ⊢
  rw [hstate, htarget, hpending, hactive]
  exact hl

theorem CoverageLaw.of_view (hl : CoverageLaw s) (e : coverView t = coverView s) : CoverageLaw t := fun c => by
  have hcap : (currentTerms t).cap = (currentTerms s).cap := congrArg Prod.fst e
  rw [hcap]
  exact (hl c).of_levels (congrArg (fun v => v.2 c) e)

/-- The law reads the Zone Unit and the Coverage Unit alone. -/
theorem coverView_of_units (hz : t.znu = s.znu) (hc : t.cvu = s.cvu) : coverView t = coverView s := by
  simp only [coverView, currentTerms, State.cell, hz, hc]

/-! ## One cell head -/

/-- A cell head at level 0 obeys the law under every cap. -/
theorem levelLaw_of_zero (ht : h.target = 0) (hp : h.pendingLevel = 0) (ha : h.activeLevel = 0) :
    LevelLaw cap h :=
  ⟨hp.trans ht.symm, ha.le.trans (Nat.zero_le _), ht.le.trans (Nat.zero_le _), fun _ => ht⟩

theorem boundaryCell_of_serving (hs : h.state = .serving) :
    boundaryCell h = { h with activeLevel := h.pendingLevel, grantOwed := true } := if_pos hs

theorem boundaryCell_of_not_serving (hs : h.state ≠ .serving) : boundaryCell h = h := if_neg hs

/-- A grant boundary raises the active level to the pending one, which is the target (R163). -/
theorem LevelLaw.boundaryCell (hl : LevelLaw cap h) : LevelLaw cap (boundaryCell h) := by
  by_cases hs : h.state = .serving
  · obtain ⟨hpending, -, hcap, htarget⟩ := hl
    rw [boundaryCell_of_serving hs]
    exact ⟨hpending, hpending.le, hcap, htarget⟩
  · rw [boundaryCell_of_not_serving hs]
    exact hl

theorem levelsOf_levelCheck (level : Nat) (h : CellHead) : levelsOf (levelCheck level h) = levelsOf h := by
  unfold levelCheck
  split <;> rfl

/-- A heartbeat writes no level, so state and levels stand where it leaves the state (R158). -/
theorem levelsOf_heartbeatJoin (u : Cvu) (h : CellHead)
    (hs : (heartbeatJoin (heartbeatAdvance u h)).state = h.state) :
    levelsOf (heartbeatJoin (heartbeatAdvance u h)) = levelsOf h := by
  have hjoin : ∀ x : CellHead, (levelsOf (heartbeatJoin x)).2 = (levelsOf x).2 := fun x => by
    unfold heartbeatJoin
    split <;> rfl
  have hadvance : (levelsOf (heartbeatAdvance u h)).2 = (levelsOf h).2 := by
    unfold heartbeatAdvance
    split <;> rfl
  exact Prod.ext hs ((hjoin _).trans hadvance)

/-! ## The targets -/

/-- A cell head is boosted by another one that is LOST and names it as BACKUP (R155). -/
theorem boosted_iff {u : Cvu} : boosted u c = true ↔
    ∃ d : Cell, d ≠ c ∧ u.cells[d].state = .lost ∧ u.cells[d].backup = some c := by
  simp [boosted, cellsAll, and_assoc]

theorem targetOf_of_not_serving {u : Cvu} (hs : u.cells[c].state ≠ .serving) : targetOf cap u c = 0 :=
  if_neg hs

theorem targetOf_of_serving {u : Cvu} (hs : u.cells[c].state = .serving) :
    targetOf cap u c = min cap (u.cells[c].base + if boosted u c then u.cells[c].boost else 0) := by
  unfold targetOf
  rw [if_pos hs]
  split <;> rfl

/-- What a target is worked out from: the state of a cell head and its settings (R161). -/
def standing (h : CellHead) : CellState × Nat × Nat × Option Cell := (h.state, h.base, h.boost, h.backup)

theorem standing_applyTarget (n : Nat) (h : CellHead) : standing (applyTarget n h) = standing h := by
  unfold applyTarget
  split <;> rfl

/-- Targets do not depend on the levels. -/
theorem targetOf_congr {u w : Cvu} (e : ∀ d : Cell, standing u.cells[d] = standing w.cells[d]) (c : Cell) :
    targetOf cap u c = targetOf cap w c := by
  simp only [standing, Prod.mk.injEq] at e
  have hboosted : boosted u c = boosted w c := by
    rw [Bool.eq_iff_iff, boosted_iff, boosted_iff]
    exact exists_congr fun d => by
      obtain ⟨hstate, -, -, hbackup⟩ := e d
      rw [hstate, hbackup]
  obtain ⟨hstate, hbase, hboost, -⟩ := e c
  simp only [targetOf, hboosted, hstate, hbase, hboost]

/-! ## All cell heads -/

/-- Whatever the levels were, the law holds once the targets are worked out again (R162). -/
theorem retarget_coverageLaw (s : State) : CoverageLaw (retarget s) := retarget_levelLaw s

/-- The targets that a retarget applies are those of the state it leaves. -/
theorem retarget_target (s : State) (c : Cell) : ((retarget s).cell c).target =
    targetOf (currentTerms s).cap (retarget s).cvu c := by
  have hstanding : ∀ d : Cell, standing (retarget s).cvu.cells[d] = standing s.cvu.cells[d] := fun d =>
    (congrArg standing (retarget_cell s d)).trans (standing_applyTarget _ _)
  obtain ⟨-, htarget, -⟩ := applyTarget_levels (targetOf (currentTerms s).cap s.cvu c) (s.cell c)
  rw [targetOf_congr hstanding, retarget_cell, htarget]

theorem heartbeatLoss_coverageLaw (c : Cell) (s : State) : CoverageLaw (heartbeatLoss c s) :=
  retarget_coverageLaw _

theorem grantBoundaryUnit_cell (s : State) (c : Cell) :
    (s.setCvu (grantBoundaryUnit s.cvu)).cell c = boundaryCell (s.cell c) := by
  simp [State.cell, grantBoundaryUnit]

theorem grantBoundaryUnit_coverageLaw (hl : CoverageLaw s) :
    CoverageLaw (s.setCvu (grantBoundaryUnit s.cvu)) := fun c => by
  rw [grantBoundaryUnit_cell]
  exact (hl c).boundaryCell

/-- A restart leaves every cell head ABSENT at level 0, whatever the zone (R169). -/
theorem coverageRestart_coverageLaw {u : Cvu} (hu : s.cvu = coverageRestart u) : CoverageLaw s := fun c => by
  have hcell : s.cell c = cellRestart u.cells[c] := by simp [State.cell, hu, coverageRestart]
  rw [hcell]
  exact levelLaw_of_zero rfl rfl rfl

end Sys2Proof.Machine
end

section
/-! SUPPORT. The operations that leave what the law of the Coverage Unit reads as it stands, one lemma per operation:
those on visitors, records, paths, the selector, packets and requests. -/

namespace Sys2Proof.Machine

variable {s : State} {p : Path}

/-! ## One field -/

@[simp] theorem coverView_returnBuffers (n : Nat) : coverView (s.returnBuffers n) = coverView s := rfl
@[simp] theorem coverView_takeBuffer : coverView s.takeBuffer = coverView s := rfl
@[simp] theorem coverView_setUplinkSeq (x : BitVec 16) :
    coverView (s.setUplinkSeq x) = coverView s := rfl
@[simp] theorem coverView_setRcq (x : Rcq) : coverView (s.setRcq x) = coverView s := rfl
@[simp] theorem coverView_setRse (x : Rse) : coverView (s.setRse x) = coverView s := rfl
@[simp] theorem coverView_setDrs (x : Drs) : coverView (s.setDrs x) = coverView s := rfl
@[simp] theorem coverView_setCfu (x : Cfu) : coverView (s.setCfu x) = coverView s := rfl
@[simp] theorem coverView_setNtu (x : Ntu) : coverView (s.setNtu x) = coverView s := rfl
@[simp] theorem coverView_setVisitor (i : Nat) (x : Visitor) :
    coverView (s.setVisitor i x) = coverView s := rfl
@[simp] theorem coverView_modPath (f : Psv → Psv) : coverView (s.modPath p f) = coverView s := rfl
@[simp] theorem coverView_modPort (f : ShorePort → ShorePort) :
    coverView (s.modPort p f) = coverView s := rfl
@[simp] theorem coverView_countShore (f : ShoreCounters → ShoreCounters) :
    coverView (s.countShore p f) = coverView s := rfl
@[simp] theorem coverView_raiseNotice (x : Source) : coverView (raiseNotice x s) = coverView s := rfl
@[simp] theorem coverView_cleanUp (g : Bool) : coverView (cleanUp g p s) = coverView s := rfl

/-- A change of the Zone Unit that leaves the CAP of the current zone. -/
theorem coverView_setZnu {x : Znu} (hx : (zoneTerms x x.current).cap = (currentTerms s).cap) :
    coverView (s.setZnu x) = coverView s :=
  congrArg (fun n => (n, fun c => levelsOf (s.cell c))) hx

/-- A change of a cell head outside its state and levels. -/
theorem coverView_setCell {c : Cell} {x : CellHead} (hx : levelsOf x = levelsOf (s.cell c)) :
    coverView (s.setCell c x) = coverView s := by
  refine congrArg (Prod.mk _) (funext fun d => ?_)
  rw [State.setCell_cell]
  split
  · next hd => rw [hx, hd]
  · rfl

/-! ## Visitors and records -/

@[simp] theorem coverView_bulkReview : coverView (bulkReview s) = coverView s :=
  coverView_of_units (by simp) (by simp)
@[simp] theorem coverView_bulkClose : coverView (bulkClose s) = coverView s :=
  coverView_of_units (by simp) (by simp)
@[simp] theorem coverView_partnerReview (n : Fin 128) : coverView (partnerReview n s) = coverView s :=
  coverView_of_units (by simp) (by simp)
@[simp] theorem coverView_refreshEngine : coverView (refreshEngine s) = coverView s :=
  coverView_of_units (by simp) (by simp)
@[simp] theorem coverView_attach (i : Nat) : coverView (attach i s) = coverView s :=
  coverView_of_units (by simp) (by simp)
@[simp] theorem coverView_becomeFree (i : Nat) : coverView (becomeFree i s) = coverView s :=
  coverView_of_units (by simp) (by simp)
@[simp] theorem coverView_closeRecord (i : Nat) (why : CloseReason) :
    coverView (closeRecord i why s).1 = coverView s := coverView_of_units (by simp) (by simp)
@[simp] theorem coverView_review (i : Nat) : coverView (review i s) = coverView s :=
  coverView_of_units (by simp) (by simp)
@[simp] theorem coverView_clearMarks (i : Nat) : coverView (clearMarks i s) = coverView s := rfl
@[simp] theorem coverView_owedWork (i : Nat) : coverView (owedWork i s) = coverView s :=
  coverView_of_units (by simp) (by simp)
@[simp] theorem coverView_blockPacket (i : Nat) (why : Refused) :
    coverView (blockPacket i why s) = coverView s := rfl
@[simp] theorem coverView_charge (i n : Nat) (d : Direction) :
    coverView (charge i n d s).1 = coverView s := coverView_of_units (by simp) (by simp)

@[simp] theorem coverView_releaseHead (r : Record) (left : List Record) :
    coverView (releaseHead r left s) = coverView s := by
  unfold releaseHead releaseEntry
  dsimp only
  split <;> simp

@[simp] theorem coverView_releaseRecords : ∀ (n : Nat) (s : State),
    coverView (releaseRecords n s) = coverView s
  | 0, _ => rfl
  | n + 1, s => by
    unfold releaseRecords
    split
    · rfl
    · rw [coverView_releaseRecords n, coverView_releaseHead]

@[simp] theorem coverView_cursorForward (old : Rcq) (n : Nat) :
    coverView (cursorForward old n s) = coverView s := by
  unfold cursorForward
  split <;> rfl

@[simp] theorem coverView_removeClosing (i : Nat) :
    coverView (removeClosing i s).1 = coverView s := by simp [removeClosing]

@[simp] theorem coverView_removeSettled (i : Nat) : coverView (removeSettled i s) = coverView s := by
  unfold removeSettled
  split <;> simp

@[simp] theorem coverView_restartEntry (i : Nat) (x : RestartRun) :
    coverView (restartEntry i x s) = coverView s := by
  have hclose : ∀ u : State, coverView (restartClose i u).1 = coverView u := fun u => by
    unfold restartClose
    split <;> simp
  simp [restartEntry, hclose]

@[simp] theorem coverView_sweepVisit : coverView (sweepVisit s) = coverView s := by
  unfold sweepVisit
  dsimp only
  split <;> simp

/-! ## The selector and the supervisors -/

@[simp] theorem coverView_pathEntersUp : coverView (pathEntersUp p s) = coverView s :=
  coverView_of_units (by simp) (by simp)
@[simp] theorem coverView_pathLeavesUp : coverView (pathLeavesUp p s) = coverView s :=
  coverView_of_units (by simp) (by simp)
@[simp] theorem coverView_evaluate : coverView (evaluate s) = coverView s :=
  coverView_of_units (by simp) (by simp)

@[simp] theorem coverView_startOrDefer : coverView (startOrDefer p s) = coverView s := by
  unfold startOrDefer
  split <;> rfl

@[simp] theorem coverView_acceptArrives : coverView (acceptArrives p s) = coverView s := by
  unfold acceptArrives
  split
  · exact coverView_startOrDefer
  · rfl

@[simp] theorem coverView_answerProbe (id : BitVec 8) (value : BitVec 32) :
    coverView (answerProbe p id value s) = coverView s := by
  unfold answerProbe
  split <;> rfl

@[simp] theorem coverView_probeArrives (id : BitVec 8) (value : BitVec 32) :
    coverView (probeArrives p id value s) = coverView s := by
  unfold probeArrives
  split
  case h_4 => split <;> rfl
  case h_5 => rfl
  case h_6 => rfl
  case h_7 => rfl
  all_goals exact coverView_answerProbe id value

@[simp] theorem coverView_completeSurvey (es : List SurveyEntry) :
    coverView (completeSurvey p es s) = coverView s := by
  unfold completeSurvey
  dsimp only
  split
  case h_1 => split <;> simp
  all_goals rfl

@[simp] theorem coverView_updateSurvey (run : SurveyRun) (es : List SurveyEntry) :
    coverView (updateSurvey p run es s) = coverView s := by
  unfold updateSurvey
  split
  · exact coverView_completeSurvey es
  · rfl

@[simp] theorem coverView_echoArrives (id : BitVec 8) :
    coverView (echoArrives p id s) = coverView s := by
  have htaken : coverView (echoTaken p id s) = coverView s := by
    unfold echoTaken
    split
    · rfl
    · split
      · split
        · exact coverView_updateSurvey _ _
        · rfl
      · rfl
      · rfl
  unfold echoArrives
  split
  · rfl
  · exact htaken

@[simp] theorem coverView_deadlineExpiry (id : BitVec 8) :
    coverView (deadlineExpiry p id s) = coverView s := by
  unfold deadlineExpiry
  split
  · rfl
  · split
    · split
      · exact coverView_updateSurvey _ _
      · rfl
    · rfl
    · rfl

@[simp] theorem coverView_pathOpenDue : coverView (pathOpenDue p s) = coverView s := by
  unfold pathOpenDue
  split <;> rfl

@[simp] theorem coverView_settleExpiry : coverView (settleExpiry p s) = coverView s :=
  coverView_pathOpenDue

@[simp] theorem coverView_openExpiry : coverView (openExpiry p s) = coverView s := by
  unfold openExpiry
  split
  · exact coverView_pathOpenDue
  · rfl

@[simp] theorem coverView_surveyNext (run : SurveyRun) :
    coverView (surveyNext p run s) = coverView s := by
  unfold surveyNext
  split <;> rfl

@[simp] theorem coverView_probeExpiry : coverView (probeExpiry p s) = coverView s := by
  unfold probeExpiry
  dsimp only
  split <;> rfl

@[simp] theorem coverView_idleExpiry : coverView (idleExpiry p s) = coverView s := by
  unfold idleExpiry
  dsimp only
  split <;> rfl

@[simp] theorem coverView_gapEnd : coverView (gapEnd p s) = coverView s := by
  unfold gapEnd
  dsimp only
  split
  · split <;> rfl
  · rfl

@[simp] theorem coverView_carrierArrives : coverView (carrierArrives p s) = coverView s := by
  unfold carrierArrives
  dsimp only
  split <;> rfl

@[simp] theorem coverView_carrierLost : coverView (carrierLost p s) = coverView s := by
  unfold carrierLost
  dsimp only
  split
  · split <;> simp
  · rfl

@[simp] theorem coverView_disablePath : coverView (disablePath p s) = coverView s := by
  unfold disablePath
  split
  · rfl
  · dsimp only
    split <;> simp

@[simp] theorem coverView_enablePath : coverView (enablePath p s) = coverView s := by
  unfold enablePath
  split <;> rfl

/-! ## The transmitters -/

@[simp] theorem coverView_shoreSend (body : List Byte) :
    coverView (shoreSend p body s) = coverView s := by
  rw [shoreSend_eq]
  rfl

@[simp] theorem coverView_takeAdmitted (i : Nat) (e : UplinkEntry) :
    coverView (takeAdmitted p i e s) = coverView s := by
  unfold takeAdmitted
  split
  · exact coverView_blockPacket i _
  · dsimp only
    split <;> simp [sendData]

@[simp] theorem coverView_takeUplink (e : UplinkEntry) (left : List UplinkEntry) :
    coverView (takeUplink p e left s) = coverView s := by
  unfold takeUplink
  dsimp only
  split <;> simp

@[simp] theorem coverView_shoreTake : coverView (shoreTake p s) = coverView s := by
  unfold shoreTake
  split
  · simp [takeSupervision]
  · split
    · simp [takeShoreReply]
    · split
      · exact coverView_takeUplink _ _
      · rfl

/-- A GRANT taken leaves the levels it carries (R15). -/
@[simp] theorem coverView_takeGrant (c : Cell) : coverView (takeGrant c s) = coverView s :=
  coverView_setCell (s := s) rfl

@[simp] theorem coverView_takeUser : coverView (takeUser s) = coverView s := by
  unfold takeUser
  split <;> rfl

@[simp] theorem coverView_takeOwn : coverView (takeOwn s) = coverView s := by
  unfold takeOwn
  split
  · exact coverView_takeGrant _
  · split
    · rfl
    · split
      · rfl
      · exact coverView_takeUser

@[simp] theorem coverView_shipTake : coverView (shipTake s) = coverView s := by
  unfold shipTake
  split
  · exact coverView_takeUser
  · exact coverView_takeOwn

/-! ## The delivery of packets -/

@[simp] theorem coverView_countSubstitution (b : Bool) :
    coverView (countSubstitution b s) = coverView s := by cases b <;> rfl

@[simp] theorem coverView_deliverCharged (i : Nat) (h : Held) (c : Cell) :
    coverView (deliverCharged i h c s) = coverView s := coverView_of_units (by simp) (by simp)

@[simp] theorem coverView_deliverTo (i : Nat) (h : Held) :
    coverView (deliverTo i h s) = coverView s := by
  unfold deliverTo
  split
  · rfl
  · split
    · rfl
    · simp

@[simp] theorem coverView_deliver (h : Held) : coverView (deliver h s) = coverView s := by
  unfold deliver downlinkDelivery
  split <;> simp

@[simp] theorem coverView_deliverNext (h : Held) (left : List Held) :
    coverView (deliverNext h left s) = coverView s := by simp [deliverNext]

@[simp] theorem coverView_deliverRun : ∀ (run : List Held) (s : State),
    coverView (deliverRun run s) = coverView s
  | [], _ => rfl
  | h :: left, s => by
    unfold deliverRun
    split
    · rw [coverView_deliverRun left, coverView_deliverNext]
    · rfl

@[simp] theorem coverView_deliverAll : ∀ (out : List Held) (s : State),
    coverView (deliverAll out s) = coverView s
  | [], _ => rfl
  | h :: left, s => by rw [deliverAll, coverView_deliverAll left, coverView_deliver]

@[simp] theorem coverView_checkGapTimer : coverView (checkGapTimer s) = coverView s := by
  rw [checkGapTimer_eq]
  rfl

@[simp] theorem coverView_placeNear (h : Held) : coverView (placeNear h s) = coverView s := by
  unfold placeNear
  split
  · simp
  · split <;> rfl

@[simp] theorem coverView_placeLocked (h : Held) : coverView (placeLocked h s) = coverView s := by
  unfold placeLocked
  dsimp only
  split
  · exact coverView_placeNear h
  · split
    · simp [jump, jumpTo]
    · rfl

@[simp] theorem coverView_resequence (h : Held) : coverView (resequence h s) = coverView s := by
  unfold resequence
  split <;> simp

@[simp] theorem coverView_resyncIf (b : Bool) : coverView (resyncIf b s) = coverView s := by
  have hresync : coverView (resync s) = coverView s := by
    unfold resync
    split <;> simp
  cases b with
  | false => rfl
  | true => exact hresync

@[simp] theorem coverView_gapExpiry : coverView (gapExpiry s) = coverView s := by
  unfold gapExpiry
  dsimp only
  split <;> simp

/-! ## Frames that arrive -/

@[simp] theorem coverView_uplinkQueue (e : UplinkEntry) : coverView (uplinkQueue e s) = coverView s := by
  unfold uplinkQueue
  split
  · rfl
  · split
    · rfl
    · split <;> rfl

@[simp] theorem coverView_uplinkArrival (e : UplinkEntry) :
    coverView (uplinkArrival e s) = coverView s := by
  have hattach : ∀ i, coverView (attachLearning i s) = coverView s := fun i => by
    unfold attachLearning
    split
    · exact coverView_attach i
    · rfl
  unfold uplinkArrival
  split
  · rfl
  · unfold uplinkAdmit
    split <;> simp [hattach]

@[simp] theorem coverView_userArrives (b : List Byte) : coverView (userArrives b s) = coverView s := by
  unfold userArrives
  split
  · rfl
  · split
    · rfl
    · split
      · rfl
      · exact coverView_uplinkArrival _

@[simp] theorem coverView_offerShip (r : Request) : coverView (offerShip r s) = coverView s := by
  unfold offerShip
  split <;> rfl

@[simp] theorem coverView_offerShore (r : Request) : coverView (offerShore p r s) = coverView s := by
  unfold offerShore
  split <;> rfl

@[simp] theorem coverView_dataArrives (src : Mac) (b : List Byte) :
    coverView (dataArrives p src b s) = coverView s := by
  unfold dataArrives
  split
  · rfl
  · split
    · rfl
    · unfold downlinkArrival
      split <;> simp [learnShore]

@[simp] theorem coverView_shoreRequestArrives (src : Mac) (b : List Byte) :
    coverView (shoreRequestArrives p src b s) = coverView s := by
  unfold shoreRequestArrives
  split <;> simp [learnShore]

@[simp] theorem coverView_shoreSort (f : EthFrame) (kind : Byte) :
    coverView (shoreSort p f kind s) = coverView s := by
  unfold shoreSort
  split
  · rfl
  · split
    · rfl
    · split <;> simp [supervisionCounted, learnShore]

@[simp] theorem coverView_shoreArrival (f : EthFrame) : coverView (shoreArrival p f s) = coverView s := by
  unfold shoreArrival
  split
  · rfl
  · split
    · rfl
    · split
      · rfl
      · exact coverView_shoreSort f _

/-! ## Requests and time -/

@[simp] theorem coverView_dropRequest (port : Port) : coverView (dropRequest port s) = coverView s := by
  cases port <;> rfl

@[simp] theorem coverView_placeReply (port : Port) (x : Reply) :
    coverView (placeReply port x s) = coverView s := by cases port <;> rfl

@[simp] theorem coverView_recordFault (port : Port) (r : Request) (why : Reason) :
    coverView (recordFault port r why s) = coverView s := rfl

@[simp] theorem coverView_statusLeaves (port : Port) : coverView (statusLeaves port s) = coverView s := by
  cases port <;> rfl

/-- The tick counts the heartbeat timers down and leaves the levels. -/
@[simp] theorem coverView_tickTimers : coverView (tickTimers s) = coverView s := by
  refine congrArg (Prod.mk _) (funext fun c => ?_)
  have hcell : (tickTimers s).cell c = tickCell (s.cell c) := by
    simp [tickTimers, State.cell, tickCoverage]
  rw [hcell]
  rfl

end Sys2Proof.Machine
end

section
/-! SUPPORT. The heartbeat, the zone change and the requests that write a CAP keep the law of the Coverage Unit, and
so does every other command and every step (R162, R165). -/

namespace Sys2Proof.Machine

variable {s t : State}

/-! ## Heartbeats -/

/-- A heartbeat that changes the state of its cell head is followed by new targets; any other leaves state and levels
(R158, R164). -/
theorem heartbeat_coverageLaw (c : Cell) (level : Nat) (hl : CoverageLaw s) :
    CoverageLaw (heartbeat c level s) := by
  have hcheck : ∀ u : State, CoverageLaw u → CoverageLaw (u.setCell c (levelCheck level (u.cell c))) :=
    fun u hu => hu.of_view (coverView_setCell (levelsOf_levelCheck level (u.cell c)))
  unfold heartbeat
  dsimp only
  split
  · exact hcheck _ (retarget_coverageLaw _)
  · next hsame =>
    refine hcheck _ (hl.of_view (coverView_setCell ?_))
    exact levelsOf_heartbeatJoin s.cvu
      { s.cell c with reportedLevel := level, heartbeats := (s.cell c).heartbeats + 1 }
      (Classical.not_not.1 hsame)

theorem heartbeatArrives_coverageLaw (src : Mac) (b : List Byte) (hl : CoverageLaw s) :
    CoverageLaw (heartbeatArrives src b s) := by
  unfold heartbeatArrives
  dsimp only
  split
  · exact hl.of_view rfl
  · exact heartbeat_coverageLaw _ _ (hl.of_view (coverView_setCell (s := s) rfl))

theorem shipSort_coverageLaw (f : EthFrame) (kind : Byte) (hl : CoverageLaw s) :
    CoverageLaw (shipSort f kind s) := by
  unfold shipSort
  split
  · exact hl.of_view rfl
  · split
    · exact hl.of_view rfl
    · split
      · exact hl.of_view (coverView_userArrives _)
      · exact heartbeatArrives_coverageLaw _ _ hl
      · exact hl.of_view (coverView_offerShip _)

theorem shipArrival_coverageLaw (f : EthFrame) (hl : CoverageLaw s) : CoverageLaw (shipArrival f s) := by
  unfold shipArrival
  split
  · exact hl.of_view rfl
  · split
    · exact hl.of_view rfl
    · split
      · exact hl.of_view rfl
      · exact shipSort_coverageLaw f _ hl

/-! ## Zone changes -/

/-- Every cell head is under the cap of the zone that a change makes current (R104, R162). -/
theorem zoneChange_coverageLaw (z : Zone) (cause : ChangeCause) (s : State) :
    CoverageLaw (zoneChange z cause s) := fun c => by
  have hterms : currentTerms (zoneChange z cause s) = zoneTerms s.znu (some z) := by
    rw [currentTerms, zoneChange_znu]
    exact zoneTerms_of_tables rfl rfl _
  rw [hterms]
  exact zoneChange_levelLaw z cause s c

theorem positionExpiry_coverageLaw (hl : CoverageLaw s) : CoverageLaw (positionExpiry s) := by
  have hend : ∀ u : State, CoverageLaw u → CoverageLaw (raiseNotice .positionStale
      (u.setZnu { clearCandidate u.znu with fallbacks := u.znu.fallbacks + 1 })) :=
    fun u hu => hu.of_view rfl
  unfold positionExpiry
  dsimp only
  split
  · exact hend _ (hl.of_view rfl)
  · exact hend _ (zoneChange_coverageLaw _ _ _)

theorem positionReport_coverageLaw {lat lon : Int} (hl : CoverageLaw s) :
    CoverageLaw (positionReport lat lon s).1 := by
  unfold positionReport
  dsimp only
  split
  · obtain ⟨hcurrent, hzones, hdefault⟩ := reportTaken_terms s.znu lat lon
    refine hl.of_view (coverView_setZnu ?_)
    rw [hcurrent, zoneTerms_of_tables hzones hdefault, currentTerms]
  · exact zoneChange_coverageLaw _ _ _

/-! ## The bodies of the requests on visitors, tables and records -/

theorem coverageLaw_requestStable : RequestStable CoverageLaw where
  drop port _ hl := hl.of_view (coverView_dropRequest port)
  reply port x _ hl := hl.of_view (coverView_placeReply port x)
  fault port r why _ hl := hl.of_view (coverView_recordFault port r why)

theorem unknownBody_coverage : BodyLeaves CoverageLaw unknownBody := fun _ _ _ => trivial

theorem visitorAddBody_coverage : BodyLeaves CoverageLaw visitorAddBody := fun _ _ hl =>
  leaves_need fun _ => leaves_need fun _ => leaves_need fun _ => leaves_need fun _ =>
  leaves_ite trivial <| leaves_named fun _ => leaves_named fun _ => leaves_named fun _ =>
  leaves_ite trivial <| leaves_ite trivial <| hl.of_view rfl

theorem visitorRemoveBody_coverage : BodyLeaves CoverageLaw visitorRemoveBody := fun _ _ hl =>
  leaves_needEntry fun i => by
    split
    · trivial
    · trivial
    · exact hl.of_view (coverView_becomeFree i)
    · exact hl.of_view ((coverView_removeSettled i).trans (coverView_removeClosing i))

theorem visitorReadBody_coverage : BodyLeaves CoverageLaw visitorReadBody := fun _ _ hl => by
  unfold visitorReadBody
  split
  · trivial
  · trivial
  · exact leaves_named fun _ => hl
  · exact leaves_ite trivial (leaves_named fun _ => hl)

theorem visitorCreditBody_coverage : BodyLeaves CoverageLaw visitorCreditBody := fun _ _ hl =>
  leaves_need fun _ => leaves_need fun _ => leaves_named fun _ => leaves_onVisitor fun _ =>
  hl.of_view rfl

theorem visitorAllowBody_coverage : BodyLeaves CoverageLaw visitorAllowBody := fun _ _ hl =>
  leaves_need fun _ => leaves_need fun _ => leaves_named fun _ => leaves_onVisitor fun _ =>
  hl.of_view rfl

theorem visitorSettleBody_coverage : BodyLeaves CoverageLaw visitorSettleBody := fun _ _ hl =>
  leaves_needEntry fun _ => leaves_onVisitor fun _ => hl.of_view rfl

theorem tariffLoadBody_coverage : BodyLeaves CoverageLaw tariffLoadBody := fun _ _ hl =>
  leaves_need fun _ => leaves_need fun _ => leaves_need fun _ => leaves_need fun _ =>
  leaves_named fun _ => leaves_named fun _ => leaves_bankChecked (hl.of_view rfl)

theorem tariffSwitchBody_coverage : BodyLeaves CoverageLaw tariffSwitchBody := fun _ _ hl =>
  leaves_bankChecked (hl.of_view coverView_bulkReview)

theorem planLoadBody_coverage : BodyLeaves CoverageLaw planLoadBody := fun _ _ hl =>
  leaves_need fun _ => leaves_named fun _ => hl.of_view coverView_bulkReview

theorem partnerLoadBody_coverage : BodyLeaves CoverageLaw partnerLoadBody := fun _ _ hl =>
  leaves_need fun _ => leaves_ite trivial <| leaves_named fun n =>
  hl.of_view (coverView_partnerReview n)

theorem recordDrainBody_coverage : BodyLeaves CoverageLaw recordDrainBody := fun _ _ hl =>
  leaves_need fun _ => hl.of_view rfl

theorem recordReleaseBody_coverage : BodyLeaves CoverageLaw recordReleaseBody := fun _ _ hl =>
  leaves_need fun _ => leaves_ite trivial <|
  hl.of_view ((coverView_cursorForward _ _).trans (coverView_releaseRecords _ _))

theorem voyageStartBody_coverage : BodyLeaves CoverageLaw voyageStartBody := fun _ _ hl =>
  hl.of_view rfl

theorem recordIntervalBody_coverage : BodyLeaves CoverageLaw recordIntervalBody := fun _ _ hl =>
  leaves_need fun _ => hl.of_view rfl

theorem recordFlushBody_coverage : BodyLeaves CoverageLaw recordFlushBody := fun _ _ hl =>
  hl.of_view coverView_bulkClose

/-! ## The bodies of the requests on zones -/

theorem zoneLoadBody_coverage : BodyLeaves CoverageLaw zoneLoadBody := fun _ _ hl =>
  leaves_need fun _ => leaves_ite trivial <| leaves_named fun _ => leaves_ite trivial <| by
    rw [zoneLoadWrite, leaves_done]
    split
    · exact zoneChange_coverageLaw _ _ _
    · next hk =>
      exact hl.of_view (coverView_setZnu (congrArg Terms.cap (zoneTerms_zoneLoaded (by simpa using hk))))

/-- Where no terms item is present the CAP of the DEFAULT record stands (R97). -/
theorem termsWritten_cap {r : Request} {old : Terms} (h : termsPresent r = false) :
    (termsWritten r old).cap = old.cap := by
  have hcap : arg "CAP" r = none := by
    simp only [termsPresent, Bool.or_eq_false_iff] at h
    obtain ⟨⟨⟨-, hcap⟩, -⟩, -⟩ := h
    simpa using hcap
  simp [termsWritten, hcap, clampedNat]

theorem cap_defaultsWritten {r : Request} {u : Znu}
    (h : (termsPresent r && decide (u.current = some .default)) = false) :
    (zoneTerms (defaultsWritten r u) u.current).cap = (zoneTerms u u.current).cap := by
  obtain ⟨-, hzones, hterms⟩ := defaultsWritten_zones r u
  cases hc : u.current with
  | none => rfl
  | some z =>
    cases z with
    | default =>
      have hr : termsPresent r = false := by simpa [hc] using h
      rw [zoneTerms, hterms]
      exact termsWritten_cap hr
    | entry k => simp only [zoneTerms, hzones]

theorem zoneDefaultsBody_coverage : BodyLeaves CoverageLaw zoneDefaultsBody := fun r s hl =>
  leaves_ite trivial <| leaves_ite trivial <| by
    rw [leaves_done]
    split
    · exact zoneChange_coverageLaw _ _ _
    · next hk =>
      obtain ⟨hcurrent, -⟩ := defaultsWritten_zones r s.znu
      refine hl.of_view (coverView_setZnu ?_)
      rw [hcurrent]
      exact cap_defaultsWritten (Bool.eq_false_of_not_eq_true hk)

theorem positionBody_coverage : BodyLeaves CoverageLaw positionBody := fun _ _ hl =>
  leaves_need fun _ => leaves_need fun _ => leaves_ite (positionReport_coverageLaw hl) trivial

theorem forceZone_coverage {z : Zone} (hl : CoverageLaw s) : (forceZone z s).Leaves CoverageLaw := by
  rw [forceZone, leaves_done]
  split
  · exact zoneChange_coverageLaw _ _ _
  · exact hl.of_view rfl

theorem zoneForceBody_coverage : BodyLeaves CoverageLaw zoneForceBody := fun _ _ hl =>
  leaves_need fun _ => leaves_named fun _ => leaves_ite (forceZone_coverage hl) trivial

/-! ## The bodies of the requests on paths, the selector and the resequencer -/

theorem pathConfigBody_coverage : BodyLeaves CoverageLaw pathConfigBody := fun _ _ hl =>
  leaves_need fun _ => leaves_ite trivial <| leaves_named fun _ => by
    rw [leaves_done, surchargeMarks]
    split
    · exact hl.of_view coverView_bulkReview
    · exact hl.of_view rfl

theorem pathEnableBody_coverage : BodyLeaves CoverageLaw pathEnableBody := fun _ _ hl =>
  leaves_needPath fun _ => hl.of_view coverView_enablePath

theorem pathDisableBody_coverage : BodyLeaves CoverageLaw pathDisableBody := fun _ _ hl =>
  leaves_needPath fun _ => hl.of_view coverView_disablePath

theorem pathSurveyBody_coverage : BodyLeaves CoverageLaw pathSurveyBody := fun _ _ hl =>
  leaves_needPath fun _ =>
    leaves_ite (leaves_ite trivial (hl.of_view coverView_startOrDefer)) trivial

theorem pathTestBody_coverage : BodyLeaves CoverageLaw pathTestBody := fun _ s hl =>
  leaves_needPath fun p => by
    have htest : CoverageLaw (s.modPath p enterTest) := hl.of_view rfl
    split
    · exact htest
    · exact htest
    · exact hl
    all_goals trivial

theorem selectConfigBody_coverage : BodyLeaves CoverageLaw selectConfigBody := fun _ _ hl =>
  hl.of_view rfl

theorem pathPinBody_coverage : BodyLeaves CoverageLaw pathPinBody := fun _ _ hl =>
  leaves_need fun _ => leaves_named fun _ => hl.of_view rfl

theorem reseqConfigBody_coverage : BodyLeaves CoverageLaw reseqConfigBody := fun _ _ hl =>
  hl.of_view (coverView_resyncIf _)

/-! ## The bodies of the requests on cell heads, the clock, status and notices -/

/-- A CELL_CONFIG works the targets out again, whatever it wrote (R156). -/
theorem cellConfigBody_coverage : BodyLeaves CoverageLaw cellConfigBody := fun _ _ _ =>
  leaves_need fun _ => leaves_named fun _ => leaves_ite trivial <| retarget_coverageLaw _

theorem grantConfigBody_coverage : BodyLeaves CoverageLaw grantConfigBody := fun _ _ hl =>
  hl.of_view rfl

theorem clockSetBody_coverage : BodyLeaves CoverageLaw clockSetBody := fun _ _ hl =>
  leaves_need fun _ => hl.of_view rfl

theorem statusReadBody_coverage (port : Port) : BodyLeaves CoverageLaw (statusReadBody port) :=
  fun _ _ hl => leaves_named fun _ => hl.of_view (coverView_statusLeaves port)

theorem noticeArmBody_coverage : BodyLeaves CoverageLaw noticeArmBody := fun _ _ hl => hl.of_view rfl

theorem noticeClearBody_coverage : BodyLeaves CoverageLaw noticeClearBody := fun _ _ hl =>
  hl.of_view rfl

theorem creditListReadBody_coverage : BodyLeaves CoverageLaw creditListReadBody := fun _ _ hl =>
  hl.of_view rfl

/-! ## The restart -/

/-- Power-on reset leaves every cell head ABSENT at level 0 (R182). -/
theorem powerOnFrom_coverageLaw (s : State) : CoverageLaw (powerOnFrom s) := fun c => by
  have hcell : (powerOnFrom s).cell c = CellHead.powerOn := by
    simp [powerOnFrom, State.reset, State.cell, Cvu.powerOn]
  rw [hcell]
  exact levelLaw_of_zero rfl rfl rfl

theorem restartTaken_coverageLaw {port : Port} (r : Request) (s : State) (hl : CoverageLaw s) :
    CoverageLaw (restartTaken port r s) := by
  unfold restartTaken
  split
  · next ha => exact coverageLaw_requestStable.settle hl (generalCheck_leaves ha)
  · exact coverageRestart_coverageLaw rfl

/-! ## Every command, and every step -/

theorem execSurveyProbeDue_coverage (p : Path) (hl : CoverageLaw s) :
    NextLeaves CoverageLaw (execSurveyProbeDue p s) := by
  unfold execSurveyProbeDue
  split
  · exact nextLeaves_ite (nextLeaves_next (hl.of_view (coverView_surveyNext _))) (nextLeaves_next hl)
  · exact nextLeaves_next hl
  · exact nextLeaves_next hl

theorem execHeartbeatTimerExpiry_coverage (c : Nat) (hl : CoverageLaw s) :
    NextLeaves CoverageLaw (execHeartbeatTimerExpiry c s) := by
  unfold execHeartbeatTimerExpiry
  split
  · exact nextLeaves_ite (nextLeaves_next (heartbeatLoss_coverageLaw _ s)) (nextLeaves_next hl)
  · exact nextLeaves_next hl

theorem execRestartEntryStep_coverage (hl : CoverageLaw s) :
    NextLeaves CoverageLaw (execRestartEntryStep s) := by
  unfold execRestartEntryStep
  split
  · exact nextLeaves_next hl
  · split
    · exact nextLeaves_next hl
    · exact nextLeaves_next (hl.of_view (coverView_restartEntry _ _))

theorem execRestartIntervalTimer_coverage (hl : CoverageLaw s) :
    NextLeaves CoverageLaw (execRestartIntervalTimer s) := by
  unfold execRestartIntervalTimer
  split
  · exact nextLeaves_next hl
  · split
    · exact nextLeaves_next (hl.of_view rfl)
    · exact nextLeaves_next hl

theorem exec_coverage (c : Instr) (s : State) (hl : CoverageLaw s) :
    NextLeaves CoverageLaw (exec c s) := by
  have hkeep : NextLeaves CoverageLaw (.next s) := nextLeaves_next hl
  have same : ∀ t : State, coverView t = coverView s → NextLeaves CoverageLaw (.next t) :=
    fun _ e => nextLeaves_next (hl.of_view e)
  have req : ∀ {port : Port} {name : String} {taken : List Name} {body : Request → State → Answer},
      BodyLeaves CoverageLaw body → NextLeaves CoverageLaw (request port name taken body s) :=
    fun hb => coverageLaw_requestStable.request hb hl
  cases c with
  | powerOnReset => exact nextLeaves_next (powerOnFrom_coverageLaw s)
  | shipFrameArrival f => exact nextLeaves_next (shipArrival_coverageLaw f hl)
  | shoreFrameArrival p f => exact same _ (coverView_shoreArrival f)
  | shoreTransmitTake p => exact nextLeaves_ite (same _ coverView_shoreTake) hkeep
  | shoreTransmissionEnd p => exact same _ rfl
  | shipTransmitTake => exact nextLeaves_ite (same _ coverView_shipTake) hkeep
  | shipTransmissionEnd => exact same _ rfl
  | shipLinkLoss => exact same _ rfl
  | shipLinkReturn => exact same _ rfl
  | carrierArrival p => exact nextLeaves_ite hkeep (same _ coverView_carrierArrives)
  | carrierLoss p => exact nextLeaves_ite (same _ coverView_carrierLost) hkeep
  | settleTimerExpiry p => exact nextLeaves_ite (same _ coverView_settleExpiry) hkeep
  | openTimerExpiry p => exact nextLeaves_ite (same _ coverView_openExpiry) hkeep
  | surveyProbeDue p => exact execSurveyProbeDue_coverage p hl
  | probeTimerExpiry p => exact nextLeaves_ite (same _ coverView_probeExpiry) hkeep
  | probeDeadlineExpiry p id => exact same _ (coverView_deadlineExpiry id)
  | idleTimerExpiry p => exact nextLeaves_ite (same _ coverView_idleExpiry) hkeep
  | recoveryGapEnd p => exact nextLeaves_ite (same _ coverView_gapEnd) hkeep
  | drainWindowExpiry p => exact nextLeaves_ite (same _ rfl) hkeep
  | holdDownExpiry => exact same _ rfl
  | periodTimerExpiry => exact same _ coverView_evaluate
  | gapTimerExpiry => exact nextLeaves_ite (same _ coverView_gapExpiry) hkeep
  | heartbeatTimerExpiry n => exact execHeartbeatTimerExpiry_coverage n hl
  | grantBoundary => exact nextLeaves_next (grantBoundaryUnit_coverageLaw hl)
  | positionTimerExpiry => exact nextLeaves_ite (nextLeaves_next (positionExpiry_coverageLaw hl)) hkeep
  | intervalExpiry => exact nextLeaves_ite (same _ (by simp [intervalExpiry])) hkeep
  | sweepVisit => exact nextLeaves_ite (same _ coverView_sweepVisit) hkeep
  | voyageClockRise => exact same _ rfl
  | unknownRequest port =>
    exact nextLeaves_next (coverageLaw_requestStable.takeNamed
      (coverageLaw_requestStable.execute unknownBody_coverage) hl)
  | visitorAdd port => exact req visitorAddBody_coverage
  | visitorRemove port => exact req visitorRemoveBody_coverage
  | visitorRead port => exact req visitorReadBody_coverage
  | visitorCredit port => exact req visitorCreditBody_coverage
  | visitorAllow port => exact req visitorAllowBody_coverage
  | visitorSettle port => exact req visitorSettleBody_coverage
  | tariffLoad port => exact req tariffLoadBody_coverage
  | tariffSwitch port => exact req tariffSwitchBody_coverage
  | planLoad port => exact req planLoadBody_coverage
  | partnerLoad port => exact req partnerLoadBody_coverage
  | recordDrain port => exact req recordDrainBody_coverage
  | recordRelease port => exact req recordReleaseBody_coverage
  | voyageStart port => exact req voyageStartBody_coverage
  | recordInterval port => exact req recordIntervalBody_coverage
  | recordFlush port => exact req recordFlushBody_coverage
  | zoneLoad port => exact req zoneLoadBody_coverage
  | zoneDefaults port => exact req zoneDefaultsBody_coverage
  | position port => exact req positionBody_coverage
  | zoneForce port => exact req zoneForceBody_coverage
  | pathConfig port => exact req pathConfigBody_coverage
  | pathEnable port => exact req pathEnableBody_coverage
  | pathDisable port => exact req pathDisableBody_coverage
  | pathSurvey port => exact req pathSurveyBody_coverage
  | pathTest port => exact req pathTestBody_coverage
  | selectConfig port => exact req selectConfigBody_coverage
  | pathPin port => exact req pathPinBody_coverage
  | reseqConfig port => exact req reseqConfigBody_coverage
  | cellConfig port => exact req cellConfigBody_coverage
  | grantConfig port => exact req grantConfigBody_coverage
  | clockSet port => exact req clockSetBody_coverage
  | statusRead port => exact req (statusReadBody_coverage port)
  | noticeArm port => exact req noticeArmBody_coverage
  | noticeClear port => exact req noticeClearBody_coverage
  | creditListRead port => exact req creditListReadBody_coverage
  | partRestart port =>
    exact nextLeaves_next (coverageLaw_requestStable.takeNamed restartTaken_coverageLaw hl)
  | restartEntryStep => exact execRestartEntryStep_coverage hl
  | restartIntervalTimer => exact execRestartIntervalTimer_coverage hl

/-- Settles O6: the law reads the CAP in force and the cell heads' states and levels, which most operations leave. A
change of a cell head's state or settings, and a change of the zone or its CAP, works out every target again, after
which the law holds whatever it was before; a grant boundary raises an active level only to the target; a restart
leaves every level 0. So each command keeps the law, and so each step. -/
theorem stepKeepsCoverageLaw : Obligations.StepKeepsCoverageLaw := by
  intro s t hl ht
  exact step_leaves (fun _ _ hu => hu.of_view rfl) (fun _ _ hu => hu.of_view rfl)
    (fun _ hu => hu.of_view coverView_tickTimers) exec_coverage hl ht

end Sys2Proof.Machine
end

section
/-! SUPPORT. The two events of the Coverage Unit's timers: the grant boundary, and the loss of a cell head's heartbeat
with what becomes of it, of the other cell heads and of the rest of the part (R159, R163); and the obligations on
both. -/

namespace Sys2Proof.Machine

variable {s : State} {c d : Cell}

/-! ## The grant boundary -/

/-- Settles O33: by the state of each cell head, which alone decides what the boundary does to it. -/
theorem grantBoundaryAppliesPendingLevels : Obligations.GrantBoundaryAppliesPendingLevels := by
  intro s
  refine ⟨s.setCvu (grantBoundaryUnit s.cvu), rfl, fun c hs => ?_, fun c hs => ?_, rfl⟩
  · rw [grantBoundaryUnit_cell, boundaryCell_of_serving hs]
  · rw [grantBoundaryUnit_cell, boundaryCell_of_not_serving hs]

/-! ## The loss of a heartbeat -/

/-- A cell head as the expiry of its timer leaves it, before the targets are worked out again (R159, R160). -/
def lostCell (h : CellHead) : CellHead :=
  let h1 := { h with state := .lost, joinCount := 0, hbTimer := none, losses := h.losses + 1 }
  if h.state = .serving then leaveServing h1 else h1

/-- The state in which a heartbeat's loss works the targets out. -/
def lossState (c : Cell) (s : State) : State := raiseNotice .coverage (s.setCell c (lostCell (s.cell c)))

theorem heartbeatLoss_eq (c : Cell) (s : State) : heartbeatLoss c s = retarget (lossState c s) := rfl

/-- A new target lowers an active level above it, counts the fall and owes a GRANT, and leaves all else (R162). -/
theorem applyTarget_eq (n : Nat) (h : CellHead) : applyTarget n h = { h with
    target := n
    pendingLevel := n
    activeLevel := min h.activeLevel n
    grantOwed := h.grantOwed || decide (n < h.activeLevel)
    decreases := h.decreases + if n < h.activeLevel then 1 else 0 } := by
  unfold applyTarget
  split
  · next hn => simp [hn, Nat.min_eq_right hn.le]
  · next hn => simp [hn, Nat.min_eq_left (Nat.le_of_not_lt hn)]

/-- Whether a lost cell head leaves SERVING or its target falls to 0, it ends at level 0 (R159, R160, R162). -/
theorem applyTarget_lostCell (h : CellHead) : applyTarget 0 (lostCell h) = { h with
    state := .lost
    joinCount := 0
    hbTimer := none
    losses := h.losses + 1
    target := 0
    pendingLevel := 0
    activeLevel := 0
    grantOwed := h.grantOwed || decide (0 < h.activeLevel)
    decreases := h.decreases + if 0 < h.activeLevel then 1 else 0 } := by
  have hleave : ∀ g : CellHead, applyTarget 0 (leaveServing g) = applyTarget 0 g := fun g => by
    rw [applyTarget_eq, applyTarget_eq]
    unfold leaveServing
    dsimp only
    split
    · next hg => simp [hg]
    · next hg => simp [hg]
  unfold lostCell
  dsimp only
  split
  · rw [hleave, applyTarget_eq]
    simp
  · rw [applyTarget_eq]
    simp

theorem lossState_cell_self (c : Cell) (s : State) : (lossState c s).cell c = lostCell (s.cell c) :=
  State.setCell_cell_self s c _

theorem lossState_cell_ne (hd : d ≠ c) : (lossState c s).cell d = s.cell d := State.setCell_cell_ne s _ hd

theorem lostCell_state (h : CellHead) : (lostCell h).state = .lost := by
  unfold lostCell leaveServing
  dsimp only
  split
  · split <;> rfl
  · rfl

/-- The cell head whose timer expired (R159). -/
theorem heartbeatLoss_cell_self (c : Cell) (s : State) : (heartbeatLoss c s).cell c = { s.cell c with
    state := .lost
    joinCount := 0
    hbTimer := none
    losses := (s.cell c).losses + 1
    target := 0
    pendingLevel := 0
    activeLevel := 0
    grantOwed := (s.cell c).grantOwed || decide (0 < (s.cell c).activeLevel)
    decreases := (s.cell c).decreases + if 0 < (s.cell c).activeLevel then 1 else 0 } := by
  have hcell : (lossState c s).cell c = lostCell (s.cell c) := lossState_cell_self c s
  have htarget : targetOf (currentTerms (lossState c s)).cap (lossState c s).cvu c = 0 := by
    refine targetOf_of_not_serving ?_
    show ((lossState c s).cell c).state ≠ .serving
    rw [hcell, lostCell_state]
    decide
  rw [heartbeatLoss_eq, retarget_cell, htarget, hcell, applyTarget_lostCell]

/-- Another cell head takes its new target and keeps all else (R162). -/
theorem heartbeatLoss_cell_ne (hd : d ≠ c) : (heartbeatLoss c s).cell d =
    applyTarget ((heartbeatLoss c s).cell d).target (s.cell d) := by
  obtain ⟨-, htarget, -⟩ :=
    applyTarget_levels (targetOf (currentTerms (lossState c s)).cap (lossState c s).cvu d) (s.cell d)
  rw [heartbeatLoss_eq, retarget_cell, lossState_cell_ne hd, htarget]

/-- The targets are those of the cell heads as the loss leaves them, in the zone that stood before (R161). -/
theorem heartbeatLoss_target (c : Cell) (s : State) (d : Cell) : ((heartbeatLoss c s).cell d).target =
    targetOf (currentTerms s).cap (heartbeatLoss c s).cvu d := by
  rw [heartbeatLoss_eq]
  exact retarget_target (lossState c s) d

theorem heartbeatLoss_pendingLevel (c : Cell) (s : State) (d : Cell) :
    ((heartbeatLoss c s).cell d).pendingLevel = ((heartbeatLoss c s).cell d).target := by
  obtain ⟨hpending, -⟩ := heartbeatLoss_coverageLaw c s d
  exact hpending

/-- PENDING is set, and RAISED counts it where it was clear (R176). -/
theorem raiseFlags_eq (f : NoticeFlags) : raiseFlags f = { f with
    pending := true, raised := f.raised + if f.pending then 0 else 1 } := by
  obtain ⟨pending, armed, raised⟩ := f
  cases pending <;> simp [raiseFlags]

/-- COVERAGE is the one notice source that the loss raises (R159). -/
theorem heartbeatLoss_ntu (c : Cell) (s : State) : (heartbeatLoss c s).ntu =
    { s.ntu with coverage := { s.ntu.coverage with
        pending := true, raised := s.ntu.coverage.raised + if s.ntu.coverage.pending then 0 else 1 } } :=
  congrArg (fun f => { s.ntu with coverage := f }) (raiseFlags_eq s.ntu.coverage)

/-- The settings, the grant timer and the counts of the Coverage Unit stand. -/
theorem heartbeatLoss_settings (c : Cell) (s : State) :
    { (heartbeatLoss c s).cvu with cells := s.cvu.cells } = s.cvu := by
  have hretarget : ∀ (u : State) (x : Vector CellHead 16),
      { (retarget u).cvu with cells := x } = { u.cvu with cells := x } := fun _ _ => rfl
  rw [heartbeatLoss_eq, hretarget]
  rfl

theorem heartbeatLoss_frame (c : Cell) (s : State) : heartbeatLoss c s =
    { s with cvu := (heartbeatLoss c s).cvu, ntu := (heartbeatLoss c s).ntu } := rfl

theorem exec_heartbeatTimerExpiry (hr : (s.cell c).hbTimer ≠ none) :
    exec (.heartbeatTimerExpiry c.val) s = .next (heartbeatLoss c s) := by
  have hrunning : timerRunning (s.cell c).hbTimer = true := Option.isSome_iff_ne_none.2 hr
  show execHeartbeatTimerExpiry c.val s = _
  rw [execHeartbeatTimerExpiry, dif_pos c.isLt]
  exact if_pos hrunning

/-- Settles O32: a target depends on the standing of the cell heads alone, so those applied are those of the state
that is left. The lost cell head is not SERVING, so its target is 0, and every other one takes its new target. -/
theorem heartbeatExpiryLosesCellHead : Obligations.HeartbeatExpiryLosesCellHead := by
  refine ⟨fun cap u c => ⟨boosted_iff, targetOf_of_not_serving, targetOf_of_serving⟩, fun c s hr => ?_⟩
  have hself := heartbeatLoss_cell_self c s
  refine ⟨heartbeatLoss c s, exec_heartbeatTimerExpiry hr, ?_⟩
  simp only [hself, true_and]
  exact ⟨fun d hd => (heartbeatLoss_cell_ne hd).trans (applyTarget_eq _ _),
    fun d => ⟨heartbeatLoss_target c s d, heartbeatLoss_pendingLevel c s d⟩,
    heartbeatLoss_settings c s, heartbeatLoss_ntu c s, heartbeatLoss_frame c s⟩

end Sys2Proof.Machine
end

section
/-! SUPPORT. A property of the state that survives a write to any of the outer blocks (the ports, the paths, the
selector, the zones, the cell heads, the tables and the notices) and a bulk review mark survives every operation built
of these; with what the remaining operations do to it, it is kept by every command, and so by every step. -/

namespace Sys2Proof.Machine

variable {P : State → Prop} {s t : State}

/-- A property that no write outside the visitor table, the record queue, the sweep engine and the resequencer
disturbs, and no bulk review. -/
structure Outer (P : State → Prop) : Prop where
  shi : ∀ {s : State} (x : Shi), P s → P (s.setShi x)
  shore : ∀ {s : State} (x : PerPath ShorePort), P s → P (s.setShore x)
  freeBuffers : ∀ {s : State} (x : Nat), P s → P (s.setFreeBuffers x)
  uplinkSeq : ∀ {s : State} (x : BitVec 16), P s → P (s.setUplinkSeq x)
  rtu : ∀ {s : State} (x : Rtu), P s → P (s.setRtu x)
  znu : ∀ {s : State} (x : Znu), P s → P (s.setZnu x)
  psv : ∀ {s : State} (x : PerPath Psv), P s → P (s.setPsv x)
  psl : ∀ {s : State} (x : Psl), P s → P (s.setPsl x)
  cvu : ∀ {s : State} (x : Cvu), P s → P (s.setCvu x)
  cfu : ∀ {s : State} (x : Cfu), P s → P (s.setCfu x)
  ntu : ∀ {s : State} (x : Ntu), P s → P (s.setNtu x)
  clocks : ∀ {s : State} (x : Clocks), P s → P (s.setClocks x)
  pending : ∀ {s : State} (x : List Instr), P s → P (s.setPending x)
  bulkReview : ∀ {s : State}, P s → P (bulkReview s)

namespace Outer

variable (o : Outer P)

include o

/-! ## One port, path or cell head, and the notices -/

theorem port (p : Path) (x : ShorePort) (h : P s) : P (s.setPort p x) := o.shore _ h

theorem path (p : Path) (x : Psv) (h : P s) : P (s.setPath p x) := o.psv _ h

theorem cell (c : Cell) (x : CellHead) (h : P s) : P (s.setCell c x) := o.cvu _ h

theorem modPort (p : Path) (f : ShorePort → ShorePort) (h : P s) : P (s.modPort p f) := o.port _ _ h

theorem modPath (p : Path) (f : Psv → Psv) (h : P s) : P (s.modPath p f) := o.path _ _ h

theorem countShip (f : ShipCounters → ShipCounters) (h : P s) : P (s.countShip f) := o.shi _ h

theorem countShore (p : Path) (f : ShoreCounters → ShoreCounters) (h : P s) : P (s.countShore p f) :=
  o.port _ _ h

theorem raiseNotice (x : Source) (h : P s) : P (raiseNotice x s) := o.ntu _ h

/-! ## Coverage -/

theorem retarget (h : P s) : P (retarget s) := o.cvu _ h

theorem heartbeat (c : Cell) (level : Nat) (h : P s) : P (heartbeat c level s) := by
  unfold Machine.heartbeat
  dsimp only
  refine o.cell _ _ ?_
  split
  · exact o.retarget (o.cell _ _ h)
  · exact o.cell _ _ h

theorem heartbeatLoss (c : Cell) (h : P s) : P (heartbeatLoss c s) :=
  o.retarget (o.raiseNotice _ (o.cell _ _ h))

/-! ## The selector -/

theorem makeDue (p : Path) (d : Due) (h : P s) : P (makeDue p d s) := o.port _ _ h

theorem withdrawDue (p : Path) (f : Due → Bool) (h : P s) : P (withdrawDue p f s) := o.port _ _ h

theorem withdrawPathSwap (h : P s) : P (withdrawPathSwap s) :=
  List.foldlRecOn _ _ h fun _ ht p _ => o.withdrawDue p isPathSwap ht

theorem computeCandidate (h : P s) : P (computeCandidate s) := o.psl _ h

theorem closeDrain (p : Path) (h : P s) : P (closeDrain p s) := o.psl _ h

theorem drainIfUp (p : Path) (h : P s) : P (drainIfUp p s) := by
  unfold Machine.drainIfUp
  split
  · exact o.psl _ h
  · exact h

theorem splice (a b : Path) (h : P s) : P (splice a b s) :=
  o.withdrawDue _ _ (o.port _ _ (o.port _ _ h))

theorem swapDrain (a : Option Path) (b : Path) (h : P s) : P (swapDrain a b s) := by
  cases a with
  | none => exact o.closeDrain b h
  | some p => exact o.closeDrain b (o.drainIfUp p h)

theorem swapTo (b : Path) (cause : SwapCause) (h : P s) : P (swapTo b cause s) := by
  unfold Machine.swapTo
  dsimp only
  refine o.raiseNotice _ (o.psl _ (o.psl _ (o.swapDrain _ _ (o.bulkReview (o.makeDue _ _
    (o.withdrawPathSwap (o.psl _ ?_)))))))
  split
  · exact h
  · exact o.splice _ _ h

theorem enterNoBackhaul (a : Path) (h : P s) : P (enterNoBackhaul a s) :=
  o.raiseNotice _ (o.psl _ (o.drainIfUp _ (o.bulkReview (o.withdrawPathSwap (o.psl _
    (o.withdrawDue _ _ (o.freeBuffers _ (o.countShore _ _ (o.port _ _ h)))))))))

theorem leaveActive (a : Path) (h : P s) : P (leaveActive a s) := by
  unfold Machine.leaveActive
  dsimp only
  split
  · exact o.swapTo _ _ (o.computeCandidate h)
  · exact o.enterNoBackhaul _ (o.computeCandidate h)

theorem activate (h : P s) : P (activate s) := by
  unfold Machine.activate
  split
  · dsimp only
    split
    · exact o.swapTo _ _ (o.computeCandidate h)
    · exact o.computeCandidate h
  · exact h

theorem pathEntersUp (p : Path) (h : P s) : P (pathEntersUp p s) := by
  unfold Machine.pathEntersUp
  dsimp only
  split
  · exact o.activate (o.raiseNotice _ h)
  · exact o.raiseNotice _ h

theorem pathLeavesUp (p : Path) (h : P s) : P (pathLeavesUp p s) := by
  have hclosed := o.closeDrain p (o.withdrawDue p isPathSwap (o.raiseNotice .pathState h))
  unfold Machine.pathLeavesUp
  dsimp only
  split
  · exact o.leaveActive _ hclosed
  · exact hclosed

theorem selectorZoneChange (h : P s) : P (selectorZoneChange s) := by
  unfold Machine.selectorZoneChange
  split
  · split
    · exact h
    · exact o.leaveActive _ h
  · exact o.activate h

theorem advanceConfirm (b : Path) (h : P s) : P (advanceConfirm b s) := by
  unfold Machine.advanceConfirm
  dsimp only
  split
  · exact o.swapTo _ _ (o.psl _ h)
  · exact o.psl _ h

theorem evaluateCases (h : P s) : P (evaluateCases s) := by
  have hclear : P (clearConfirm s) := o.psl _ h
  unfold Machine.evaluateCases
  split
  · split
    · exact hclear
    · split
      · split
        · exact o.swapTo _ _ h
        · exact hclear
      · split
        · exact o.advanceConfirm _ h
        · exact hclear
  · exact hclear

theorem evaluate (h : P s) : P (evaluate s) := o.psl _ (o.evaluateCases (o.computeCandidate h))

theorem selectorRestart (h : P s) : P (selectorRestart s) :=
  o.bulkReview (o.withdrawPathSwap (o.psl _ h))

/-! ## Zones -/

theorem zoneChange (z : Zone) (cause : ChangeCause) (h : P s) : P (zoneChange z cause s) :=
  o.raiseNotice _ (o.selectorZoneChange (o.retarget (o.bulkReview (o.znu _ h))))

theorem positionExpiry (h : P s) : P (positionExpiry s) := by
  unfold Machine.positionExpiry
  dsimp only
  refine o.raiseNotice _ (o.znu _ ?_)
  split
  · exact o.znu _ h
  · exact o.zoneChange _ _ (o.znu _ h)

theorem positionReport (lat lon : Int) (h : P s) : P (positionReport lat lon s).1 := by
  unfold Machine.positionReport
  dsimp only
  split
  · exact o.znu _ h
  · exact o.zoneChange _ _ (o.znu _ h)

/-! ## Paths -/

theorem startSurvey (p : Path) (h : P s) : P (startSurvey p s) := o.makeDue _ _ (o.modPath _ _ h)

theorem startOrDefer (p : Path) (h : P s) : P (startOrDefer p s) := by
  unfold Machine.startOrDefer
  split
  · exact o.modPath _ _ h
  · exact o.startSurvey p h

theorem completeSurvey (p : Path) (es : List SurveyEntry) (h : P s) : P (completeSurvey p es s) := by
  have hwritten : P (s.modPath p (fun v => { v with
      surveyRecord := surveyResult v.config es, survey := .idle, surveys := v.surveys + 1,
      gap := gapStart v.config })) := o.modPath _ _ h
  unfold Machine.completeSurvey
  dsimp only
  split
  · split
    · exact o.pathEntersUp _ (o.modPath _ _ hwritten)
    · exact o.modPath _ _ hwritten
  · exact o.ntu _ (o.raiseNotice _ hwritten)
  all_goals exact hwritten

theorem updateSurvey (p : Path) (run : SurveyRun) (es : List SurveyEntry) (h : P s) :
    P (updateSurvey p run es s) := by
  unfold Machine.updateSurvey
  split
  · exact o.completeSurvey p es h
  · exact o.modPath _ _ h

theorem cleanUp (g : Bool) (p : Path) (h : P s) : P (cleanUp g p s) :=
  o.withdrawDue _ _ (o.modPath _ _ h)

theorem acceptArrives (p : Path) (h : P s) : P (acceptArrives p s) := by
  unfold Machine.acceptArrives
  split
  · exact o.startOrDefer p (o.modPath _ _ h)
  · exact o.modPath _ _ h

theorem answerProbe (p : Path) (id : BitVec 8) (value : BitVec 32) (h : P s) :
    P (answerProbe p id value s) := by
  unfold Machine.answerProbe
  split
  · exact o.makeDue _ _ (o.modPath _ _ h)
  · exact o.modPath _ _ h

theorem probeArrives (p : Path) (id : BitVec 8) (value : BitVec 32) (h : P s) :
    P (probeArrives p id value s) := by
  unfold Machine.probeArrives
  split
  case h_4 => split <;> exact o.modPath _ _ h
  all_goals first | exact o.answerProbe p id value h | exact o.modPath _ _ h

theorem echoTaken (p : Path) (id : BitVec 8) (h : P s) : P (echoTaken p id s) := by
  unfold Machine.echoTaken
  split
  · exact o.modPath _ _ h
  · split
    · split
      · exact o.updateSurvey _ _ _ (o.modPath _ _ h)
      · exact o.modPath _ _ h
    · exact o.modPath _ _ h
    · exact o.modPath _ _ h

theorem echoArrives (p : Path) (id : BitVec 8) (h : P s) : P (echoArrives p id s) := by
  unfold Machine.echoArrives
  split
  · exact o.modPath _ _ h
  · exact o.echoTaken p id h

theorem pathOpenDue (p : Path) (h : P s) : P (pathOpenDue p s) := by
  unfold Machine.pathOpenDue
  split
  · exact h
  · exact o.makeDue _ _ h

theorem settleExpiry (p : Path) (h : P s) : P (settleExpiry p s) := o.pathOpenDue p (o.modPath _ _ h)

theorem openExpiry (p : Path) (h : P s) : P (openExpiry p s) := by
  unfold Machine.openExpiry
  split
  · exact o.pathOpenDue p (o.modPath _ _ h)
  · exact o.modPath _ _ h

theorem surveyNext (p : Path) (run : SurveyRun) (h : P s) : P (surveyNext p run s) := by
  unfold Machine.surveyNext
  split
  · exact o.makeDue _ _ (o.modPath _ _ h)
  · exact h

theorem probeExpiry (p : Path) (h : P s) : P (probeExpiry p s) := by
  unfold Machine.probeExpiry
  dsimp only
  split
  · exact o.modPath _ _ h
  · exact o.makeDue _ _ (o.modPath _ _ h)

theorem idleExpiry (p : Path) (h : P s) : P (idleExpiry p s) := by
  unfold Machine.idleExpiry
  dsimp only
  split
  · exact o.makeDue _ _ (o.modPath _ _ h)
  · exact o.modPath _ _ h

theorem gapEnd (p : Path) (h : P s) : P (gapEnd p s) := by
  have hended : P (s.modPath p (fun v => { v with gap := none })) := o.modPath _ _ h
  unfold Machine.gapEnd
  dsimp only
  split
  · split
    · exact o.startSurvey p hended
    · exact o.modPath _ _ hended
  · exact hended

theorem deadlineExpiry (p : Path) (id : BitVec 8) (h : P s) : P (deadlineExpiry p id s) := by
  unfold Machine.deadlineExpiry
  split
  · exact o.modPath _ _ h
  · split
    · split
      · exact o.updateSurvey _ _ _ h
      · exact h
    · exact h
    · exact h

theorem carrierArrives (p : Path) (h : P s) : P (carrierArrives p s) := by
  unfold Machine.carrierArrives
  dsimp only
  split
  · exact o.modPath _ _ (o.modPort _ _ h)
  · exact o.modPort _ _ h

theorem carrierLost (p : Path) (h : P s) : P (carrierLost p s) := by
  have hport := o.modPort p portLosesCarrier h
  have hdown := o.raiseNotice .pathLost (o.modPath p pathLosesCarrier (o.cleanUp true p hport))
  unfold Machine.carrierLost
  dsimp only
  split
  · split
    · exact o.pathLeavesUp p hdown
    · exact hdown
  · exact hport

theorem disablePath (p : Path) (h : P s) : P (disablePath p s) := by
  unfold Machine.disablePath
  dsimp only
  split
  · exact h
  · split
    · exact o.pathLeavesUp p (o.ntu _ (o.modPath _ _ (o.cleanUp true p h)))
    · exact o.ntu _ (o.modPath _ _ (o.cleanUp true p h))

theorem enablePath (p : Path) (h : P s) : P (enablePath p s) := by
  unfold Machine.enablePath
  split <;> first | exact o.modPath _ _ h | exact h

theorem pathRestart (p : Path) (h : P s) : P (pathRestart p s) := by
  unfold Machine.pathRestart
  split <;> first | exact o.modPath _ _ h | exact o.modPath _ _ (o.cleanUp false p h)

/-! ## The transmitters and the request queues -/

theorem shoreSend (p : Path) (body : List Byte) (h : P s) : P (shoreSend p body s) := by
  unfold Machine.shoreSend
  dsimp only
  split
  · exact o.modPath _ _ (o.modPort _ _ h)
  · exact o.modPort _ _ h

theorem takeSupervision (p : Path) (d : Due) (left : List Due) (h : P s) :
    P (takeSupervision p d left s) :=
  o.shoreSend _ _ (o.countShore _ _ (o.modPath _ _ (o.modPort _ _ h)))

theorem takeShoreReply (p : Path) (r : Reply) (h : P s) : P (takeShoreReply p r s) :=
  o.shoreSend _ _ (o.countShore _ _ (o.modPort _ _ h))

theorem takeUser (h : P s) : P (takeUser s) := by
  unfold Machine.takeUser
  split
  · exact o.shi _ (o.countShip _ (o.freeBuffers _ (o.shi _ h)))
  · exact h

theorem takeOwn (h : P s) : P (takeOwn s) := by
  unfold Machine.takeOwn
  split
  · exact o.shi _ (o.countShip _ (o.cell _ _ h))
  · split
    · exact o.shi _ (o.countShip _ (o.shi _ h))
    · split
      · exact o.shi _ (o.countShip _ (o.ntu _ h))
      · exact o.takeUser h

theorem shipTake (h : P s) : P (shipTake s) := by
  unfold Machine.shipTake
  split
  · exact o.takeUser h
  · exact o.takeOwn h

theorem offerShip (r : Request) (h : P s) : P (offerShip r s) := by
  unfold Machine.offerShip
  split <;> exact o.shi _ h

theorem offerShore (p : Path) (r : Request) (h : P s) : P (offerShore p r s) := by
  unfold Machine.offerShore
  split <;> exact o.port _ _ h

theorem dropRequest (port : Port) (h : P s) : P (dropRequest port s) := by
  cases port with
  | ship => exact o.shi _ h
  | shore p => exact o.port _ _ h

theorem placeReply (port : Port) (x : Reply) (h : P s) : P (placeReply port x s) := by
  cases port with
  | ship => exact o.shi _ h
  | shore p => exact o.port _ _ h

theorem settle {port : Port} {taken : List Name} {r : Request} {a : Answer} (h : P s)
    (ha : a.Leaves P) : P (settle port taken r a s) := by
  cases a with
  | refused x => exact o.placeReply port _ h
  | malformed why => exact o.placeReply port _ (o.raiseNotice _ (o.cfu _ h))
  | done adjusted items records t => exact o.placeReply port _ ha

theorem takeNamed {port : Port} {fits : Name → Bool} {run : Request → State → State}
    (hrun : ∀ (r : Request) (t : State), P t → P (run r t)) (h : P s) :
    P (takeNamed port fits run s) := by
  unfold Machine.takeNamed
  split
  · exact h
  · split
    · exact hrun _ _ (o.dropRequest port h)
    · exact h

theorem execute {port : Port} {taken : List Name} {body : Request → State → Answer}
    (hb : ∀ (r : Request) (s : State), P s → (body r s).Leaves P) (r : Request) (s : State)
    (h : P s) : P (execute port taken body r s) := by
  refine o.settle h ?_
  unfold answer
  split
  · next ha => exact generalCheck_leaves ha
  · exact hb r s h

end Outer

end Sys2Proof.Machine
end

section
/-! SUPPORT. A property that survives the outer writes is kept by every command and every step, once the operations on
visitors, records, the sweep engine and the resequencer keep it (R5, R89, 00_scope.md, Time). -/

namespace Sys2Proof.Machine

variable {P : State → Prop} {s t : State}

/-- What a request's body must do to a property. -/
def BodyHas (P : State → Prop) (body : Request → State → Answer) : Prop :=
  ∀ (r : Request) (s : State), P s → (body r s).Leaves P

/-- The operations that write the visitor table, the record queue, the sweep engine or the resequencer keep a
property that the outer writes do not disturb. -/
structure Kept (P : State → Prop) : Prop extends Outer P where
  powerOn : ∀ s, P s → P (powerOnFrom s)
  uplinkArrival : ∀ e s, P s → P (uplinkArrival e s)
  downlinkArrival : ∀ h s, P s → P (downlinkArrival h s)
  takeUplink : ∀ p e left s, P s → P (takeUplink p e left s)
  gapExpiry : ∀ s, P s → P (gapExpiry s)
  intervalExpiry : ∀ s, P s → P (intervalExpiry s)
  sweepVisit : ∀ s, P s → P (sweepVisit s)
  visitorAdd : BodyHas P visitorAddBody
  visitorRemove : BodyHas P visitorRemoveBody
  visitorCredit : BodyHas P visitorCreditBody
  visitorAllow : BodyHas P visitorAllowBody
  visitorSettle : BodyHas P visitorSettleBody
  partnerLoad : BodyHas P partnerLoadBody
  recordDrain : BodyHas P recordDrainBody
  recordRelease : BodyHas P recordReleaseBody
  voyageStart : BodyHas P voyageStartBody
  recordInterval : BodyHas P recordIntervalBody
  recordFlush : BodyHas P recordFlushBody
  reseqConfig : BodyHas P reseqConfigBody
  restartPackets : ∀ s, P s → P (restartPackets s)
  restartEntry : ∀ i x s, nextRestartEntry x.nextIndex s = some i → P s → P (restartEntry i x s)
  intervalTimer : ∀ s x, P s → P (s.setRse { s.rse with intervalTimer := x })
  tickTimers : ∀ s, P s → P (tickTimers s)

namespace Kept

variable (k : Kept P)

include k

/-! ## Frames that arrive -/

theorem shipSort (f : EthFrame) (kind : Byte) (h : P s) : P (shipSort f kind s) := by
  unfold Machine.shipSort
  split
  · exact k.countShip _ h
  · split
    · exact k.countShip _ h
    · split
      · unfold userArrives
        split_ifs
        · exact k.countShip _ h
        · exact k.countShip _ h
        · exact k.countShip _ h
        · exact k.uplinkArrival _ _ (k.countShip _ h)
      · unfold heartbeatArrives
        dsimp only
        split
        · exact k.countShip _ h
        · exact k.heartbeat _ _ (k.cell _ _ (k.countShip _ h))
      · exact k.offerShip _ (k.shi _ (k.countShip _ h))

theorem shipArrival (f : EthFrame) (h : P s) : P (shipArrival f s) := by
  unfold Machine.shipArrival
  split_ifs
  · exact k.countShip _ h
  · exact k.countShip _ h
  · split
    · exact k.countShip _ h
    · exact k.shipSort f _ h

theorem shoreSort (p : Path) (f : EthFrame) (kind : Byte) (h : P s) : P (shoreSort p f kind s) := by
  have hcounted : P (supervisionCounted p f.src s) := k.countShore _ _ (k.modPort _ _ h)
  unfold Machine.shoreSort
  split
  · exact k.countShore _ _ h
  · split
    · exact k.countShore _ _ h
    · split
      · unfold dataArrives
        split_ifs
        · exact k.countShore _ _ h
        · exact k.countShore _ _ h
        · exact k.downlinkArrival _ _ (k.countShore _ _ (k.modPort _ _ h))
      · exact k.probeArrives _ _ _ hcounted
      · exact k.echoArrives _ _ hcounted
      · exact k.acceptArrives _ hcounted
      · unfold shoreRequestArrives
        split
        · exact k.countShore _ _ h
        · exact k.offerShore _ _ (k.countShore _ _ (k.modPort _ _ h))

theorem shoreArrival (p : Path) (f : EthFrame) (h : P s) : P (shoreArrival p f s) := by
  unfold Machine.shoreArrival
  split_ifs
  · exact k.countShore _ _ h
  · exact k.countShore _ _ h
  · split
    · exact k.countShore _ _ h
    · exact k.shoreSort p f _ h

theorem shoreTake (p : Path) (h : P s) : P (shoreTake p s) := by
  unfold Machine.shoreTake
  split
  · exact k.takeSupervision _ _ _ h
  · split
    · exact k.takeShoreReply _ _ h
    · split
      · exact k.takeUplink _ _ _ _ h
      · exact h

/-! ## The bodies of the outer requests -/

theorem zoneLoad : BodyHas P zoneLoadBody := fun _ _ h =>
  leaves_need fun _ => leaves_ite trivial <| leaves_named fun _ => leaves_ite trivial <| by
    unfold zoneLoadWrite
    dsimp only
    rw [leaves_done]
    split
    · exact k.zoneChange _ _ (k.znu _ h)
    · exact k.znu _ h

theorem zoneDefaults : BodyHas P zoneDefaultsBody := fun _ _ h =>
  leaves_ite trivial <| leaves_ite trivial <| by
    rw [leaves_done]
    split
    · exact k.zoneChange _ _ (k.znu _ h)
    · exact k.znu _ h

theorem position : BodyHas P positionBody := fun _ _ h =>
  leaves_need fun _ => leaves_need fun _ => leaves_ite (k.positionReport _ _ h) trivial

theorem zoneForce : BodyHas P zoneForceBody := fun _ _ h =>
  leaves_need fun _ => leaves_named fun _ => leaves_ite (by
    unfold forceZone
    dsimp only
    rw [leaves_done]
    split
    · exact k.zoneChange _ _ (k.znu _ h)
    · exact k.znu _ h) trivial

theorem pathConfig : BodyHas P pathConfigBody := fun _ _ h =>
  leaves_need fun _ => leaves_ite trivial <| leaves_named fun _ => by
    dsimp only
    rw [leaves_done]
    unfold surchargeMarks
    split
    · exact k.bulkReview (k.path _ _ h)
    · exact k.path _ _ h

theorem pathSurvey : BodyHas P pathSurveyBody := fun _ _ h =>
  leaves_needPath fun p => leaves_ite (leaves_ite trivial (k.startOrDefer p h)) trivial

theorem pathTest : BodyHas P pathTestBody := fun _ _ h =>
  leaves_needPath fun _ => by
    split
    · exact k.modPath _ _ h
    · exact k.modPath _ _ h
    · exact h
    all_goals trivial

theorem cellConfig : BodyHas P cellConfigBody := fun _ _ h =>
  leaves_need fun _ => leaves_named fun _ => leaves_ite trivial (k.retarget (k.cell _ _ h))

theorem statusRead (port : Port) : BodyHas P (statusReadBody port) := fun _ _ h =>
  leaves_named fun _ => by
    cases port with
    | ship => exact k.psv _ h
    | shore p => exact h

omit k in
theorem visitorRead : BodyHas P visitorReadBody := fun _ s h => by
  have hread : ∀ i, (readEntry i s).Leaves P := fun _ => h
  unfold visitorReadBody
  split
  · trivial
  · trivial
  · exact leaves_named fun i => hread i.val
  · exact leaves_ite trivial (leaves_named hread)

/-! ## The restart -/

theorem restartTaken {port : Port} (r : Request) (s : State) (h : P s) : P (restartTaken port r s) := by
  unfold Machine.restartTaken
  split
  · next ha => exact k.settle h (generalCheck_leaves ha)
  · have hpaths : P (Path.all.foldl (fun s p => pathRestart p s)
        (Machine.restartPackets (restartNotices s))) :=
      List.foldlRecOn _ _ (k.restartPackets _ (k.cfu _ (k.ntu _ h))) fun _ ht p _ => k.pathRestart p ht
    exact k.cfu _ (k.znu _ (k.cvu _ (k.selectorRestart hpaths)))

/-! ## Every command -/

/-- A next state that an outcome answers has the property. -/
def NextHas (P : State → Prop) (x : Host.Outcome State Fault Refusal) : Prop := ∀ t : State, x = .next t → P t

omit k in
theorem next (h : P t) : NextHas P (.next t) := by
  rintro _ ⟨⟩
  exact h

omit k in
theorem nextIte {c : Prop} [Decidable c] {a b : Host.Outcome State Fault Refusal}
    (ha : NextHas P a) (hb : NextHas P b) : NextHas P (if c then a else b) := by
  split
  · exact ha
  · exact hb

theorem request {port : Port} {name : String} {taken : List Name} {body : Request → State → Answer}
    (hb : BodyHas P body) (h : P s) : NextHas P (request port name taken body s) :=
  next (k.takeNamed (k.execute hb) h)

theorem surveyProbeDue (p : Path) (h : P s) : NextHas P (execSurveyProbeDue p s) := by
  unfold execSurveyProbeDue
  split
  · exact nextIte (next (k.surveyNext _ _ h)) (next h)
  · exact next h
  · exact next h

theorem heartbeatTimerExpiry (n : Nat) (h : P s) : NextHas P (execHeartbeatTimerExpiry n s) := by
  unfold execHeartbeatTimerExpiry
  split
  · exact nextIte (next (k.heartbeatLoss _ h)) (next h)
  · exact next h

theorem restartEntryStep (h : P s) : NextHas P (execRestartEntryStep s) := by
  unfold execRestartEntryStep
  split
  · exact next h
  · split
    · exact next h
    · next hi => exact next (k.restartEntry _ _ _ hi h)

theorem restartIntervalTimer (h : P s) : NextHas P (execRestartIntervalTimer s) := by
  unfold execRestartIntervalTimer
  split
  · exact next h
  · split
    · exact next (k.shi _ (k.cfu _ (k.intervalTimer _ _ h)))
    · exact next h

/-- Every command keeps the property. -/
theorem exec (c : Instr) (h : P s) : NextHas P (exec c s) := by
  have hs : NextHas P (.next s) := next h
  cases c with
  | powerOnReset => exact next (k.powerOn s h)
  | shipFrameArrival f => exact next (k.shipArrival f h)
  | shoreFrameArrival p f => exact next (k.shoreArrival p f h)
  | shoreTransmitTake p => exact nextIte (next (k.shoreTake p h)) hs
  | shoreTransmissionEnd p => exact next (k.modPort p _ h)
  | shipTransmitTake => exact nextIte (next (k.shipTake h)) hs
  | shipTransmissionEnd => exact next (k.shi _ h)
  | shipLinkLoss => exact next (k.shi _ h)
  | shipLinkReturn => exact next (k.shi _ h)
  | carrierArrival p => exact nextIte hs (next (k.carrierArrives p h))
  | carrierLoss p => exact nextIte (next (k.carrierLost p h)) hs
  | settleTimerExpiry p => exact nextIte (next (k.settleExpiry p h)) hs
  | openTimerExpiry p => exact nextIte (next (k.openExpiry p h)) hs
  | surveyProbeDue p => exact k.surveyProbeDue p h
  | probeTimerExpiry p => exact nextIte (next (k.probeExpiry p h)) hs
  | probeDeadlineExpiry p id => exact next (k.deadlineExpiry p id h)
  | idleTimerExpiry p => exact nextIte (next (k.idleExpiry p h)) hs
  | recoveryGapEnd p => exact nextIte (next (k.gapEnd p h)) hs
  | drainWindowExpiry p => exact nextIte (next (k.closeDrain p h)) hs
  | holdDownExpiry => exact next (k.psl _ h)
  | periodTimerExpiry => exact next (k.evaluate h)
  | gapTimerExpiry => exact nextIte (next (k.gapExpiry s h)) hs
  | heartbeatTimerExpiry n => exact k.heartbeatTimerExpiry n h
  | grantBoundary => exact next (k.cvu _ h)
  | positionTimerExpiry => exact nextIte (next (k.positionExpiry h)) hs
  | intervalExpiry => exact nextIte (next (k.intervalExpiry s h)) hs
  | sweepVisit => exact nextIte (next (k.sweepVisit s h)) hs
  | voyageClockRise => exact next (k.cfu _ h)
  | unknownRequest port => exact next (k.takeNamed (k.execute fun _ _ _ => trivial) h)
  | visitorAdd port => exact k.request k.visitorAdd h
  | visitorRemove port => exact k.request k.visitorRemove h
  | visitorRead port => exact k.request visitorRead h
  | visitorCredit port => exact k.request k.visitorCredit h
  | visitorAllow port => exact k.request k.visitorAllow h
  | visitorSettle port => exact k.request k.visitorSettle h
  | tariffLoad port =>
    exact k.request (fun _ _ h => leaves_need fun _ => leaves_need fun _ => leaves_need fun _ =>
      leaves_need fun _ => leaves_named fun _ => leaves_named fun _ =>
      leaves_bankChecked (k.rtu _ h)) h
  | tariffSwitch port =>
    exact k.request (fun _ _ h => leaves_bankChecked (k.bulkReview (k.rtu _ h))) h
  | planLoad port =>
    exact k.request (fun _ _ h => leaves_need fun _ => leaves_named fun _ =>
      k.bulkReview (k.rtu _ h)) h
  | partnerLoad port => exact k.request k.partnerLoad h
  | recordDrain port => exact k.request k.recordDrain h
  | recordRelease port => exact k.request k.recordRelease h
  | voyageStart port => exact k.request k.voyageStart h
  | recordInterval port => exact k.request k.recordInterval h
  | recordFlush port => exact k.request k.recordFlush h
  | zoneLoad port => exact k.request k.zoneLoad h
  | zoneDefaults port => exact k.request k.zoneDefaults h
  | position port => exact k.request k.position h
  | zoneForce port => exact k.request k.zoneForce h
  | pathConfig port => exact k.request k.pathConfig h
  | pathEnable port =>
    exact k.request (fun _ _ h => leaves_needPath fun p => k.enablePath p h) h
  | pathDisable port =>
    exact k.request (fun _ _ h => leaves_needPath fun p => k.disablePath p h) h
  | pathSurvey port => exact k.request k.pathSurvey h
  | pathTest port => exact k.request k.pathTest h
  | selectConfig port => exact k.request (fun _ _ h => k.psl _ h) h
  | pathPin port => exact k.request (fun _ _ h => leaves_need fun _ => leaves_named fun _ => k.psl _ h) h
  | reseqConfig port => exact k.request k.reseqConfig h
  | cellConfig port => exact k.request k.cellConfig h
  | grantConfig port => exact k.request (fun _ _ h => k.cvu _ h) h
  | clockSet port => exact k.request (fun _ _ h => leaves_need fun _ => k.cfu _ h) h
  | statusRead port => exact k.request (k.statusRead port) h
  | noticeArm port => exact k.request (fun _ _ h => k.ntu _ h) h
  | noticeClear port => exact k.request (fun _ _ h => k.ntu _ h) h
  | creditListRead port => exact k.request (fun _ _ h => k.ntu _ h) h
  | partRestart port => exact next (k.takeNamed k.restartTaken h)
  | restartEntryStep => exact k.restartEntryStep h
  | restartIntervalTimer => exact k.restartIntervalTimer h

/-! ## Time, and every step -/

theorem fire (i : Instr) (h : P s) : P (fire s i) := by
  unfold Machine.fire
  split
  · split
    · next ht => exact k.exec i h _ ht
    · exact h
    · exact h
  · exact h

theorem timeStep (h : P s) : P (timeStep s) := by
  unfold Machine.timeStep
  split
  · exact k.clocks _ h
  · exact List.foldlRecOn _ Machine.fire (k.tickTimers _ (k.clocks _ h)) fun _ ht i _ => k.fire i ht

/-- Every step keeps the property. -/
theorem step (h : P s) (ht : step s = .next t) : P t := by
  unfold Machine.step at ht
  split at ht
  · cases ht
    exact k.timeStep h
  · next i rest _ => exact k.exec i (k.pending rest h) t ht

end Kept

end Sys2Proof.Machine
end

section
/-! SUPPORT. The held packets of the resequencer by their distance from NEXT_EXPECTED: what a run, an insertion and a
jump do to their order (R146, R148, R149), and that every step keeps the law of the resequencer. -/

namespace Sys2Proof.Machine

variable {s : State} {l left : List Held} {n m : BitVec 16} {h : Held}

/-! ## Packets in order of distance -/

/-- Packets lie in strictly rising distance from a sequence, none further than 255. -/
def InOrder (n : BitVec 16) (l : List Held) : Prop :=
  l.Pairwise (fun x y => (x.seq - n).toNat < (y.seq - n).toNat) ∧ ∀ x ∈ l, (x.seq - n).toNat ≤ 255

theorem inOrder_nil (n : BitVec 16) : InOrder n [] := ⟨.nil, by simp⟩

theorem inOrder_cons : InOrder n (h :: l) ↔
    ((h.seq - n).toNat ≤ 255 ∧ ∀ x ∈ l, (h.seq - n).toNat < (x.seq - n).toNat) ∧ InOrder n l := by
  simp only [InOrder, List.pairwise_cons, List.forall_mem_cons]
  tauto

theorem InOrder.filter (hl : InOrder n l) (f : Held → Bool) : InOrder n (l.filter f) :=
  ⟨hl.1.filter f, fun x hx => hl.2 x (List.mem_of_mem_filter hx)⟩

/-- A distance from a later sequence that is not passed. -/
theorem distance_rebase {w : Nat} {m n q : BitVec w} (hq : (m - n).toNat ≤ (q - n).toNat) :
    (q - m).toNat = (q - n).toNat - (m - n).toNat := by
  rw [← sub_sub_sub_cancel_right q m n]
  exact BitVec.toNat_sub_of_le (BitVec.le_def.2 hq)

/-- Seen from a later sequence that passes none of them, the packets are still in order. -/
theorem InOrder.rebase (hl : InOrder n l) (hm : ∀ x ∈ l, (m - n).toNat ≤ (x.seq - n).toNat) :
    InOrder m l := by
  obtain ⟨hpair, hbound⟩ := hl
  refine ⟨hpair.imp_of_mem fun {x y} hx hy hxy => ?_, fun x hx => ?_⟩
  · rw [distance_rebase (hm x hx), distance_rebase (hm y hy)]
    have := hm x hx
    omega
  · rw [distance_rebase (hm x hx)]
    have := hbound x hx
    omega

/-- NEXT_EXPECTED passes the packet at its head. -/
theorem InOrder.advance (hl : InOrder n (h :: l)) (_ : h.seq = n) : InOrder (n + 1) l := by
  obtain ⟨⟨-, hgt⟩, htail⟩ := inOrder_cons.1 hl
  refine htail.rebase fun x hx => ?_
  have h1 : (n + 1 - n).toNat = 1 := by
    rw [BitVec.add_comm, BitVec.add_sub_cancel]
    rfl
  have := hgt x hx
  omega

/-- Packets of which the nearest is not the next one expected lie ahead of it. -/
theorem InOrder.ahead (hl : InOrder n l) (hhead : ∀ x ∈ l.head?, x.seq ≠ n) :
    ∀ x ∈ l, 1 ≤ (x.seq - n).toNat := by
  cases l with
  | nil => simp
  | cons y ys =>
    obtain ⟨⟨-, hgt⟩, -⟩ := inOrder_cons.1 hl
    have hy : (y.seq - n).toNat ≠ 0 := fun e => hhead y rfl (by bv_omega)
    intro x hx
    rcases List.mem_cons.1 hx with rfl | hx
    · omega
    · have := hgt x hx
      omega

/-- A packet not yet held joins the others in order (R148). -/
theorem inOrder_slotInsert {d : Drs} (hh : seqDistance d h.seq ≤ 255) :
    ∀ {l : List Held}, InOrder d.nextExpected l → (∀ x ∈ l, x.seq ≠ h.seq) →
      InOrder d.nextExpected (slotInsert d h l)
  | [], _, _ => ⟨List.pairwise_singleton _ _, List.forall_mem_singleton.2 hh⟩
  | x :: xs, hl, hne => by
    have hl' := hl
    obtain ⟨⟨hx, hgt⟩, htail⟩ := inOrder_cons.1 hl
    unfold slotInsert
    split
    · next hlt =>
      refine inOrder_cons.2 ⟨⟨hh, fun y hy => ?_⟩, hl'⟩
      rcases List.mem_cons.1 hy with rfl | hy
      · exact hlt
      · exact hlt.trans (hgt y hy)
    · next hge =>
      refine inOrder_cons.2 ⟨⟨hx, fun y hy => ?_⟩,
        inOrder_slotInsert hh htail fun y hy => hne y (List.mem_cons_of_mem _ hy)⟩
      rcases slotInsert_mem.1 hy with rfl | hy
      · have hxy : x.seq ≠ y.seq := hne x (List.mem_cons_self ..)
        unfold seqDistance at hge
        have : (x.seq - d.nextExpected).toNat ≠ (y.seq - d.nextExpected).toNat :=
          fun e => hxy (by bv_omega)
        omega
      · exact hgt y hy

/-! ## The law while a step is under way -/

/-- In LOCKED the held packets, followed by one in hand, are in order from NEXT_EXPECTED on; the next one expected may
be among them. -/
structure Lined (hand : List Held) (d : Drs) : Prop where
  locked : d.locked = true
  order : InOrder d.nextExpected (d.slots ++ hand)

/-- In LOCKED the held packets are in order, and lie ahead of NEXT_EXPECTED. -/
structure Ahead (d : Drs) : Prop where
  locked : d.locked = true
  order : InOrder d.nextExpected d.slots
  ahead : ∀ x ∈ d.slots, 1 ≤ seqDistance d x.seq

theorem deliverNext_drs (h : Held) (left : List Held) (s : State) : (deliverNext h left s).drs =
    { s.drs with slots := left, nextExpected := s.drs.nextExpected + 1,
                 delivered := s.drs.delivered + 1 } := by
  rw [deliverNext, deliver_drs]
  rfl

/-- The run at NEXT_EXPECTED is delivered, and what is left lies ahead (R148). -/
theorem deliverRun_lined {hand : List Held} : ∀ (run : List Held) (s : State), s.drs.slots = run →
    Lined hand s.drs → Lined hand (deliverRun run s).drs ∧
      ∀ x ∈ (deliverRun run s).drs.slots.head?, x.seq ≠ (deliverRun run s).drs.nextExpected
  | [], s, hs, hd => ⟨hd, by simp [deliverRun, hs]⟩
  | x :: run, s, hs, hd => by
    unfold deliverRun
    split
    · next hx =>
      have horder := hd.order
      rw [hs] at horder
      refine deliverRun_lined run _ (by rw [deliverNext_drs]) ?_
      rw [deliverNext_drs]
      exact ⟨hd.locked, horder.advance hx⟩
    · next hx => exact ⟨hd, by simpa [hs] using hx⟩

theorem deliverAll_lined {hand : List Held} (out : List Held) (hd : Lined hand s.drs) :
    Lined hand (deliverAll out s).drs := by
  rw [deliverAll_drs]
  exact ⟨hd.locked, hd.order⟩

theorem Lined.ahead_of_head {d : Drs} {hand : List Held} (hd : Lined hand d)
    (hhead : ∀ x ∈ d.slots.head?, x.seq ≠ d.nextExpected) : Ahead d := by
  have horder : InOrder d.nextExpected d.slots := by
    obtain ⟨hpair, hbound⟩ := hd.order
    exact ⟨(List.pairwise_append.1 hpair).1, fun x hx => hbound x (List.mem_append_left _ hx)⟩
  exact ⟨hd.locked, horder, horder.ahead hhead⟩

theorem deliverRun_ahead (hd : Lined [] s.drs) : Ahead (deliverRun s.drs.slots s).drs := by
  obtain ⟨hlined, hhead⟩ := deliverRun_lined _ s rfl hd
  exact hlined.ahead_of_head hhead

/-- A packet within reach is delivered, held or discarded (R148). -/
theorem placeNear_ahead (hd : Ahead s.drs) (hh : seqDistance s.drs h.seq ≤ 255) :
    Ahead (placeNear h s).drs := by
  unfold placeNear
  split
  · dsimp only
    refine deliverRun_ahead ?_
    rw [deliverNext_drs]
    refine ⟨hd.locked, ?_⟩
    rw [List.append_nil]
    refine hd.order.rebase fun x hx => ?_
    have h1 : (s.drs.nextExpected + 1 - s.drs.nextExpected).toNat = 1 := by
      rw [BitVec.add_comm, BitVec.add_sub_cancel]
      rfl
    rw [h1]
    exact hd.ahead x hx
  · next hzero =>
    split
    · exact ⟨hd.locked, hd.order, hd.ahead⟩
    · next hany =>
      have hne : ∀ x ∈ s.drs.slots, x.seq ≠ h.seq := by simpa using hany
      refine ⟨hd.locked, inOrder_slotInsert hh hd.order hne, fun x hx => ?_⟩
      rcases slotInsert_mem.1 hx with rfl | hx
      · exact Nat.one_le_iff_ne_zero.2 hzero
      · exact hd.ahead x hx

/-- The packets that a jump does not pass, and then the one that causes it, are in order from its NEXT_EXPECTED. -/
theorem inOrder_stay {d : Drs} (hd : Ahead d) (hfar : 256 ≤ seqDistance d h.seq) :
    InOrder (h.seq - 255) (d.slots.filter (fun x =>
      !decide (seqDistance d x.seq < seqDistance d (h.seq - 255))) ++ [h]) := by
  unfold seqDistance at *
  have hpassed : (h.seq - 255 - d.nextExpected).toNat = (h.seq - d.nextExpected).toNat - 255 := by
    bv_omega
  have hhand : (h.seq - (h.seq - 255)).toNat = 255 := by bv_omega
  have hstay : ∀ x ∈ d.slots.filter (fun x =>
      !decide ((x.seq - d.nextExpected).toNat < (h.seq - 255 - d.nextExpected).toNat)),
      x ∈ d.slots ∧ (h.seq - 255 - d.nextExpected).toNat ≤ (x.seq - d.nextExpected).toNat :=
    fun x hx => by simpa using List.mem_filter.1 hx
  obtain ⟨hpair, hbound⟩ := (hd.order.filter _).rebase fun x hx => (hstay x hx).2
  refine ⟨List.pairwise_append.2 ⟨hpair, List.pairwise_singleton _ _, fun x hx y hy => ?_⟩,
    fun x hx => ?_⟩
  · obtain ⟨hmem, hle⟩ := hstay x hx
    have hreach := hd.order.2 x hmem
    rw [List.mem_singleton.1 hy, hhand, distance_rebase hle]
    omega
  · rcases List.mem_append.1 hx with hx | hx
    · exact hbound x hx
    · rw [List.mem_singleton.1 hx]
      exact hhand.le

/-- After the jump the packets held lie ahead of NEXT_EXPECTED, and the one that caused it within reach (R149). -/
theorem jumpTo_ahead (hd : Ahead s.drs) (hfar : 256 ≤ seqDistance s.drs h.seq) :
    Ahead (jumpTo (h.seq - 255) s).drs ∧ seqDistance (jumpTo (h.seq - 255) s).drs h.seq ≤ 255 := by
  have horder := inOrder_stay hd hfar
  generalize hnext : h.seq - 255 = next at horder ⊢
  have hset : Lined [h] (s.setDrs { s.drs with
      slots := s.drs.slots.filter (fun x => !decide (seqDistance s.drs x.seq < seqDistance s.drs next))
      nextExpected := next
      skipped := s.drs.skipped + BitVec.ofNat 32 (seqDistance s.drs next - (s.drs.slots.filter
        fun x => decide (seqDistance s.drs x.seq < seqDistance s.drs next)).length) }).drs :=
    ⟨hd.locked, horder⟩
  obtain ⟨hrun, hhead⟩ := deliverRun_lined _ _ rfl (deliverAll_lined _ hset)
  exact ⟨hrun.ahead_of_head hhead, hrun.order.2 h (by simp)⟩

theorem placeLocked_ahead (hd : Ahead s.drs) : Ahead (placeLocked h s).drs := by
  unfold placeLocked
  dsimp only
  split
  · exact placeNear_ahead hd (by omega)
  · next hfar =>
    split
    · obtain ⟨hjump, hreach⟩ := jumpTo_ahead hd (Nat.not_lt.1 hfar)
      have hplaced := placeNear_ahead hjump hreach
      exact ⟨hplaced.locked, hplaced.order, hplaced.ahead⟩
    · exact ⟨hd.locked, hd.order, hd.ahead⟩

/-! ## The law at the end of a step -/

/-- With the gap timer checked, packets in order ahead of NEXT_EXPECTED obey the law (R150). -/
theorem Ahead.checked (hd : Ahead s.drs) : ResequencerLaw (checkGapTimer s) := by
  rw [checkGapTimer_eq]
  refine ⟨hd.order.1, fun x hx => ⟨hd.ahead x hx, hd.order.2 x hx⟩, fun h => ?_, ?_⟩
  · exact absurd (hd.locked.symm.trans h) (by decide)
  · show (if s.drs.slots = [] then none else _ : Option Nat).isSome = !s.drs.slots.isEmpty
    cases s.drs.slots <;> rfl

theorem ResequencerLaw.ahead (hs : ResequencerLaw s) (hl : s.drs.locked = true) : Ahead s.drs := by
  obtain ⟨hpair, hbound, -, -⟩ := hs
  exact ⟨hl, ⟨hpair, fun x hx => (hbound x hx).2⟩, fun x hx => (hbound x hx).1⟩

theorem ResequencerLaw.of_drs {t : State} (hs : ResequencerLaw s) (e : t.drs = s.drs) :
    ResequencerLaw t := by
  unfold ResequencerLaw
  rw [e]
  exact hs

/-- In HUNT, with nothing held and the gap timer stopped (R145). -/
theorem resequencerLaw_of_hunt (hn : s.drs.nextExpected = 0) (hs : s.drs.slots = [])
    (hg : s.drs.gapTimer = none) : ResequencerLaw s := by
  refine ⟨?_, ?_, fun _ => ⟨hs, hn⟩, ?_⟩ <;> simp [hs, hg]

theorem resequence_resequencerLaw (hs : ResequencerLaw s) : ResequencerLaw (resequence h s) := by
  unfold resequence
  split
  · next hl => exact (placeLocked_ahead (hs.ahead hl)).checked
  · next hl =>
    obtain ⟨-, -, hhunt, -⟩ := hs
    obtain ⟨hempty, -⟩ := hhunt (Bool.eq_false_iff.2 hl)
    have hd : Ahead { s.drs with locked := true, nextExpected := h.seq } :=
      ⟨rfl, by rw [hempty]; exact inOrder_nil _, by simp [hempty]⟩
    refine (placeNear_ahead (s := s.setDrs { s.drs with locked := true, nextExpected := h.seq }) hd ?_).checked
    simp [seqDistance]

theorem downlinkArrival_resequencerLaw (h : Held) (s : State) (hs : ResequencerLaw s) :
    ResequencerLaw (downlinkArrival h s) := by
  unfold downlinkArrival
  split
  · exact hs
  · exact resequence_resequencerLaw (hs.of_drs rfl)

theorem gapExpiry_resequencerLaw (s : State) (hs : ResequencerLaw s) : ResequencerLaw (gapExpiry s) := by
  unfold gapExpiry
  dsimp only
  split
  · next hempty =>
    obtain ⟨-, -, hhunt, -⟩ := hs
    have hslots : s.drs.slots = [] := hempty
    rw [checkGapTimer_eq]
    refine ⟨?_, ?_, fun hl => ⟨hslots, (hhunt hl).2⟩, ?_⟩ <;> simp [hslots]
  · next x xs hslots =>
    have hslots : s.drs.slots = x :: xs := hslots
    have hl : s.drs.locked = true := by
      obtain ⟨-, -, hhunt, -⟩ := hs
      refine Bool.eq_true_of_not_eq_false fun hl => ?_
      rw [(hhunt hl).1] at hslots
      cases hslots
    have hd := hs.ahead hl
    refine Ahead.checked (deliverRun_ahead ⟨hl, ?_⟩)
    rw [List.append_nil]
    refine hd.order.rebase fun y hy => ?_
    have horder := hd.order
    rw [hslots] at horder hy
    obtain ⟨⟨-, hgt⟩, -⟩ := inOrder_cons.1 horder
    rcases List.mem_cons.1 hy with rfl | hy
    · exact le_rfl
    · exact (hgt y hy).le

theorem resync_resequencerLaw (hs : ResequencerLaw s) : ResequencerLaw (resync s) := by
  unfold resync
  split
  · exact resequencerLaw_of_hunt (by rw [deliverAll_drs]; rfl) (by rw [deliverAll_drs]; rfl)
      (by rw [deliverAll_drs]; rfl)
  · exact hs

/-! ## The operations that leave the resequencer as it stands -/

@[simp] theorem attachLearning_drs (i : Nat) (s : State) : (attachLearning i s).drs = s.drs := by
  unfold attachLearning
  split <;> simp

@[simp] theorem uplinkQueue_drs (e : UplinkEntry) (s : State) : (uplinkQueue e s).drs = s.drs := by
  unfold uplinkQueue
  split
  · rfl
  · split
    · rfl
    · split <;> rfl

@[simp] theorem uplinkAdmit_drs (i : Nat) (e : UplinkEntry) (s : State) :
    (uplinkAdmit i e s).drs = s.drs := by
  unfold uplinkAdmit
  split <;> simp

@[simp] theorem uplinkArrival_drs (e : UplinkEntry) (s : State) : (uplinkArrival e s).drs = s.drs := by
  unfold uplinkArrival
  split <;> simp

@[simp] theorem shoreSend_drs (p : Path) (body : List Byte) (s : State) :
    (shoreSend p body s).drs = s.drs := by
  rw [shoreSend_eq]
  simp

@[simp] theorem takeUplink_drs (p : Path) (e : UplinkEntry) (left : List UplinkEntry) (s : State) :
    (takeUplink p e left s).drs = s.drs := by
  unfold takeUplink
  dsimp only
  split
  · simp
  · unfold takeAdmitted
    split
    · simp
    · dsimp only
      split <;> simp [sendData]

@[simp] theorem restartClose_drs (i : Nat) (s : State) : (restartClose i s).1.drs = s.drs := by
  unfold restartClose
  split <;> simp

@[simp] theorem sweepVisit_drs (s : State) : (sweepVisit s).drs = s.drs := by
  unfold sweepVisit
  dsimp only
  split <;> simp

@[simp] theorem removeSettled_drs (i : Nat) (s : State) : (removeSettled i s).drs = s.drs := by
  unfold removeSettled
  split <;> simp

@[simp] theorem releaseEntry_drs (i : Nat) (r : OpenRecord) (s : State) :
    (releaseEntry i r s).drs = s.drs := by
  unfold releaseEntry
  dsimp only
  split <;> simp

theorem releaseRecords_drs : ∀ (n : Nat) (s : State), (releaseRecords n s).drs = s.drs
  | 0, _ => rfl
  | n + 1, s => by
    unfold releaseRecords
    split
    · rfl
    · rw [releaseRecords_drs n, releaseHead, releaseEntry_drs]
      rfl

@[simp] theorem cursorForward_drs (q : Rcq) (n : Nat) (s : State) : (cursorForward q n s).drs = s.drs := by
  unfold cursorForward
  split <;> rfl

/-- Nothing but the arrival of DATA, the gap timer, RESEQ_CONFIG and the two restarts writes the resequencer. -/
theorem resequencerLaw_kept : Kept ResequencerLaw where
  shi _ h := h
  shore _ h := h
  freeBuffers _ h := h
  uplinkSeq _ h := h
  rtu _ h := h
  znu _ h := h
  psv _ h := h
  psl _ h := h
  cvu _ h := h
  cfu _ h := h
  ntu _ h := h
  clocks _ h := h
  pending _ h := h
  bulkReview h := h.of_drs (by simp)
  powerOn _ _ := resequencerLaw_of_hunt rfl rfl rfl
  uplinkArrival _ _ h := h.of_drs (by simp)
  downlinkArrival := downlinkArrival_resequencerLaw
  takeUplink _ _ _ _ h := h.of_drs (by simp)
  gapExpiry := gapExpiry_resequencerLaw
  intervalExpiry _ h := h.of_drs (by simp [intervalExpiry])
  sweepVisit _ h := h.of_drs (by simp)
  visitorAdd _ _ h := leaves_need fun _ => leaves_need fun _ => leaves_need fun _ => leaves_need fun _ =>
    leaves_ite trivial <| leaves_named fun _ => leaves_named fun _ => leaves_named fun _ =>
    leaves_ite trivial <| leaves_ite trivial <| h.of_drs (by simp)
  visitorRemove _ s h := leaves_needEntry fun i => by
    split
    · trivial
    · trivial
    · exact h.of_drs (by simp)
    · exact h.of_drs (by simp [removeClosing])
  visitorCredit _ _ h := leaves_need fun _ => leaves_need fun _ => leaves_named fun _ =>
    leaves_onVisitor fun _ => h.of_drs (by simp)
  visitorAllow _ _ h := leaves_need fun _ => leaves_need fun _ => leaves_named fun _ =>
    leaves_onVisitor fun _ => h.of_drs (by simp)
  visitorSettle _ _ h := leaves_needEntry fun _ => leaves_onVisitor fun _ => h.of_drs (by simp)
  partnerLoad _ _ h := leaves_need fun _ => leaves_ite trivial <| leaves_named fun _ =>
    h.of_drs (by simp)
  recordDrain _ _ h := leaves_need fun _ => h
  recordRelease _ s h := leaves_need fun _ => leaves_ite trivial <| h.of_drs (by
    rw [cursorForward_drs, releaseRecords_drs])
  voyageStart _ _ h := h
  recordInterval _ _ h := leaves_need fun _ => h
  recordFlush _ _ h := h.of_drs (by simp)
  reseqConfig r s h := by
    have hset : ResequencerLaw (s.setDrs { s.drs with
        gapHold := clampedNat 1 255 s.drs.gapHold (arg "GAP_HOLD" r) }) := h
    show ResequencerLaw (resyncIf _ _)
    unfold resyncIf
    split
    · exact resync_resequencerLaw hset
    · exact hset
  restartPackets _ _ := resequencerLaw_of_hunt rfl rfl rfl
  restartEntry _ _ _ _ h := h.of_drs (by simp [restartEntry])
  intervalTimer _ _ h := h
  tickTimers s h := by
    obtain ⟨hpair, hbound, hhunt, hgap⟩ := h
    refine ⟨hpair, hbound, hhunt, ?_⟩
    show (s.drs.gapTimer.map _).isSome = _
    rw [Option.isSome_map]
    exact hgap

/-- Settles O10: while a step is under way the held packets are in order of distance from NEXT_EXPECTED, the next one
expected perhaps among them; the run delivers it, and the gap timer is checked last. No other operation writes the
resequencer but to put it in HUNT. -/
theorem stepKeepsResequencerLaw : Obligations.StepKeepsResequencerLaw := fun _ _ hs ht =>
  resequencerLaw_kept.step hs ht

end Sys2Proof.Machine
end

section
/-! SUPPORT. A property that survives the outer writes, those of the resequencer's own fields and what a packet does to
its entry survives every journey of a packet (R10, R11, R13, R14, R150, R152). -/

namespace Sys2Proof.Machine

variable {P : State → Prop} {s : State}

/-- A property that the resequencer's writes and the work, the charge, the refusal and the attachment of an entry
keep. -/
structure Carried (P : State → Prop) : Prop extends Outer P where
  drs : ∀ {s : State} (x : Drs), P s → P (s.setDrs x)
  owedWork : ∀ {s : State} (i : Nat), P s → P (owedWork i s)
  charge : ∀ {s : State} (i n : Nat) (d : Direction), P s → P (charge i n d s).1
  blockPacket : ∀ {s : State} (i : Nat) (why : Refused), P s → P (blockPacket i why s)
  attach : ∀ {s : State} (i : Nat), P s → P (attach i s)
  servingCell : ∀ {s : State} (i : Nat) (c : Option Cell),
    P s → P (s.setVisitor i { s.visitor i with servingCell := c })

namespace Carried

variable (o : Carried P)

include o

/-! ## Downlink -/

theorem refuseHeld (i : Nat) (why : Refused) (h : P s) : P (refuseHeld i why s) :=
  o.freeBuffers _ (o.blockPacket i why h)

theorem deliverCharged (i : Nat) (x : Held) (c : Cell) (h : P s) : P (deliverCharged i x c s) := by
  unfold Machine.deliverCharged
  split
  · exact o.freeBuffers _ (o.countShip _ h)
  · dsimp only
    split
    · exact o.shi _ (o.charge _ _ _ h)
    · exact o.freeBuffers _ (o.charge _ _ _ h)

theorem countSubstitution (b : Bool) (h : P s) : P (countSubstitution b s) := by
  cases b with
  | false => exact h
  | true => exact o.cvu _ h

theorem deliverTo (i : Nat) (x : Held) (h : P s) : P (deliverTo i x s) := by
  unfold Machine.deliverTo
  split
  · exact o.refuseHeld _ _ h
  · split
    · exact o.refuseHeld _ _ h
    · exact o.deliverCharged _ _ _ (o.countSubstitution _ h)

theorem deliver (x : Held) (h : P s) : P (deliver x s) := by
  unfold Machine.deliver downlinkDelivery
  split
  · exact o.freeBuffers _ (o.countShore _ _ (o.drs _ h))
  · exact o.deliverTo _ _ (o.owedWork _ (o.drs _ h))

theorem deliverNext (x : Held) (left : List Held) (h : P s) : P (deliverNext x left s) :=
  o.deliver _ (o.drs _ h)

theorem deliverRun : ∀ (run : List Held) {s : State}, P s → P (deliverRun run s)
  | [], _, h => h
  | x :: run, s, h => by
    unfold Machine.deliverRun
    split
    · exact deliverRun run (o.deliverNext _ _ h)
    · exact h

theorem deliverAll : ∀ (out : List Held) {s : State}, P s → P (deliverAll out s)
  | [], _, h => h
  | x :: out, _, h => deliverAll out (o.deliver x h)

theorem placeNear (x : Held) (h : P s) : P (placeNear x s) := by
  unfold Machine.placeNear
  split
  · exact o.deliverRun _ (o.deliverNext _ _ h)
  · split
    · exact o.freeBuffers _ (o.drs _ h)
    · exact o.drs _ h

theorem placeLocked (x : Held) (h : P s) : P (placeLocked x s) := by
  unfold Machine.placeLocked
  dsimp only
  split
  · exact o.placeNear x h
  · split
    · exact o.drs _ (o.placeNear x (o.deliverRun _ (o.deliverAll _ (o.drs _ h))))
    · exact o.freeBuffers _ (o.drs _ h)

theorem checkGapTimer (h : P s) : P (checkGapTimer s) := by
  rw [checkGapTimer_eq]
  exact o.drs _ h

theorem resequence (x : Held) (h : P s) : P (resequence x s) := by
  unfold Machine.resequence
  split
  · exact o.checkGapTimer (o.placeLocked x h)
  · exact o.checkGapTimer (o.placeNear x (o.drs _ h))

theorem downlinkArrival (x : Held) (s : State) (h : P s) : P (downlinkArrival x s) := by
  unfold Machine.downlinkArrival
  split
  · exact o.countShore _ _ h
  · exact o.resequence x (o.freeBuffers _ h)

theorem gapExpiry (s : State) (h : P s) : P (gapExpiry s) := by
  unfold Machine.gapExpiry
  dsimp only
  split
  · exact o.checkGapTimer (o.drs _ h)
  · exact o.checkGapTimer (o.deliverRun _ (o.drs _ (o.drs _ h)))

theorem reseqConfig : BodyHas P reseqConfigBody := fun r s h => by
  show P (resyncIf _ _)
  unfold resyncIf
  split
  · unfold resync
    split
    · exact o.deliverAll _ (o.drs _ (o.drs _ h))
    · exact o.drs _ h
  · exact o.drs _ h

/-! ## Uplink -/

theorem uplinkQueue (e : UplinkEntry) (h : P s) : P (uplinkQueue e s) := by
  unfold Machine.uplinkQueue
  split
  · exact o.countShip _ h
  · split
    · exact h
    · split
      · exact o.freeBuffers _ (o.modPort _ _ h)
      · exact o.countShip _ h

theorem uplinkArrival (e : UplinkEntry) (s : State) (h : P s) : P (uplinkArrival e s) := by
  have hadmit : ∀ (i : Nat) (t : State), P t → P (uplinkAdmit i e t) := fun i t ht => by
    unfold uplinkAdmit
    split
    · exact o.blockPacket _ _ ht
    · exact o.uplinkQueue _ (o.servingCell _ _ ht)
  unfold Machine.uplinkArrival
  split
  · exact o.countShip _ h
  · refine hadmit _ _ ?_
    unfold attachLearning
    split
    · exact o.attach _ h
    · exact h

theorem takeUplink (p : Path) (e : UplinkEntry) (left : List UplinkEntry) (s : State) (h : P s) :
    P (takeUplink p e left s) := by
  have htaken : P ((s.modPort p (fun x => { x with txQueue := left })).returnBuffers 1) :=
    o.freeBuffers _ (o.modPort _ _ h)
  unfold Machine.takeUplink
  dsimp only
  split
  · exact o.countShore _ _ htaken
  · next i _ =>
    have hworked := o.owedWork i htaken
    unfold takeAdmitted
    split
    · exact o.blockPacket _ _ hworked
    · dsimp only
      split
      · exact o.shoreSend _ _ (o.countShore _ _ (o.uplinkSeq _ (o.charge _ _ _ hworked)))
      · exact o.charge _ _ _ hworked

end Carried

end Sys2Proof.Machine
end

section
/-! SUPPORT. The shape of the record queue (R71): what the close of a record, a drain and a release do to it, and that
every step keeps it. -/

namespace Sys2Proof.Machine

variable {s : State} {q : Rcq}

/-! ## The shape of the queue -/

/-- What R71 says of the queue itself: its bound, its consecutive sequences, its cursor and its limit. -/
structure QueueShape (q : Rcq) : Prop where
  bound : held q ≤ 1024
  seqs : ∀ (k : Nat) (r : Record), q.records[k]? = some r → r.seq = q.nextSeq - BitVec.ofNat 32 (held q - k)
  cursor : fromHead q q.cursorSeq ≤ fromHead q q.limitSeq
  limit : fromHead q q.limitSeq ≤ held q

/-- The head lies HELD records before NEXT_SEQ. -/
theorem QueueShape.headSeq_eq (h : QueueShape q) : headSeq q = q.nextSeq - BitVec.ofNat 32 (held q) := by
  unfold headSeq
  split
  · next hr => simp [held, hr]
  · next r left hr => simpa using h.seqs 0 r (by rw [hr]; rfl)

/-- The charge law keeps the records from naming FREE entries, so with it the law is that of the queue alone. -/
theorem RecordQueueLaw.of_shape (hc : ChargeLaw s) (hq : QueueShape s.rcq) : RecordQueueLaw s := by
  refine ⟨hq.bound, hq.seqs, fun r hr hfree => ?_, hq.cursor, hq.limit⟩
  obtain ⟨-, hentries⟩ := hc
  obtain ⟨⟨-, -, hnone⟩, -⟩ := hentries r.index
  have hempty : s.rcq.records.filter (fun x => x.index == r.index) = [] :=
    List.length_eq_zero_iff.1 (hnone (by rw [hfree]; rfl))
  simpa using List.filter_eq_nil_iff.1 hempty r hr

theorem RecordQueueLaw.shape (h : RecordQueueLaw s) : QueueShape s.rcq := by
  obtain ⟨hbound, hseqs, -, hcursor, hlimit⟩ := h
  exact ⟨hbound, hseqs, hcursor, hlimit⟩

theorem queueShape_powerOn : QueueShape Rcq.powerOn :=
  ⟨by decide, fun _ _ h => by simp [Rcq.powerOn] at h, by decide, by decide⟩

/-- The counts of spills are no part of the shape. -/
theorem QueueShape.spills (h : QueueShape q) (x : Count) : QueueShape { q with spills := x } :=
  ⟨h.bound, h.seqs, h.cursor, h.limit⟩

/-! ## The close of a record -/

/-- A record that takes NEXT_SEQ joins the tail where there is room (R72). -/
theorem QueueShape.append (h : QueueShape q) (hroom : held q < 1024) {x : Record} (hx : x.seq = q.nextSeq) :
    QueueShape { q with records := q.records ++ [x], nextSeq := q.nextSeq + 1 } := by
  have hheld : held { q with records := q.records ++ [x], nextSeq := q.nextSeq + 1 } = held q + 1 := by
    simp [held]
  have hseqs : ∀ (k : Nat) (r : Record), (q.records ++ [x])[k]? = some r →
      r.seq = q.nextSeq + 1 - BitVec.ofNat 32 (held q + 1 - k) := fun k r hr => by
    rcases Nat.lt_trichotomy k (held q) with hk | hk | hk
    · rw [List.getElem?_append_left hk] at hr
      rw [h.seqs k r hr, Nat.succ_sub hk.le, Nat.succ_eq_add_one, BitVec.ofNat_add]
      simp
    · subst hk
      have hr' : x = r := by simpa [held] using hr
      subst hr'
      simp [hx]
    · rw [List.getElem?_eq_none (by simpa [held] using hk)] at hr
      cases hr
  have hhead : headSeq { q with records := q.records ++ [x], nextSeq := q.nextSeq + 1 } = headSeq q := by
    unfold headSeq
    cases hr : q.records with
    | nil => exact hx
    | cons y ys => rfl
  refine ⟨by rw [hheld]; exact hroom, by rw [hheld]; exact hseqs, ?_, ?_⟩
  · unfold fromHead
    rw [hhead]
    exact h.cursor
  · unfold fromHead
    rw [hhead, hheld]
    exact h.limit.trans (Nat.le_succ _)

theorem closeRecord_queueShape (i : Nat) (why : CloseReason) (h : QueueShape s.rcq) :
    QueueShape (closeRecord i why s).1.rcq := by
  cases hr : (s.visitor i).openRecord with
  | none => simpa [closeRecord, hr] using h
  | some r =>
    cases ht : holdsTraffic r with
    | false => rwa [closeRecord_of_empty hr ht, reopen_rcq]
    | true =>
      by_cases hq : held s.rcq < Config.recordQueueSize
      · rw [closeRecord_of_room hr ht hq, reopen_rcq, joinQueue_rcq]
        exact h.append hq rfl
      · rw [closeRecord_of_full hr ht (Nat.not_lt.1 hq), reopen_rcq, spillRecord_rcq]
        exact h.spills _

theorem review_queueShape (i : Nat) (h : QueueShape s.rcq) : QueueShape (review i s).rcq := by
  obtain ⟨t, -, hq, hreview | ⟨why, hreview⟩⟩ := review_eq i s
  · rwa [hreview, hq]
  · rw [hreview]
    exact closeRecord_queueShape i why (by rwa [hq])

theorem owedWork_queueShape (i : Nat) (h : QueueShape s.rcq) : QueueShape (owedWork i s).rcq := by
  have hclose : QueueShape (owedClose i s).rcq := by
    unfold owedClose
    split
    · exact closeRecord_queueShape i _ h
    · exact h
  have hreview : QueueShape (owedReview i (owedClose i s)).rcq := by
    unfold owedReview
    split
    · exact review_queueShape i hclose
    · exact hclose
  unfold owedWork
  split
  · rwa [refreshEngine_rcq]
  · exact h

theorem charge_queueShape (i n : Nat) (d : Direction) (h : QueueShape s.rcq) :
    QueueShape (charge i n d s).1.rcq := by
  have hclose : QueueShape (volumeClose i n d s).rcq := by
    unfold volumeClose
    split
    · exact h
    · split
      · exact closeRecord_queueShape i _ h
      · exact h
  unfold charge
  dsimp only
  split
  · exact hclose
  · split
    · simpa using hclose
    · simpa using hclose

/-! ## A drain -/

/-- A position n records further on, where the queue is too short for a wrap. -/
theorem fromHead_add {x : BitVec 32} {n : Nat} (h : fromHead q x + n < 2 ^ 32) :
    fromHead q (x + BitVec.ofNat 32 n) = fromHead q x + n := by
  unfold fromHead at *
  rw [add_sub_right_comm, BitVec.toNat_add, BitVec.toNat_ofNat, Nat.add_mod_mod]
  exact Nat.mod_eq_of_lt h

theorem QueueShape.rewound (h : QueueShape q) (b : Bool) : QueueShape (rewound b q) := by
  cases b with
  | false => exact h
  | true => exact ⟨h.bound, h.seqs, by simp [Machine.rewound, fromHead, headSeq], h.limit⟩

/-- The cursor moves past records that stand in the queue, and with it a limit that it passes (R74). -/
theorem QueueShape.issued (h : QueueShape q) {n : Nat} (hn : fromHead q q.cursorSeq + n ≤ held q) :
    QueueShape (issued n q) := by
  have hbound := h.bound
  have hlimit := h.limit
  have hcursor : fromHead q (q.cursorSeq + BitVec.ofNat 32 n) = fromHead q q.cursorSeq + n :=
    fromHead_add (by omega)
  refine ⟨h.bound, h.seqs, ?_, ?_⟩
  · show fromHead q (q.cursorSeq + BitVec.ofNat 32 n) ≤ fromHead q (if _ then _ else _)
    split <;> omega
  · show fromHead q (if _ then _ else _) ≤ held q
    split <;> omega

theorem drained_length_le (count : Nat) (h : QueueShape q) :
    fromHead q q.cursorSeq + (drained count q).length ≤ held q := by
  have hle := h.cursor.trans h.limit
  simp only [drained, List.length_take, List.length_drop]
  unfold held at *
  omega

/-! ## A release -/

theorem releaseEntry_rcq (i : Nat) (r : OpenRecord) (s : State) : (releaseEntry i r s).rcq = s.rcq := by
  unfold releaseEntry
  dsimp only
  split <;> simp

/-- A release takes records from the head and leaves the rest of the queue (R77). -/
theorem releaseRecords_rcq : ∀ (n : Nat) (s : State),
    (releaseRecords n s).rcq = { s.rcq with records := s.rcq.records.drop n }
  | 0, _ => rfl
  | n + 1, s => by
    unfold releaseRecords
    split
    · next h => rw [h, List.drop_nil, ← h]
    · next r left h =>
      rw [releaseRecords_rcq n, releaseHead, releaseEntry_rcq]
      simp [h]

/-- The queue after n records from the head have gone and the cursor has followed them (R77). -/
def afterRelease (n : Nat) (q : Rcq) : Rcq :=
  { q with
    records := q.records.drop n
    cursorSeq := if fromHead q q.cursorSeq < n then headSeq { q with records := q.records.drop n }
      else q.cursorSeq }

theorem release_rcq (n : Nat) (s : State) :
    (cursorForward s.rcq n (releaseRecords n s)).rcq = afterRelease n s.rcq := by
  unfold cursorForward afterRelease
  split <;> simp [releaseRecords_rcq]

theorem QueueShape.seqs_drop (h : QueueShape q) {n : Nat} (_ : n ≤ held q) (k : Nat) (r : Record)
    (hr : (q.records.drop n)[k]? = some r) :
    r.seq = q.nextSeq - BitVec.ofNat 32 ((q.records.drop n).length - k) := by
  rw [List.getElem?_drop] at hr
  rw [h.seqs _ r hr, List.length_drop]
  unfold held at *
  congr 2
  omega

/-- The new head lies n records behind the old one. -/
theorem QueueShape.headSeq_drop (h : QueueShape q) {n : Nat} (hn : n ≤ held q) :
    headSeq { q with records := q.records.drop n } = headSeq q + BitVec.ofNat 32 n := by
  have hnew : headSeq { q with records := q.records.drop n } =
      q.nextSeq - BitVec.ofNat 32 (held q - n) := by
    unfold headSeq
    split
    · next hr =>
      have : held q ≤ n := by simpa [held] using hr
      simp [Nat.sub_eq_zero_of_le this]
    · next r left hr =>
      have := h.seqs_drop hn 0 r (by rw [show q.records.drop n = r :: left from hr]; rfl)
      simpa [held] using this
  have hsum : held q = held q - n + n := by omega
  rw [hnew, h.headSeq_eq]
  generalize held q - n = k at hsum ⊢
  rw [hsum, BitVec.ofNat_add]
  simp [sub_add_eq_sub_sub]

theorem QueueShape.fromHead_drop (h : QueueShape q) {n : Nat} (hn : n ≤ held q) {x : BitVec 32}
    (hx : n ≤ fromHead q x) : fromHead { q with records := q.records.drop n } x = fromHead q x - n := by
  have hbound := h.bound
  have hstep : (headSeq q + BitVec.ofNat 32 n - headSeq q).toNat = n := by
    rw [add_sub_cancel_left, BitVec.toNat_ofNat]
    exact Nat.mod_eq_of_lt (by omega)
  unfold fromHead
  rw [h.headSeq_drop hn, distance_rebase (n := headSeq q) (by rw [hstep]; exact hx), hstep]

theorem QueueShape.afterRelease (h : QueueShape q) {n : Nat} (hn : n ≤ fromHead q q.limitSeq) :
    QueueShape (afterRelease n q) := by
  have hbound := h.bound
  have hlimit := h.limit
  have hcursor := h.cursor
  have hheld : n ≤ held q := hn.trans hlimit
  have hlen : (q.records.drop n).length = held q - n := List.length_drop
  have hfrom : fromHead (Machine.afterRelease n q) q.limitSeq = fromHead q q.limitSeq - n :=
    h.fromHead_drop hheld hn
  refine ⟨?_, h.seqs_drop hheld, ?_, ?_⟩
  · show (q.records.drop n).length ≤ 1024
    omega
  · show fromHead (Machine.afterRelease n q) (if _ then _ else _) ≤ fromHead (Machine.afterRelease n q) q.limitSeq
    split
    · show (headSeq { q with records := q.records.drop n } -
        headSeq { q with records := q.records.drop n }).toNat ≤ _
      simp
    · next hge =>
      rw [hfrom]
      have := h.fromHead_drop hheld (Nat.not_lt.1 hge)
      show fromHead { q with records := q.records.drop n } _ ≤ _
      omega
  · show fromHead (Machine.afterRelease n q) q.limitSeq ≤ (q.records.drop n).length
    omega

theorem releaseCount_le (q : Rcq) (seq : BitVec 32) : releaseCount q seq ≤ fromHead q q.limitSeq := by
  unfold releaseCount
  split
  · exact Nat.zero_le _
  · exact Nat.min_le_right _ _

/-! ## Every step -/

theorem queueShape_carried : Carried (fun s => QueueShape s.rcq) where
  shi _ h := h
  shore _ h := h
  freeBuffers _ h := h
  uplinkSeq _ h := h
  rtu _ h := h
  znu _ h := h
  psv _ h := h
  psl _ h := h
  cvu _ h := h
  cfu _ h := h
  ntu _ h := h
  clocks _ h := h
  pending _ h := h
  bulkReview h := by simpa using h
  drs _ h := h
  owedWork i h := owedWork_queueShape i h
  charge i n d h := charge_queueShape i n d h
  blockPacket _ _ h := by simpa using h
  attach _ h := by simpa using h
  servingCell _ _ h := h

theorem removeSettled_rcq (i : Nat) (s : State) : (removeSettled i s).rcq = s.rcq := by
  unfold removeSettled
  split <;> simp

theorem restartEntry_queueShape (i : Nat) (x : RestartRun) (h : QueueShape s.rcq) :
    QueueShape (restartEntry i x s).rcq := by
  have hreview := review_queueShape i h
  have hclose : QueueShape (restartClose i (review i s)).1.rcq := by
    unfold restartClose
    split
    · exact closeRecord_queueShape i _ hreview
    · exact hreview
  simpa [restartEntry] using hclose

theorem queueShape_kept : Kept (fun s => QueueShape s.rcq) where
  toOuter := queueShape_carried.toOuter
  powerOn _ _ := queueShape_powerOn
  uplinkArrival := queueShape_carried.uplinkArrival
  downlinkArrival := queueShape_carried.downlinkArrival
  takeUplink := queueShape_carried.takeUplink
  gapExpiry := queueShape_carried.gapExpiry
  intervalExpiry _ h := by simpa [intervalExpiry] using h
  sweepVisit s h := by
    unfold sweepVisit
    dsimp only
    split
    · exact h
    · exact owedWork_queueShape _ h
  visitorAdd _ _ h := leaves_need fun _ => leaves_need fun _ => leaves_need fun _ => leaves_need fun _ =>
    leaves_ite trivial <| leaves_named fun _ => leaves_named fun _ => leaves_named fun _ =>
    leaves_ite trivial <| leaves_ite trivial h
  visitorRemove _ s h := leaves_needEntry fun i => by
    split
    · trivial
    · trivial
    · show QueueShape (becomeFree i s).rcq
      simpa using h
    · show QueueShape (removeSettled i (removeClosing i s).1).rcq
      rw [removeSettled_rcq]
      exact closeRecord_queueShape i _ h
  visitorCredit _ _ h := leaves_need fun _ => leaves_need fun _ => leaves_named fun _ =>
    leaves_onVisitor fun _ => h
  visitorAllow _ _ h := leaves_need fun _ => leaves_need fun _ => leaves_named fun _ =>
    leaves_onVisitor fun _ => h
  visitorSettle _ _ h := leaves_needEntry fun _ => leaves_onVisitor fun _ => h
  partnerLoad _ _ h := leaves_need fun _ => leaves_ite trivial <| leaves_named fun _ => by
    show QueueShape (partnerReview _ _).rcq
    simpa using h
  recordDrain _ _ h := leaves_need fun _ => (h.rewound _).issued (drained_length_le _ (h.rewound _))
  recordRelease _ s h := leaves_need fun _ => leaves_ite trivial <| by
    show QueueShape (cursorForward s.rcq _ (releaseRecords _ s)).rcq
    rw [release_rcq]
    exact h.afterRelease (releaseCount_le _ _)
  voyageStart _ _ h := h
  recordInterval _ _ h := leaves_need fun _ => h
  recordFlush _ s h := by
    show QueueShape (bulkClose _).rcq
    simpa using h
  reseqConfig := queueShape_carried.reseqConfig
  restartPackets _ h := h
  restartEntry i x _ _ h := restartEntry_queueShape i x h
  intervalTimer _ _ h := h
  tickTimers _ h := h

/-- Settles O7: with the conservation of charges, which every step keeps, no record names a FREE entry; the rest of the
law is the shape of the queue, which only the close of a record, a drain and a release change. -/
theorem stepKeepsRecordQueueLaw : Obligations.StepKeepsRecordQueueLaw := fun _ _ hc hq ht =>
  .of_shape (step_keepsLaws hc ht).charges (queueShape_kept.step hq.shape ht)

end Sys2Proof.Machine
end

section
/-! SUPPORT. The sweep engine runs exactly while a mark is set (R89): the marks that stand in the entries, what each
operation on an entry does to them, and that every step keeps the law. -/

namespace Sys2Proof.Machine

variable {s t : State} {i : Nat} {v : Visitor}

/-! ## Marks -/

/-- Whether an entry carries a mark. -/
def marked (v : Visitor) : Bool := v.reviewMark || v.closeMark

theorem marksOwed_iff (h : TableLaw s) : marksOwed s = true ↔ ∃ i, marked (s.visitor i) = true := by
  unfold marksOwed
  rw [List.any_eq_true]
  constructor
  · rintro ⟨e, he, hm⟩
    exact ⟨e.1, by rw [visitor_of_mem h he]; exact hm⟩
  · rintro ⟨i, hm⟩
    have hne : s.visitor i ≠ Visitor.freeEntry := fun e => by rw [e] at hm; cases hm
    exact ⟨_, mem_of_tableRead_ne hne, hm⟩

theorem marksOwed_congr (hs : TableLaw s) (ht : TableLaw t)
    (h : ∀ i, marked (t.visitor i) = marked (s.visitor i)) : marksOwed t = marksOwed s := by
  rw [Bool.eq_iff_iff, marksOwed_iff hs, marksOwed_iff ht]
  simp only [h]

/-! ## The law without the engine -/

/-- The table is in canonical form, and no FREE entry carries a mark. -/
structure MarksLaw (s : State) : Prop where
  table : TableLaw s
  unmarked : ∀ i : Nat, (s.visitor i).lifecycle = .free → marked (s.visitor i) = false

theorem MarksLaw.of_entries (h : MarksLaw s) (e : t.vtb.entries = s.vtb.entries) : MarksLaw t := by
  have hvis : ∀ i, t.visitor i = s.visitor i := fun i => by rw [State.visitor, e]; rfl
  refine ⟨by rw [TableLaw, e]; exact h.table, fun i => ?_⟩
  rw [hvis]
  exact h.unmarked i

theorem MarksLaw.write (h : MarksLaw s) (hv : v.lifecycle = .free → marked v = false) :
    MarksLaw (s.setVisitor i v) := by
  refine ⟨setVisitor_wf h.table i v, fun j => ?_⟩
  by_cases hj : j = i
  · subst hj
    rw [setVisitor_visitor_of_wf h.table]
    exact hv
  · rw [setVisitor_visitor_ne s v hj]
    exact h.unmarked j

/-- A write that moves neither the lifecycle nor a mark. -/
theorem MarksLaw.edit (h : MarksLaw s) (hl : v.lifecycle = (s.visitor i).lifecycle)
    (hm : marked v = marked (s.visitor i)) : MarksLaw (s.setVisitor i v) :=
  h.write fun hv => by rw [hm]; exact h.unmarked i (hl ▸ hv)

theorem MarksLaw.map {f : Visitor → Visitor} (h : MarksLaw s) (hf : ∀ v, ledger (f v) = ledger v)
    (hfree : ∀ v, v.lifecycle = .free → f v = v) (hl : ∀ v, (f v).lifecycle = v.lifecycle)
    (he : t.vtb.entries = tableMap f s.vtb.entries) : MarksLaw t := by
  have hvis : ∀ i, t.visitor i = f (s.visitor i) := fun i => by
    rw [State.visitor, he]
    exact tableRead_map _ f (hfree _ rfl) i _
  have htable : TableLaw t := by
    rw [TableLaw, he]
    exact tableMap_wf _ f (fun x hx e => hx ((eq_freeEntry_iff_of_ledger hf x).1 e)) _ h.table
  refine ⟨htable, fun i hi => ?_⟩
  rw [hvis, hl] at hi
  rw [hvis, hfree _ hi]
  exact h.unmarked i hi

/-- A close moves no mark. -/
theorem closeRecord_same (i : Nat) (why : CloseReason) (s : State) (j : Nat) :
    ((closeRecord i why s).1.visitor j).lifecycle = (s.visitor j).lifecycle ∧
      marked ((closeRecord i why s).1.visitor j) = marked (s.visitor j) := by
  by_cases hj : j = i
  · subst hj
    cases hr : (s.visitor j).openRecord with
    | none => simp [closeRecord, hr]
    | some r =>
      obtain ⟨a, n, hv⟩ := closeRecord_visitor why hr
      rw [hv]
      exact ⟨rfl, rfl⟩
  · rw [closeRecord_visitor_ne why s hj]
    exact ⟨rfl, rfl⟩

theorem MarksLaw.close (h : MarksLaw s) (i : Nat) (why : CloseReason) :
    MarksLaw (closeRecord i why s).1 := by
  refine ⟨closeRecord_table why h.table, fun j hj => ?_⟩
  obtain ⟨hl, hm⟩ := closeRecord_same i why s j
  rw [hm]
  exact h.unmarked j (hl ▸ hj)

theorem MarksLaw.review (h : MarksLaw s) (i : Nat) : MarksLaw (review i s) := by
  obtain ⟨t, hv, -, hreview⟩ := review_eq i s
  have ht : MarksLaw t := (h.edit (i := i)
    (v := { s.visitor i with roaming := roamingNow s (s.visitor i).partner }) rfl rfl).of_entries
    (by rw [hv])
  rcases hreview with e | ⟨why, e⟩ <;> rw [e]
  · exact ht
  · exact ht.close i why

theorem MarksLaw.owedClose (h : MarksLaw s) (i : Nat) : MarksLaw (owedClose i s) := by
  unfold Machine.owedClose
  split
  · refine (h.close i _).write fun hv => ?_
    have := (h.close i (sweepCloseReason s.rse.closeReason)).unmarked i hv
    simp_all [marked]
  · exact h

theorem MarksLaw.owedReview (h : MarksLaw s) (i : Nat) : MarksLaw (owedReview i s) := by
  unfold Machine.owedReview
  split
  · refine (h.review i).write fun hv => ?_
    have := (h.review i).unmarked i hv
    simp_all [marked]
  · exact h

/-! ## The law with the engine -/

/-- Besides, the engine runs exactly while a mark is set. -/
structure MarksRun (s : State) : Prop extends MarksLaw s where
  engine : EngineLaw s

theorem MarksLaw.refresh (h : MarksLaw s) : MarksRun (refreshEngine s) :=
  ⟨h.of_entries (by simp), refreshEngine_running s⟩

theorem MarksRun.of_same (h : MarksRun s) (e : t.vtb.entries = s.vtb.entries)
    (hr : t.rse.running = s.rse.running) : MarksRun t := by
  refine ⟨h.toMarksLaw.of_entries e, ?_⟩
  unfold EngineLaw marksOwed
  rw [hr, e]
  exact h.engine

/-- Where no mark moves, the law stays with the engine. -/
theorem MarksRun.of_marks (h : MarksRun s) (ht : MarksLaw t)
    (hm : ∀ i, marked (t.visitor i) = marked (s.visitor i)) (hr : t.rse = s.rse) : MarksRun t := by
  refine ⟨ht, ?_⟩
  unfold EngineLaw
  rw [hr, marksOwed_congr h.table ht.table hm]
  exact h.engine

/-- A write that moves no mark. -/
theorem MarksRun.write (h : MarksRun s) (hv : v.lifecycle = .free → marked v = false)
    (hm : marked v = marked (s.visitor i)) : MarksRun (s.setVisitor i v) := by
  refine h.of_marks (h.toMarksLaw.write hv) (fun j => ?_) rfl
  by_cases hj : j = i
  · subst hj
    rw [setVisitor_visitor_of_wf h.table, hm]
  · rw [setVisitor_visitor_ne s v hj]

theorem MarksRun.edit (h : MarksRun s) (hl : v.lifecycle = (s.visitor i).lifecycle)
    (hm : marked v = marked (s.visitor i)) : MarksRun (s.setVisitor i v) :=
  h.write (fun hv => by rw [hm]; exact h.unmarked i (hl ▸ hv)) hm

theorem MarksRun.close (h : MarksRun s) (i : Nat) (why : CloseReason) :
    MarksRun (closeRecord i why s).1 :=
  h.of_marks (h.toMarksLaw.close i why) (fun j => (closeRecord_same i why s j).2) (by simp)

theorem MarksRun.owedWork (h : MarksRun s) (i : Nat) : MarksRun (owedWork i s) := by
  unfold Machine.owedWork
  split
  · exact ((h.toMarksLaw.owedClose i).owedReview i).refresh
  · exact h

theorem MarksRun.blockPacket (h : MarksRun s) (i : Nat) (why : Refused) : MarksRun (blockPacket i why s) :=
  (h.edit (i := i) (v := { s.visitor i with
    blocked := saturateInc Config.max32 (s.visitor i).blocked }) rfl rfl).of_same
    (countRefusal_entries _ _) rfl

theorem MarksRun.charge (h : MarksRun s) (i n : Nat) (d : Direction) : MarksRun (charge i n d s).1 := by
  have hclose : MarksRun (volumeClose i n d s) := by
    unfold volumeClose
    split
    · exact h
    · split
      · exact h.close i _
      · exact h
  unfold Machine.charge
  dsimp only
  split
  · exact hclose
  · next r _ =>
    split
    · exact hclose.blockPacket i _
    · exact (hclose.edit (i := i)
        (v := visitorCharged ((volumeClose i n d s).visitor i) r n d) rfl rfl).of_same
        (by rw [writeCharge_vtb]) (by simp)

theorem MarksLaw.attach (h : MarksLaw s) (i : Nat) : MarksRun (attach i s) := by
  have hwrite : MarksLaw (s.setVisitor i { s.visitor i with
      roaming := roamingNow s (s.visitor i).partner, lifecycle := .attached, reviewMark := false,
      openRecord := some (openNow s { s.visitor i with
        roaming := roamingNow s (s.visitor i).partner }) }) := h.write fun hv => by cases hv
  exact MarksLaw.refresh (hwrite.of_entries rfl)

theorem MarksLaw.becomeFree (h : MarksLaw s) (i : Nat) : MarksRun (becomeFree i s) :=
  MarksLaw.refresh ((h.write (i := i) (v := Visitor.freeEntry) fun _ => rfl).of_entries (by simp))

/-! ## Bulk marks -/

theorem MarksLaw.bulkReview (h : MarksLaw s) : MarksRun (bulkReview s) :=
  MarksLaw.refresh <| h.map ledger_setReviewMark (fun v hv => by simp [setReviewMark, hv])
    (fun v => by unfold setReviewMark; split <;> rfl) rfl

theorem MarksLaw.partnerReview (h : MarksLaw s) (n : Fin 128) : MarksRun (partnerReview n s) :=
  MarksLaw.refresh <| h.map (ledger_setPartnerReviewMark n)
    (fun v hv => by simp [setPartnerReviewMark, hv])
    (fun v => by unfold setPartnerReviewMark; split <;> rfl) rfl

theorem MarksLaw.bulkClose (h : MarksLaw s) : MarksRun (bulkClose s) :=
  MarksLaw.refresh <| h.map ledger_setCloseMark (fun v hv => by simp [setCloseMark, hv, lifecycleOpen])
    (fun v => by unfold setCloseMark; split <;> rfl) rfl

theorem MarksRun.voyage (h : MarksRun s) :
    MarksRun (s.setVtb { s.vtb with entries := tableMap voyageVisitor s.vtb.entries }) := by
  refine h.of_marks (h.toMarksLaw.map ledger_voyageVisitor (fun v hv => by simp [voyageVisitor, hv])
    (fun v => by unfold voyageVisitor; split <;> rfl) rfl) (fun i => ?_) rfl
  show marked (tableRead _ (tableMap voyageVisitor s.vtb.entries) i) = _
  rw [tableRead_map _ _ rfl]
  unfold voyageVisitor
  split <;> rfl

/-! ## Removal, release and the restart's pass -/

theorem MarksLaw.removeSettled (h : MarksLaw s) (i : Nat) : MarksRun (removeSettled i s) := by
  unfold Machine.removeSettled
  split
  · exact h.becomeFree i
  · exact h.refresh

theorem MarksLaw.removeClosing (h : MarksLaw s) (i : Nat) : MarksLaw (removeClosing i s).1 := by
  have hclear : MarksLaw (clearMarks i s) := h.write fun _ => rfl
  exact (hclear.close i .removed).write fun hv => by cases hv

theorem MarksRun.releaseHead (h : MarksRun s) (r : Record) (left : List Record) :
    MarksRun (releaseHead r left s) := by
  have hset : MarksRun (s.setRcq { s.rcq with records := left }) := h.of_same rfl rfl
  have hedit := hset.edit (i := r.index) (v := { s.visitor r.index with
    settled := (s.visitor r.index).settled + recordCharge r.contents }) rfl rfl
  unfold Machine.releaseHead releaseEntry
  dsimp only
  split
  · exact hedit.toMarksLaw.becomeFree _
  · exact hedit

theorem MarksRun.releaseRecords : ∀ (n : Nat) {s : State}, MarksRun s → MarksRun (releaseRecords n s)
  | 0, _, h => h
  | n + 1, s, h => by
    unfold Machine.releaseRecords
    split
    · exact h
    · exact MarksRun.releaseRecords n (h.releaseHead _ _)

theorem MarksLaw.restartEntry (h : MarksLaw s) (i : Nat) (x : RestartRun) :
    MarksRun (restartEntry i x s) := by
  have hclose : MarksLaw (restartClose i (Machine.review i s)).1 := by
    unfold restartClose
    split
    · exact (h.review i).close i _
    · exact h.review i
  have hclear : MarksLaw (clearMarks i (restartClose i (Machine.review i s)).1) :=
    hclose.write fun _ => rfl
  exact hclear.refresh.of_same rfl rfl

/-! ## Every step -/

theorem marksRun_carried : Carried MarksRun where
  shi _ h := h.of_same rfl rfl
  shore _ h := h.of_same rfl rfl
  freeBuffers _ h := h.of_same rfl rfl
  uplinkSeq _ h := h.of_same rfl rfl
  rtu _ h := h.of_same rfl rfl
  znu _ h := h.of_same rfl rfl
  psv _ h := h.of_same rfl rfl
  psl _ h := h.of_same rfl rfl
  cvu _ h := h.of_same rfl rfl
  cfu _ h := h.of_same rfl rfl
  ntu _ h := h.of_same rfl rfl
  clocks _ h := h.of_same rfl rfl
  pending _ h := h.of_same rfl rfl
  bulkReview h := h.toMarksLaw.bulkReview
  drs _ h := h.of_same rfl rfl
  owedWork i h := h.owedWork i
  charge i n d h := h.charge i n d
  blockPacket i why h := h.blockPacket i why
  attach i h := h.toMarksLaw.attach i
  servingCell _ _ h := h.edit rfl rfl

theorem visitorAddBody_marksRun : BodyHas MarksRun visitorAddBody := fun _ _ h =>
  leaves_need fun _ => leaves_need fun _ => leaves_need fun _ => leaves_need fun _ =>
  leaves_ite trivial <| leaves_named fun i => leaves_named fun _ => leaves_named fun _ =>
  leaves_dite (fun _ => trivial) fun hfree => leaves_ite trivial <|
    h.write (fun hv => by cases hv) (h.unmarked i.val (not_not.1 hfree)).symm

theorem marksRun_kept : Kept MarksRun where
  toOuter := marksRun_carried.toOuter
  powerOn _ _ := ⟨⟨reset_table_wf, fun _ _ => rfl⟩, rfl⟩
  uplinkArrival := marksRun_carried.uplinkArrival
  downlinkArrival := marksRun_carried.downlinkArrival
  takeUplink := marksRun_carried.takeUplink
  gapExpiry := marksRun_carried.gapExpiry
  intervalExpiry s h :=
    (MarksLaw.bulkClose (s := s.setRse { s.rse with closeReason := reasonAtExpiry s })
      (h.toMarksLaw.of_entries rfl)).of_same rfl rfl
  sweepVisit s h := by
    unfold sweepVisit
    dsimp only
    split
    · exact h.of_same rfl rfl
    · exact (h.owedWork _).of_same rfl rfl
  visitorAdd := visitorAddBody_marksRun
  visitorRemove _ s h := leaves_needEntry fun i => by
    split
    · trivial
    · trivial
    · exact h.toMarksLaw.becomeFree i
    · exact (h.toMarksLaw.removeClosing i).removeSettled i
  visitorCredit _ _ h := leaves_need fun _ => leaves_need fun _ => leaves_named fun _ =>
    leaves_ite trivial (h.edit rfl rfl)
  visitorAllow _ _ h := leaves_need fun _ => leaves_need fun _ => leaves_named fun _ =>
    leaves_ite trivial (h.edit rfl rfl)
  visitorSettle _ _ h := leaves_needEntry fun _ => leaves_ite trivial (h.edit rfl rfl)
  partnerLoad _ _ h := leaves_need fun _ => leaves_ite trivial <| leaves_named fun n => by
    rw [leaves_done]
    refine MarksLaw.partnerReview (h.toMarksLaw.of_entries ?_) n
    rfl
  recordDrain _ _ h := leaves_need fun _ => h.of_same rfl rfl
  recordRelease _ s h := leaves_need fun _ => leaves_ite trivial <| by
    show MarksRun (cursorForward _ _ _)
    unfold cursorForward
    split
    · exact (h.releaseRecords _).of_same rfl rfl
    · exact h.releaseRecords _
  voyageStart _ _ h := h.voyage
  recordInterval _ _ h := leaves_need fun _ => h.of_same rfl rfl
  recordFlush _ _ h := MarksLaw.bulkClose (h.toMarksLaw.of_entries rfl)
  reseqConfig := marksRun_carried.reseqConfig
  restartPackets _ h := h.of_same rfl rfl
  restartEntry i x _ _ h := h.toMarksLaw.restartEntry i x
  intervalTimer _ _ h := h.of_same rfl rfl
  tickTimers _ h := h.of_same rfl rfl

/-- Under the conservation of charges a FREE entry holds the FREE value of every field, so it carries no mark. -/
theorem ChargeLaw.marksLaw (h : ChargeLaw s) : MarksLaw s := by
  obtain ⟨htable, hentries⟩ := h
  refine ⟨htable, fun i hi => ?_⟩
  obtain ⟨⟨hfree, -, -⟩, -⟩ := hentries i
  rw [hfree hi]
  rfl

/-- Settles O11: an operation that sets or clears a mark brings the engine up to date at its end, and the others move
neither a mark nor the engine. -/
theorem stepKeepsEngineLaw : Obligations.StepKeepsEngineLaw := fun _ _ hc he ht =>
  (marksRun_kept.step ⟨hc.marksLaw, he⟩ ht).engine

end Sys2Proof.Machine
end


section
/-! SUPPORT. The layouts read back: the field that a run of bytes writes is the number it writes, so a REQUEST frame,
a DATA frame and a usage record give back what they carry (12_frame_and_record_formats.md). -/

namespace Sys2Proof.Machine

/-! ## Numbers as bytes -/

@[simp] theorem beBytes_length (n : Nat) : ∀ v : Nat, (beBytes n v).length = n := by
  induction n with
  | zero => intro v; rfl
  | succ n ih => intro v; simp [beBytes, ih]

theorem beNat_append_byte (bs : List Byte) (b : Byte) : beNat (bs ++ [b]) = beNat bs * 256 + b.toNat := by
  simp [beNat]

/-- The bytes of a number spell it, as far as they reach. -/
theorem beNat_beBytes (n : Nat) : ∀ v : Nat, beNat (beBytes n v) = v % 256 ^ n := by
  induction n with
  | zero => intro v; simp [beBytes, beNat, Nat.mod_one]
  | succ n ih =>
    intro v
    rw [beBytes, beNat_append_byte, ih, Nat.pow_succ, Nat.mul_comm (256 ^ n) 256, Nat.mod_mul]
    simp
    omega

/-! ## Fields of a layout -/

/-- The field at the front of a layout. -/
theorem field_head (n v : Nat) (rest : List Byte) : field (beBytes n v ++ rest) 0 n = v % 256 ^ n := by
  rw [field, slice, List.drop_zero, List.take_left' (beBytes_length n v), beNat_beBytes]

/-- A field that lies behind the front run of a layout. -/
theorem field_skip (m v : Nat) (rest : List Byte) {off : Nat} (n : Nat) (h : m ≤ off) :
    field (beBytes m v ++ rest) off n = field rest (off - m) n := by
  rw [field, field, slice, slice, List.drop_append, beBytes_length,
    List.drop_eq_nil_of_le (by rw [beBytes_length]; exact h), List.nil_append]

theorem drop_beBytes (m v : Nat) (rest : List Byte) {off : Nat} (h : m ≤ off) :
    (beBytes m v ++ rest).drop off = rest.drop (off - m) := by
  rw [List.drop_append, beBytes_length, List.drop_eq_nil_of_le (by rw [beBytes_length]; exact h),
    List.nil_append]

/-- A word written in as many bytes as it needs is read back. -/
theorem ofNat_toNat_mod {w : Nat} (x : BitVec w) (m : Nat) (h : 2 ^ w ∣ m) :
    BitVec.ofNat w (x.toNat % m) = x := by
  apply BitVec.eq_of_toNat_eq
  rw [BitVec.toNat_ofNat, Nat.mod_mod_of_dvd _ h, Nat.mod_eq_of_lt x.isLt]

theorem toInt_ofNat_ofInt {v : Int} (h1 : -2 ^ 63 ≤ v) (h2 : v < 2 ^ 63) :
    (BitVec.ofNat 64 ((BitVec.ofInt 64 v).toNat % 256 ^ 8)).toInt = v := by
  rw [ofNat_toNat_mod _ _ (by decide), BitVec.toInt_ofInt, Int.bmod_eq_of_le (by omega) (by omega)]

/-! ## Control frames and tunnel frames -/

theorem itemBytes_append (i : Item) (rest : List Byte) : itemBytes i ++ rest =
    beBytes 16 i.name.toNat ++ (beBytes 8 (BitVec.ofInt 64 i.value).toNat ++ rest) := by
  rw [itemBytes, List.append_assoc]

/-- The items of a request are read back in their order. -/
theorem parseItems_itemBytes : ∀ items : List Item,
    (∀ i ∈ items, -2 ^ 63 ≤ i.value ∧ i.value < 2 ^ 63) →
    parseItems items.length (items.flatMap itemBytes) = items
  | [], _ => rfl
  | i :: items, h => by
    obtain ⟨h1, h2⟩ := h i (by simp)
    have hn : BitVec.ofNat 128 (field (itemBytes i ++ items.flatMap itemBytes) 0 16) = i.name := by
      rw [itemBytes_append, field_head, ofNat_toNat_mod _ _ (by decide)]
    have hv : (BitVec.ofNat 64 (field (itemBytes i ++ items.flatMap itemBytes) 16 8)).toInt = i.value := by
      rw [itemBytes_append, field_skip _ _ _ _ (by omega), field_head, toInt_ofNat_ofInt h1 h2]
    have hd : (itemBytes i ++ items.flatMap itemBytes).drop 24 = items.flatMap itemBytes := by
      rw [itemBytes_append, drop_beBytes _ _ _ (by omega), drop_beBytes _ _ _ (by omega)]; rfl
    rw [List.flatMap_cons, List.length_cons, parseItems, hn, hv, hd,
      parseItems_itemBytes items (fun j hj => h j (by simp [hj]))]

theorem parseRequest_controlBytes (tag : BitVec 16) (name : Name) (items : List Item)
    (hl : items.length < 65536) (hv : ∀ i ∈ items, -2 ^ 63 ≤ i.value ∧ i.value < 2 ^ 63) :
    parseRequest (controlBytes 0x20 0 tag.toNat 0 name items) =
      { name := name, tag := tag, items := items } := by
  have hd : (controlBytes 0x20 0 tag.toNat 0 name items).drop 24 = items.flatMap itemBytes := by
    simp [controlBytes, drop_beBytes]
  have hlen : field (controlBytes 0x20 0 tag.toNat 0 name items) 6 2 = items.length := by
    simp only [controlBytes, List.append_assoc]
    simp [field_skip, field_head]
    omega
  have htag : field (controlBytes 0x20 0 tag.toNat 0 name items) 2 2 = tag.toNat % 256 ^ 2 := by
    simp only [controlBytes, List.append_assoc]
    simp [field_skip, field_head]
  have hname : field (controlBytes 0x20 0 tag.toNat 0 name items) 8 16 = name.toNat % 256 ^ 16 := by
    simp only [controlBytes, List.append_assoc]
    simp [field_skip, field_head]
  rw [parseRequest, hd, hlen, htag, hname, parseItems_itemBytes items hv,
    ofNat_toNat_mod _ _ (by decide), ofNat_toNat_mod _ _ (by decide)]

theorem dataPacket_dataBytes (p : Path) (seq : BitVec 16) (e : UplinkEntry)
    (hp : e.packet.length = e.length) (hl : e.length < 65536) :
    dataPacket p (dataBytes p seq e) =
      { seq := seq, packet := e.packet, tag := e.tag, length := e.length, port := p } := by
  have hd : (dataBytes p seq e).drop 16 = e.packet := by simp [dataBytes, tunnelHeader, drop_beBytes]
  have hlen : field (dataBytes p seq e) 14 2 = e.length := by
    simp only [dataBytes, tunnelHeader, List.append_assoc]
    simp [field_skip, field_head]
    omega
  have hseq : field (dataBytes p seq e) 2 2 = seq.toNat % 256 ^ 2 := by
    simp only [dataBytes, tunnelHeader, List.append_assoc]
    simp [field_skip, field_head]
  have htag : field (dataBytes p seq e) 4 4 = e.tag.toNat % 256 ^ 4 := by
    simp only [dataBytes, tunnelHeader, List.append_assoc]
    simp [field_skip, field_head]
  rw [dataPacket, hlen, slice, hd, hseq, htag, ofNat_toNat_mod _ _ (by decide),
    ofNat_toNat_mod _ _ (by decide), List.take_of_length_le (by omega)]

/-- Settles O12: each field of a header is read back at its offset, and the items one after another. -/
theorem framesReadBack : Obligations.FramesReadBack :=
  ⟨parseRequest_controlBytes, dataPacket_dataBytes⟩

/-! ## Usage records -/

theorem closeReasonCode_lt (x : CloseReason) : closeReasonCode x < 256 ^ 1 := by cases x <;> decide

theorem zoneByte_lt : ∀ z : Option Zone, zoneByte z < 256 ^ 1
  | none => by decide
  | some .default => by decide
  | some (.entry k) => by have := k.isLt; show k.val < 256 ^ 1; omega

theorem pathByte_lt : ∀ p : Option Path, pathByte p < 256 ^ 1
  | none => by decide
  | some p => by cases p <;> decide

theorem roamingCode_lt (x : Roaming) : roamingCode x < 256 ^ 1 := by cases x <;> decide

theorem bankCode_lt (x : Bank) : bankCode x < 256 ^ 1 := by cases x <;> decide

/-- A row of runs of bytes, each a width and a number. -/
def layout (fs : List (Nat × Nat)) : List Byte := fs.flatMap (fun x => beBytes x.1 x.2)

theorem layout_length (fs : List (Nat × Nat)) : (layout fs).length = (fs.map Prod.fst).sum := by
  simp [layout, List.length_flatMap]

/-- The k-th run of a layout is the field at the sum of the widths before it. -/
theorem field_layout : ∀ (fs : List (Nat × Nat)) (k n v : Nat), fs[k]? = some (n, v) → v < 256 ^ n →
    field (layout fs) ((fs.take k).map Prod.fst).sum n = v
  | [], _, _, _, h, _ => by simp at h
  | (m, x) :: fs, 0, n, v, h, hv => by
    obtain ⟨rfl, rfl⟩ : m = n ∧ x = v := by simpa using h
    show field (beBytes m x ++ layout fs) 0 m = x
    rw [field_head, Nat.mod_eq_of_lt hv]
  | (m, x) :: fs, k + 1, n, v, h, hv => by
    have ih := field_layout fs k n v (by simpa using h) hv
    show field (beBytes m x ++ layout fs) _ n = v
    rw [List.take_succ_cons, List.map_cons, List.sum_cons, field_skip _ _ _ _ (by omega),
      Nat.add_sub_cancel_left, ih]

/-- The fields of a usage record, each with its width, and the four zero bytes. -/
def recordFields (r : Record) : List (Nat × Nat) :=
  [(4, r.seq.toNat), (4, r.tag.toNat), (2, r.index), (1, closeReasonCode r.reason),
   (1, zoneByte r.contents.zone), (1, r.contents.region.val), (1, pathByte r.contents.path),
   (1, roamingCode r.contents.roaming), (1, bankCode r.contents.bank), (2, r.contents.priceEff),
   (2, r.contents.fee), (4, r.contents.openTime.toNat), (4, r.closeTime.toNat), (4, r.contents.bytesUp),
   (4, r.contents.bytesDown), (4, r.contents.freeBytes), (4, r.contents.pktsUp),
   (4, r.contents.pktsDown), (6, r.contents.feeCharged), (6, r.contents.charge), (4, 0)]

theorem recordBytes_eq_layout (r : Record) : recordBytes r = layout (recordFields r) := by
  unfold recordBytes layout recordFields
  simp only [List.flatMap_cons, List.flatMap_nil, List.append_nil, List.append_assoc]

/-- The k-th field of a usage record is read back at its offset. -/
theorem field_recordBytes (r : Record) (k : Nat) {off n v : Nat} (h : (recordFields r)[k]? = some (n, v))
    (hoff : (((recordFields r).take k).map Prod.fst).sum = off) (hv : v < 256 ^ n) :
    field (recordBytes r) off n = v := by
  rw [recordBytes_eq_layout, ← hoff, field_layout _ _ _ _ h hv]

theorem toNat_lt_four_bytes (x : BitVec 32) : x.toNat < 256 ^ 4 := by
  have := x.isLt
  omega

/-- Settles O13: the layout is a row of runs of bytes, and each field is the run at its place. -/
theorem usageRecordLayout : Obligations.UsageRecordLayout := by
  unfold Obligations.UsageRecordLayout
  intro r hindex hup hdown hfree hpup hpdown hprice hfee hfeec hcharge
  have hlength : (recordBytes r).length = 64 := by rw [recordBytes_eq_layout, layout_length]; simp [recordFields]
  have hregion : r.contents.region.val < 256 ^ 1 := by have := r.contents.region.isLt; omega
  refine ⟨hlength, field_recordBytes r 0 rfl (by simp [recordFields]) (toNat_lt_four_bytes _),
    field_recordBytes r 1 rfl (by simp [recordFields]) (toNat_lt_four_bytes _), field_recordBytes r 2 rfl (by simp [recordFields]) (by omega),
    field_recordBytes r 3 rfl (by simp [recordFields]) (closeReasonCode_lt _),
    field_recordBytes r 4 rfl (by simp [recordFields]) (zoneByte_lt _), field_recordBytes r 5 rfl (by simp [recordFields]) hregion,
    field_recordBytes r 6 rfl (by simp [recordFields]) (pathByte_lt _), field_recordBytes r 7 rfl (by simp [recordFields]) (roamingCode_lt _),
    field_recordBytes r 8 rfl (by simp [recordFields]) (bankCode_lt _), field_recordBytes r 9 rfl (by simp [recordFields]) (by omega),
    field_recordBytes r 10 rfl (by simp [recordFields]) (by omega), field_recordBytes r 11 rfl (by simp [recordFields]) (toNat_lt_four_bytes _),
    field_recordBytes r 12 rfl (by simp [recordFields]) (toNat_lt_four_bytes _), field_recordBytes r 13 rfl (by simp [recordFields]) (by omega),
    field_recordBytes r 14 rfl (by simp [recordFields]) (by omega), field_recordBytes r 15 rfl (by simp [recordFields]) (by omega),
    field_recordBytes r 16 rfl (by simp [recordFields]) (by omega), field_recordBytes r 17 rfl (by simp [recordFields]) (by omega),
    field_recordBytes r 18 rfl (by simp [recordFields]) (by omega), field_recordBytes r 19 rfl (by simp [recordFields]) (by omega),
    field_recordBytes r 20 rfl (by simp [recordFields]) (by omega)⟩

end Sys2Proof.Machine
end


section
/-! SUPPORT. Time, resets and the plain timers: the tick, the expiries that are due, power-on reset, the transmitters'
end of a frame, and the supervision timers that make a frame due. -/

namespace Sys2Proof.Machine

/-! ## Transmitters that become free -/

/-- Settles O22: each of the four commands is one write of its port. -/
theorem transmissionEndsAndShipLink : Obligations.TransmissionEndsAndShipLink :=
  fun _ _ => ⟨rfl, rfl, rfl, rfl⟩

/-! ## Supervision timers -/

theorem timerRunning_of_ne {t : Timer} (h : t ≠ none) : timerRunning t = true :=
  Option.isSome_iff_ne_none.2 h

theorem any_eq_false_of_forall {α : Type} {f : α → Bool} {l : List α} (h : ∀ d ∈ l, f d = false) :
    l.any f = false := by simpa using h

/-- With none due yet, a PATH_OPEN becomes due (R114). -/
theorem pathOpenDue_modPath_of_none {p : Path} {s : State} (f : Psv → Psv)
    (h : ∀ d ∈ (s.port p).due, isPathOpen d = false) :
    pathOpenDue p (s.modPath p f) = makeDue p .pathOpen (s.modPath p f) := by
  have hn : ((s.modPath p f).port p).due.any isPathOpen = false := any_eq_false_of_forall h
  rw [pathOpenDue, hn]; rfl

/-- Settles O24: each timer's expiry writes the supervisor, and makes a PATH_OPEN due where none is. -/
theorem bringUpTimersExpire : Obligations.BringUpTimersExpire := by
  unfold Obligations.BringUpTimersExpire
  intro p s hdue
  refine ⟨fun ht => ?_, fun ht hc => ?_, fun ht hc => ?_⟩
  · show execSettleTimerExpiry p s = _
    rw [execSettleTimerExpiry, if_pos (timerRunning_of_ne ht), settleExpiry, pathOpenDue_modPath_of_none _ hdue]
    rfl
  · show execOpenTimerExpiry p s = _
    rw [execOpenTimerExpiry, if_pos (timerRunning_of_ne ht), openExpiry,
      if_pos (show (s.path p).openCount < Config.openAttempts from hc),
      pathOpenDue_modPath_of_none _ hdue]
    rfl
  · show execOpenTimerExpiry p s = _
    rw [execOpenTimerExpiry, if_pos (timerRunning_of_ne ht), openExpiry,
      if_neg (show ¬(s.path p).openCount < Config.openAttempts from Nat.not_lt.2 hc)]
    rfl

theorem surveyProbeDue_next {p : Path} {run : SurveyRun} {s : State} (hs : (s.path p).survey = .inFlight run)
    (hr : run.spacing ≠ none) : exec (.surveyProbeDue p) s = .next (surveyNext p run s) := by
  show execSurveyProbeDue p s = _
  simp only [execSurveyProbeDue, hs, timerRunning_of_ne hr, if_true]

theorem probeTimerExpiry_next {p : Path} {s : State} (h : (s.path p).probeTimer ≠ none) :
    exec (.probeTimerExpiry p) s = .next (probeExpiry p s) := if_pos (timerRunning_of_ne h)

theorem idleTimerExpiry_next {p : Path} {s : State} (h : (s.path p).idleTimer ≠ none) :
    exec (.idleTimerExpiry p) s = .next (idleExpiry p s) := if_pos (timerRunning_of_ne h)

/-- Settles O25: by the branches of the three expiries. -/
theorem supervisionTimersMakeFramesDue : Obligations.SupervisionTimersMakeFramesDue := by
  unfold Obligations.SupervisionTimersMakeFramesDue
  intro p s
  refine ⟨fun run hs hr hc => ?_, fun ht h => ?_, fun ht h1 h2 => ?_, fun ht ha hd => ?_, fun ht h => ?_⟩
  · rw [surveyProbeDue_next hs hr, surveyNext, dif_pos hc]
    rfl
  · have hn : ¬((s.path p).state = .test ∧ (s.port p).carrier = false) := by
      rintro ⟨h1, h2⟩
      simp [h1, h2] at h
    rw [probeTimerExpiry_next ht, probeExpiry, if_neg hn]
    rfl
  · rw [probeTimerExpiry_next ht, probeExpiry, if_pos ⟨h1, h2⟩]
    rfl
  · rw [idleTimerExpiry_next ht, idleExpiry, if_pos ⟨ha, any_eq_false_of_forall hd⟩]
    rfl
  · have hn : ¬(s.psl.active = some p ∧ (s.port p).due.any isFill = false) := by
      rintro ⟨h1, h2⟩
      rcases h with h | ⟨d, hd, hf⟩
      · exact h h1
      · exact absurd (List.any_eq_true.2 ⟨d, hd, hf⟩) (by simp [h2])
    rw [idleTimerExpiry_next ht, idleExpiry, if_neg hn]
    rfl

/-! ## Power-on reset -/

/-- Settles O2: the reset writes every block and keeps the commands, the link and the carriers. -/
theorem powerOnResetGivesResetState : Obligations.PowerOnResetGivesResetState := by
  unfold Obligations.PowerOnResetGivesResetState
  intro s
  refine ⟨powerOnFrom s, rfl, rfl, rfl, rfl, rfl, rfl, rfl, rfl, rfl, rfl, rfl, rfl, rfl, rfl, rfl, rfl, rfl,
    fun p => ?_⟩
  cases p <;> rfl

theorem reset_visitor (i : Nat) : State.reset.visitor i = Visitor.freeEntry := rfl

theorem reset_path (p : Path) : State.reset.path p = Psv.powerOn := by cases p <;> rfl

theorem reset_port (p : Path) : State.reset.port p = ShorePort.powerOn := by cases p <;> rfl

theorem reset_cell (c : Cell) : State.reset.cell c = CellHead.powerOn := Vector.getElem_replicate ..

theorem reset_bufferLaw : BufferLaw State.reset := by
  refine ⟨rfl, fun p _ => ?_, fun p => ?_, Nat.zero_le _⟩
  · rw [reset_port]; rfl
  · rw [reset_port]; exact Nat.zero_le _

theorem reset_activeLaw : ActiveLaw State.reset := by
  refine ⟨fun p h => ?_, fun p _ => ?_, fun p => ?_⟩
  · cases h
  · rw [reset_port]; rfl
  · rw [reset_path]; exact ⟨fun h => absurd rfl h, fun h => absurd rfl h⟩

theorem reset_coverageLaw : CoverageLaw State.reset := fun c => by
  rw [reset_cell]
  exact ⟨rfl, Nat.le_refl _, Nat.zero_le _, fun _ => rfl⟩

theorem reset_recordQueueLaw : RecordQueueLaw State.reset := by
  refine ⟨Nat.zero_le _, fun k r h => ?_, fun r h => ?_, Nat.le_refl _, Nat.le_refl _⟩
  · simp [State.reset, Rcq.powerOn] at h
  · cases h

theorem reset_chargeLaw : ChargeLaw State.reset := by
  refine ⟨reset_table_wf, fun i => ?_⟩
  rw [reset_visitor]
  refine ⟨⟨fun _ => rfl, rfl, fun _ => rfl⟩, fun r h => ?_, rfl⟩
  cases h

theorem reset_recordsLaw : RecordsLaw State.reset := by
  refine ⟨reset_table_wf, fun i h => ?_, fun i h => ?_⟩
  · rw [reset_visitor] at h; cases h
  · rw [reset_visitor] at h; cases h

theorem reset_resequencerLaw : ResequencerLaw State.reset := by
  refine ⟨.nil, fun x h => ?_, fun _ => ⟨rfl, rfl⟩, rfl⟩
  cases h

theorem reset_tagLaw : TagLaw State.reset :=
  ⟨fun i h => absurd (congrArg Visitor.lifecycle (reset_visitor i)) h,
    fun i _ h => absurd (congrArg Visitor.lifecycle (reset_visitor i)) h⟩

/-- Settles O3: with every entry FREE, every queue empty and every timer but three stopped, each law is plain. -/
theorem resetObeysTheLaws : Obligations.ResetObeysTheLaws :=
  ⟨reset_bufferLaw, reset_activeLaw, reset_coverageLaw, reset_recordQueueLaw, reset_chargeLaw,
    reset_recordsLaw, reset_resequencerLaw, rfl, reset_tagLaw⟩

/-! ## The tick -/

theorem tickTimers_path (s : State) (p : Path) : (tickTimers s).path p = tickPath (s.path p) :=
  perPath_get_tabulate _ p

theorem tickTimers_cell (s : State) (c : Cell) : (tickTimers s).cell c = tickCell (s.cell c) :=
  Vector.getElem_ofFn ..

theorem tickTimers_drain (s : State) (p : Path) :
    (tickTimers s).psl.drain.get p = timerTick (s.psl.drain.get p) := perPath_get_tabulate _ p

theorem mem_whenDue {t : Timer} {i j : Instr} : i ∈ whenDue t j ↔ i = j ∧ t = some 0 := by
  unfold whenDue timerDue
  split <;> simp_all

theorem mem_pathAll (p : Path) : p ∈ Path.all := by cases p <;> decide

theorem mem_overdue {v : Psv} {id : BitVec 8} : id ∈ overdue v ↔
    (∃ x ∈ v.outstanding, x.left = 0 ∧ x.id = id) ∨
      ∃ (run : SurveyRun) (sent : BitVec 32), v.survey = .inFlight run ∧ .inFlight id sent 0 ∈ run.entries := by
  unfold overdue surveySet
  rw [List.mem_append, List.mem_map, List.mem_filterMap]
  refine or_congr (by simp [and_assoc]) ⟨?_, ?_⟩
  · rintro ⟨e, he, hid⟩
    cases hv : v.survey with
    | idle => simp [hv] at he
    | deferred => simp [hv] at he
    | inFlight run =>
      rw [hv] at he
      cases e with
      | inFlight j sent left =>
        cases left with
        | zero => exact ⟨run, sent, rfl, by rw [← Option.some.inj hid]; exact he⟩
        | succ n => cases hid
      | _ => cases hid
  · rintro ⟨run, sent, hv, he⟩
    exact ⟨.inFlight id sent 0, by rw [hv]; exact he, rfl⟩

theorem spacingOf_eq {v : Psv} {t : Timer} (ht : t ≠ none) :
    spacingOf v = t ↔ ∃ run : SurveyRun, v.survey = .inFlight run ∧ run.spacing = t := by
  unfold spacingOf
  cases v.survey <;> simp [ht.symm]

/-- The expiries that are due on a path. -/
theorem mem_duePath {s : State} {p : Path} {i : Instr} : i ∈ duePath s p ↔
    i = .settleTimerExpiry p ∧ (s.path p).settleTimer = some 0 ∨
    i = .openTimerExpiry p ∧ (s.path p).openTimer = some 0 ∨
    i = .probeTimerExpiry p ∧ (s.path p).probeTimer = some 0 ∨
    i = .idleTimerExpiry p ∧ (s.path p).idleTimer = some 0 ∨
    i = .recoveryGapEnd p ∧ (s.path p).gap = some 0 ∨
    (∃ run : SurveyRun, (s.path p).survey = .inFlight run ∧
      (i = .surveyProbeDue p ∧ run.spacing = some 0 ∨
        ∃ (id : BitVec 8) (sent : BitVec 32), i = .probeDeadlineExpiry p id ∧
          .inFlight id sent 0 ∈ run.entries)) ∨
    ∃ x ∈ (s.path p).outstanding, i = .probeDeadlineExpiry p x.id ∧ x.left = 0 := by
  have hspacing : (i = .surveyProbeDue p ∧ spacingOf (s.path p) = some 0) ↔
      ∃ run : SurveyRun, (s.path p).survey = .inFlight run ∧ i = .surveyProbeDue p ∧ run.spacing = some 0 := by
    rw [spacingOf_eq (by simp)]
    tauto
  have hdeadline : i ∈ (overdue (s.path p)).map (fun id => Instr.probeDeadlineExpiry p id) ↔
      (∃ x ∈ (s.path p).outstanding, i = .probeDeadlineExpiry p x.id ∧ x.left = 0) ∨
      ∃ run : SurveyRun, (s.path p).survey = .inFlight run ∧ ∃ (id : BitVec 8) (sent : BitVec 32),
        i = .probeDeadlineExpiry p id ∧ .inFlight id sent 0 ∈ run.entries := by
    simp only [List.mem_map, mem_overdue]
    constructor
    · rintro ⟨id, ⟨x, hx, h0, rfl⟩ | ⟨run, sent, hv, he⟩, rfl⟩
      · exact .inl ⟨x, hx, rfl, h0⟩
      · exact .inr ⟨run, hv, id, sent, rfl, he⟩
    · rintro (⟨x, hx, rfl, h0⟩ | ⟨run, hv, id, sent, rfl, he⟩)
      · exact ⟨x.id, .inl ⟨x, hx, h0, rfl⟩, rfl⟩
      · exact ⟨id, .inr ⟨run, sent, hv, he⟩, rfl⟩
  simp only [duePath, List.mem_append, mem_whenDue, hspacing, hdeadline, and_or_left, exists_or,
    or_assoc, or_comm, or_left_comm]

/-- Every expiry that is due, block by block. -/
theorem mem_dueCommands {s : State} {i : Instr} : i ∈ dueCommands s ↔
    (∃ p : Path, i ∈ duePath s p ∨ i = .drainWindowExpiry p ∧ s.psl.drain.get p = some 0) ∨
    (∃ c : Cell, i = .heartbeatTimerExpiry c.val ∧ (s.cell c).hbTimer = some 0) ∨
    i = .holdDownExpiry ∧ s.psl.holdDown = some 0 ∨
    i = .periodTimerExpiry ∧ s.psl.period = some 0 ∨
    i = .gapTimerExpiry ∧ s.drs.gapTimer = some 0 ∨
    i = .grantBoundary ∧ s.cvu.grantTimer = some 0 ∨
    i = .positionTimerExpiry ∧ s.znu.positionTimer = some 0 ∨
    i = .intervalExpiry ∧ s.rse.intervalTimer = some 0 ∨
    i = .voyageClockRise ∧ 1000 ≤ s.cfu.clockTicks := by
  have hclock : i ∈ (if 1000 ≤ s.cfu.clockTicks then [Instr.voyageClockRise] else []) ↔
      i = .voyageClockRise ∧ 1000 ≤ s.cfu.clockTicks := by split <;> simp_all
  simp only [dueCommands, List.mem_append, List.mem_flatMap, mem_whenDue, hclock, mem_pathAll, true_and,
    cellsAll, List.mem_finRange, exists_or, or_assoc, or_comm, or_left_comm]

theorem fire_of_not_due {s : State} {i : Instr} (h : i ∉ dueCommands s) : fire s i = s := if_neg h

theorem fire_of_due {s t : State} {i : Instr} (h : i ∈ dueCommands s) (he : exec i s = .next t) :
    fire s i = t := by
  rw [fire, if_pos h, he]

theorem timeStep_of_lt {s : State} (h : s.clocks.tenth < 9) : timeStep s =
    s.setClocks { stamp := s.clocks.stamp + 1, tenth := s.clocks.tenth + 1 } := if_pos h

theorem timeStep_of_le {s : State} (h : 9 ≤ s.clocks.tenth) : timeStep s =
    tick (s.setClocks { stamp := s.clocks.stamp + 1, tenth := 0 }) := if_neg (Nat.not_lt.2 h)

theorem step_of_cons {c : Instr} {rest : List Instr} {s : State} (h : s.pending = c :: rest) :
    step s = exec c (s.setPending rest) := by rw [step, h]

theorem step_of_nil {s : State} (h : s.pending = []) : step s = .next (timeStep s) := by rw [step, h]

/-- What a tick does to a survey in flight, entry by entry. -/
theorem tickSurvey_inFlight (run : SurveyRun) {f : SurveyEntry → SurveyEntry} (hf : ∀ e, tickEntry e = f e) :
    tickSurvey (.inFlight run) = .inFlight { run with
      spacing := run.spacing.map (· - 1), entries := run.entries.map f } := by
  rw [← funext hf]; rfl

/-- Settles O1: the step's two forms, the tick's timers and the expiries due after it. -/
theorem stepRunsTheFrontCommand : Obligations.StepRunsTheFrontCommand := by
  unfold Obligations.StepRunsTheFrontCommand
  refine ⟨fun c rest s h => step_of_cons h, fun s h => ⟨fun h9 => ?_, fun h9 => ?_⟩, fun s => ?_,
    fun i s => ⟨fun t hi he => fire_of_due hi he, fire_of_not_due, ?_⟩⟩
  · rw [step_of_nil h, timeStep_of_lt h9]
  · rw [step_of_nil h, timeStep_of_le h9]
  · refine ⟨_, rfl, rfl, fun p => ?_, fun p run h => ?_, fun p h => ?_, tickTimers_drain s, rfl, rfl,
      tickTimers_cell s, rfl, rfl, rfl, rfl, rfl⟩
    · rw [tickTimers_path]; rfl
    · rw [tickTimers_path]
      exact (congrArg tickSurvey h).trans (tickSurvey_inFlight run (fun e => by cases e <;> rfl))
    · rw [tickTimers_path, tickPath]
      rcases h with h | h <;> rw [h] <;> rfl
  · rw [mem_dueCommands]
    simp only [mem_duePath]
    refine or_congr (exists_congr fun p => ?_) Iff.rfl
    simp only [or_comm, or_left_comm]

end Sys2Proof.Machine
end


section
/-! SUPPORT. Requests read and answered: items that are present, a request taken from a shore port, and the requests on
visitors, on the clock, on status and on notices whose whole next state is written out. -/

namespace Sys2Proof.Machine

/-! ## Items that are present -/

theorem need_some {v : Option Int} {x : Int} (h : v = some x) (k : Int → Answer) : need v k = k x := by
  rw [h]; rfl

theorem named_some {α : Type} {x : Option α} {a : α} (h : x = some a) (k : α → Answer) :
    named x k = k a := by rw [h]; rfl

theorem pathNamed_num (p : Path) : pathNamed (p.num : Int) = some p := by cases p <;> rfl

/-- A request that names its entry by INDEX is answered by what it does to that entry. -/
theorem needEntry_of_index {r : Request} {i : Fin 4096} (h : arg "INDEX" r = some (i.val : Int))
    (k : Nat → Answer) : needEntry r k = k i.val := by
  rw [needEntry, need_some h, named_some (indexBelow_val (n := Config.visitorCount) i)]

/-- A request that names its path is answered by what it does to that path. -/
theorem needPath_of_path {r : Request} {p : Path} (h : arg "PATH" r = some (p.num : Int))
    (k : Path → Answer) : needPath r k = k p := by
  rw [needPath, need_some h, named_some (pathNamed_num p)]

theorem onVisitor_of_not_free {i : Nat} {s : State} (h : (s.visitor i).lifecycle ≠ .free)
    (k : Visitor → Answer) : onVisitor i s k = k (s.visitor i) := if_neg h

/-- A clamp of the range 0..top is the number it stands for. -/
theorem clamp_toNat_eq {n : Nat} {hi v : Int} (h : (n : Int) = max 0 (min hi v)) :
    (clamp 0 hi v).toNat = n := by
  unfold clamp; omega

/-! ## The taking of a request from any port -/

/-- A request that its port may send and its body executes. -/
theorem request_done {port : Port} {name : String} {taken : List Name} {body : Request → State → Answer}
    {s t : State} {r : Request} {adjusted : Bool} {items : List Item} {records : List Record}
    (hhead : headRequest s port = some r) (hname : r.name = nm name) (hfree : portFree s port = true)
    (hcheck : generalCheck port r = none)
    (hb : body r (dropRequest port s) = .done adjusted items records t) :
    request port name taken body s = .next (placeReply port
      { name := r.name, tag := r.tag, status := .done, adjusted := adjusted,
        ignoredItem := setsAside taken r, items := items, records := records } t) := by
  rw [request, takeNamed_of_head hhead (by simp [hname]) hfree]
  simp [execute, answer, hcheck, hb, settle, examined]

/-- A request of a name that both ports may send passes the general checks. -/
theorem generalCheck_of_shared {port : Port} {r : Request} (hs : r.name ∈ shoreNames)
    (hn : r.name ∈ requestNames) (hr : hasRepeat (r.items.map (fun i => i.name)) = false) :
    generalCheck port r = none := by
  simp [generalCheck, hs, hn, hr]

/-- The Origin check answers a request that a shore port may not send, before its name and items are read (R170). -/
theorem generalCheck_of_foreign {p : Path} {r : Request} (h : r.name ∉ shoreNames) :
    generalCheck (.shore p) r = some (.refused .notPermitted) := by
  simp [generalCheck, h]

/-- A command that takes a request a shore port may not send answers it NOT_PERMITTED (R170, R172). -/
theorem takeNamed_execute_foreign {p : Path} {r : Request} {s : State} {fits : Name → Bool}
    {taken : List Name} {body : Request → State → Answer} (hhead : headRequest s (.shore p) = some r)
    (hfree : portFree s (.shore p) = true) (hfits : fits r.name = true) (h : r.name ∉ shoreNames) :
    takeNamed (.shore p) fits (execute (.shore p) taken body) s =
      placeReply (.shore p) (plainReply r .notPermitted false) (dropRequest (.shore p) s) := by
  rw [takeNamed_of_head hhead hfits hfree, execute, answer, generalCheck_of_foreign h]
  rfl

theorem takeNamed_restart_foreign {p : Path} {r : Request} {s : State}
    (hhead : headRequest s (.shore p) = some r) (hfree : portFree s (.shore p) = true)
    (hname : r.name = nm "PART_RESTART") (h : r.name ∉ shoreNames) :
    exec (.partRestart (.shore p)) s = .next (placeReply (.shore p) (plainReply r .notPermitted false)
      (dropRequest (.shore p) s)) := by
  show execPartRestart (.shore p) s = _
  rw [execPartRestart, takeNamed_of_head hhead (by simp [hname]) hfree, restartTaken,
    generalCheck_of_foreign h]
  rfl

/-! ## Unknown and foreign requests -/

/-- The ship-only requests, PART_RESTART apart, are taken and executed alike. -/
theorem shipOnly_exec (p : Path) : ∀ e ∈ shipOnly p, e = ("PART_RESTART", .partRestart (.shore p)) ∨
    ∃ (taken : List Name) (body : Request → State → Answer), ∀ s : State, exec e.2 s =
      .next (takeNamed (.shore p) (fun x => x == nm e.1) (execute (.shore p) taken body) s) := by
  simp only [shipOnly, List.forall_mem_cons, List.not_mem_nil, false_implies, implies_true, and_true]
  refine ⟨?_, ?_, ?_, ?_, ?_, ?_, ?_, ?_, ?_, ?_, ?_, ?_, ?_, ?_, ?_, ?_, ?_, ?_, ?_, ?_, ?_, ?_, ?_, ?_,
    ?_, ?_, ?_, ?_, ?_, ?_, ?_, ?_, .inl trivial⟩
  all_goals exact .inr ⟨_, _, fun _ => rfl⟩

/-- No ship-only request is one that a shore port may send. -/
theorem shipOnly_name_not_mem (p : Path) : ∀ e ∈ shipOnly p, nm e.1 ∉ shoreNames := by
  have h : ∀ x ∈ (shipOnly p).map Prod.fst, nm x ∉ shoreNames := by
    show ∀ x ∈ (shipOnly .sp0).map Prod.fst, nm x ∉ shoreNames
    decide
  exact fun e he => h e.1 (List.mem_map_of_mem he)

theorem shoreNames_subset {x : Name} (h : x ∈ shoreNames) : x ∈ requestNames := by
  simp only [shoreNames, List.mem_cons, List.not_mem_nil, or_false] at h
  rcases h with rfl | rfl <;> simp [requestNames]

/-- The Name check answers a request whose name is not one of the manual's (R170). -/
theorem unknownRequest_ship {r : Request} {s : State} (hhead : headRequest s .ship = some r)
    (hfree : portFree s .ship = true) (hn : r.name ∉ requestNames) :
    exec (.unknownRequest .ship) s = .next (placeReply .ship (plainReply r .malformed false)
      (recordFault .ship r .unknownRequest (dropRequest .ship s))) := by
  have hcheck : generalCheck .ship r = some (.malformed .unknownRequest) := by simp [generalCheck, hn]
  show execUnknownRequest .ship s = _
  rw [execUnknownRequest, takeNamed_of_head hhead (by simp [hn]) hfree, execute, answer, hcheck]
  rfl

/-- Settles O58: the Name check answers at the ship port, the Origin check at a shore port. -/
theorem unknownAndForeignRequests : Obligations.UnknownAndForeignRequests := by
  unfold Obligations.UnknownAndForeignRequests
  intro r s
  refine ⟨fun hhead hfree hn => ?unknown, fun p hhead hfree => ⟨fun e he hname => ?foreign, fun hn => ?both⟩⟩
  case unknown =>
    refine ⟨_, unknownRequest_ship hhead hfree hn, rfl, rfl, raiseNotice_sets .controlFault _,
      fun x hx => ?_, rfl⟩
    exact raiseNotice_other _ hx
  case foreign =>
    have hshore : r.name ∉ shoreNames := hname ▸ shipOnly_name_not_mem p e he
    rcases shipOnly_exec p e he with rfl | ⟨taken, body, hexec⟩
    · exact takeNamed_restart_foreign hhead hfree hname hshore
    · rw [hexec, takeNamed_execute_foreign hhead hfree (by simp [hname]) hshore]
  case both =>
    show execUnknownRequest (.shore p) s = _
    rw [execUnknownRequest, takeNamed_execute_foreign hhead hfree (by simp [hn])
      (fun h => hn (shoreNames_subset h))]

/-! ## Credit standing -/

/-- Settles O48: by the branches of each rule. -/
theorem creditStandingRule : Obligations.CreditStandingRule := by
  unfold Obligations.CreditStandingRule
  refine ⟨fun lowMark charged => ⟨rfl, fun l => ⟨fun h => ?_, fun h1 h2 => ?_, fun h1 h2 => ?_⟩⟩,
    ⟨rfl, rfl, fun v hv => ?_, fun n hn => ?_, fun n hn => ?_⟩,
    fun l => ⟨rfl, fun v hv => ?_, fun n => ?_⟩⟩
  · exact if_pos h
  · simp [creditOf, Nat.not_le.2 h1, h2]
  · simp [creditOf, Nat.not_le.2 h1, Nat.not_le.2 h2]
  · rw [limitFrom, if_neg (by omega)]
    simp only [clamp, Config.max32, Option.some.injEq]
    omega
  · rw [limitFrom, if_neg (by omega)]
    simp only [clamp, Config.max32, Option.some.injEq]
    omega
  · rw [limitFrom, if_neg (by omega)]
    simp only [clamp, Config.max32, Option.some.injEq]
    omega
  · simp only [lowMarkFrom, clamp]
    omega
  · simp only [lowMarkFrom, lowMarkTop, clamp, Config.max32]
    omega

/-! ## Requests on visitors -/

theorem ofInt_toNat (t : Tag) : BitVec.ofInt 32 (t.toNat : Int) = t := by
  rw [BitVec.ofInt_natCast, BitVec.ofNat_toNat, BitVec.setWidth_eq]

/-- A VISITOR_ADD whose required items are valid is answered by the state of its entry and its tag (R22). -/
theorem visitorAddBody_of_items {i : Fin 4096} {tag : Tag} {a : Fin 128} {b : Fin 8} {r : Request} {s : State}
    (hindex : arg "INDEX" r = some (i.val : Int)) (htag : arg "TAG" r = some (tag.toNat : Int))
    (hzero : tag ≠ 0) (hpartner : arg "PARTNER" r = some (a.val : Int))
    (hplan : arg "PLAN" r = some (b.val : Int)) :
    visitorAddBody r s = if (s.visitor i.val).lifecycle ≠ .free then .refused .refusedState
      else if (lookupTag s tag).isSome then .refused .duplicate else visitorFill r i.val tag a b s := by
  have hrange : ¬((tag.toNat : Int) < 1 ∨ (Config.max32 : Int) < tag.toNat) := by
    have h1 : tag.toNat ≠ 0 := fun e => hzero (BitVec.eq_of_toNat_eq e)
    have h2 := tag.isLt
    simp only [Config.max32]
    omega
  rw [visitorAddBody, need_some hindex, need_some htag, need_some hpartner, need_some hplan,
    visitorAddChecked, if_neg hrange, named_some (indexBelow_val (n := Config.visitorCount) i),
    named_some (indexBelow_val a), named_some (indexBelow_val b), ofInt_toNat]

/-- Settles O44: the body's checks in their order, then the entry it fills. -/
theorem visitorAddProvisionsOrRefuses : Obligations.VisitorAddProvisionsOrRefuses := by
  unfold Obligations.VisitorAddProvisionsOrRefuses
  intro i tag a b r s hhead hindex htag hzero hpartner hplan
  have hname : nm "VISITOR_ADD" ∈ requestNames := by simp [requestNames]
  have hbody : visitorAddBody r (dropRequest .ship s) =
      if (s.visitor i.val).lifecycle ≠ .free then .refused .refusedState
      else if (lookupTag s tag).isSome then .refused .duplicate
      else visitorFill r i.val tag a b (dropRequest .ship s) :=
    visitorAddBody_of_items hindex htag hzero hpartner hplan
  refine ⟨fun hl ht => ?fill, fun hl => ?state, fun hl ht => ?duplicate⟩
  case fill =>
    rw [if_neg (not_not.2 hl), if_neg (by simp [ht])] at hbody
    refine ⟨_, clampedNat 0 Config.max32 0 (arg "ALLOWANCE" r), _, _, rfl, rfl, fun h => by rw [h]; rfl,
      fun v h => ?_, fun h1 h2 h3 => ?_, request_ship_done hhead hname hbody⟩
    · rw [h]
      simp only [clampedNat, clamp, Config.max32]
      omega
    · rw [h1, h2, h3]; rfl
  case state =>
    exact request_ship_refused hhead hname (by decide) (hbody.trans (if_pos hl))
  case duplicate =>
    refine request_ship_refused hhead hname (by decide) (hbody.trans ?_)
    rw [if_neg (not_not.2 hl), if_pos (Option.isSome_iff_ne_none.2 ht)]

/-- Settles O46: the general checks pass for a read from either kind of port, and the body only reads. -/
theorem visitorReadReports : Obligations.VisitorReadReports := by
  unfold Obligations.VisitorReadReports
  intro i port r s hhead hname hrepeat hfree hindex htag
  have hcheck : generalCheck port r = none :=
    generalCheck_of_shared (by simp [hname, shoreNames]) (by simp [hname, requestNames]) hrepeat
  have hbody : visitorReadBody r (dropRequest port s) =
      .done false (visitorItems (dropRequest port s) i.val) [] (dropRequest port s) := by
    rw [visitorReadBody, hindex, htag]
    exact named_some (indexBelow_val (n := Config.visitorCount) i) _
  have hitems : visitorItems (dropRequest port s) i.val = visitorItems s i.val := by cases port <;> rfl
  rw [hitems] at hbody
  exact request_done hhead hname hfree hcheck hbody

/-- Settles O47: each of the three requests writes one entry. -/
theorem visitorFiguresAreSet : Obligations.VisitorFiguresAreSet := by
  unfold Obligations.VisitorFiguresAreSet
  intro i r s hindex hl
  have hentry := indexBelow_val (n := Config.visitorCount) i
  have hl' : ((dropRequest .ship s).visitor i.val).lifecycle ≠ .free := hl
  refine ⟨fun v l k hhead hlimit hl1 hk => ?credit, fun v n hhead hallow hn => ?allow, fun hhead => ?settle⟩
  case credit =>
    subst hl1 hk
    refine request_ship_done hhead (by simp [requestNames]) ?_
    rw [visitorCreditBody, need_some hindex, need_some hlimit, named_some hentry, onVisitor_of_not_free hl']
    rfl
  case allow =>
    obtain rfl : n = (clamp 0 Config.max32 v).toNat := (clamp_toNat_eq hn).symm
    refine request_ship_done hhead (by simp [requestNames]) ?_
    rw [visitorAllowBody, need_some hindex, need_some hallow, named_some hentry, onVisitor_of_not_free hl']
    rfl
  case settle =>
    refine request_ship_done hhead (by simp [requestNames]) ?_
    rw [visitorSettleBody, needEntry_of_index hindex, onVisitor_of_not_free hl']
    rfl

/-! ## The voyage clock -/

/-- Settles O55: the rise is one write, and CLOCK_SET writes the clamped number. -/
theorem voyageClockRisesAndIsSet : Obligations.VoyageClockRisesAndIsSet := by
  unfold Obligations.VoyageClockRisesAndIsSet
  refine fun r s => ⟨rfl, fun v c hhead hv hc => ?_⟩
  have hclock : BitVec.ofInt 32 (clamp 0 Config.max32 v) = c := by
    rw [show clamp 0 Config.max32 v = (c.toNat : Int) from hc.symm, ofInt_toNat]
  refine request_ship_done hhead (by simp [requestNames]) ?_
  rw [clockSetBody, need_some hv, hclock]
  rfl

/-! ## Status -/

theorem clearLatches_path (s : State) (p : Path) :
    (clearLatches s).path p = { s.path p with lostLatch := false } := perPath_get_tabulate _ p

/-- Settles O56: the report is that of the state before the latches are cleared. -/
theorem statusReadAndLostLatch : Obligations.StatusReadAndLostLatch := by
  unfold Obligations.StatusReadAndLostLatch
  intro g port r s hhead hfree hname hrepeat hgroup
  have hcheck : generalCheck port r = none :=
    generalCheck_of_shared (by simp [hname, shoreNames]) (by simp [hname, requestNames]) hrepeat
  have hsummary : summaryItems (dropRequest port s) = summaryItems s := by cases port <;> rfl
  have hbody : statusReadBody port r (dropRequest port s) =
      .done false (summaryItems s ++ groupItems (dropRequest port s) g.val) []
        (statusLeaves port (dropRequest port s)) := by
    rw [statusReadBody, hgroup, named_some (indexBelow_val g), hsummary]
  refine ⟨_, request_done hhead hname hfree hcheck hbody, ?_, ?_, ?_⟩
  · cases port <;> rfl
  · rintro rfl p
    exact clearLatches_path _ p
  · intro hp
    cases port with
    | ship => exact absurd rfl hp
    | shore p => rfl

end Sys2Proof.Machine
end


section
/-! SUPPORT. Requests on tables, paths, settings, cell heads and notices: what each writes and what it leaves. -/

namespace Sys2Proof.Machine

/-! ## Clamped items -/

/-- A present item of a natural range is brought to the nearest end of it. -/
theorem clampedNat_some {lo hi old : Nat} (v : Int) :
    (clampedNat lo hi old (some v) : Int) = max (lo : Int) (min (hi : Int) v) := by
  simp only [clampedNat, clamp]
  omega

theorem clampedNat_eq_getD (lo hi old : Nat) (v : Option Int) : clampedNat lo hi old v =
    (v.map (fun x => (max (lo : Int) (min (hi : Int) x)).toNat)).getD old := by cases v <;> rfl

/-! ## Tariffs, plans and partners -/

/-- Bulk marking changes no more of an entry than its mark. -/
theorem bulkReview_visitor_rest (s : State) (i : Nat) :
    { (bulkReview s).visitor i with reviewMark := false } = { s.visitor i with reviewMark := false } := by
  rw [bulkReview_visitor, setReviewMark_rest]

theorem bankChecked_of_standby {v : Option Int} {active : Bank} (k : Answer)
    (h : v = none ∨ v = some (bankCode active.other : Int)) : bankChecked v active k = k := by
  rcases h with rfl | rfl
  · rfl
  · cases active <;> rfl

theorem bankRows_bankWritten_self (u : Rtu) (k : Bank) (a : Region) (b : Fin 8) (x : TariffRow) :
    bankRows (bankWritten u k a b x) k = rowWritten (bankRows u k) a b x := by cases k <;> rfl

theorem bankRows_bankWritten_other (u : Rtu) (k : Bank) (a : Region) (b : Fin 8) (x : TariffRow) :
    bankRows (bankWritten u k.other a b x) k = bankRows u k := by cases k <;> rfl

theorem bankWritten_rest (u : Rtu) (k : Bank) (a : Region) (b : Fin 8) (x : TariffRow) :
    (bankWritten u k a b x).activeBank = u.activeBank ∧ (bankWritten u k a b x).plans = u.plans ∧
      (bankWritten u k a b x).partners = u.partners := by cases k <;> exact ⟨rfl, rfl, rfl⟩

theorem rowWritten_self (t : TariffBank) (a : Region) (b : Fin 8) (x : TariffRow) :
    (rowWritten t a b x)[a][b] = x := by simp [rowWritten]

theorem rowWritten_ne (t : TariffBank) {a c : Region} {b d : Fin 8} (x : TariffRow) (h : (c, d) ≠ (a, b)) :
    (rowWritten t a b x)[c][d] = t[c][d] := by
  unfold rowWritten
  by_cases hc : c = a
  · subst hc
    have hd : b.val ≠ d.val := fun e => h (by rw [Fin.ext e])
    simp [hd]
  · have hv : a.val ≠ c.val := fun e => hc (Fin.ext e.symm)
    simp [hv]

theorem tariffLoadBody_of_items {r : Request} {s : State} {a : Region} {b : Fin 8} {price fee : Int}
    (hbank : arg "BANK" r = none ∨ arg "BANK" r = some (bankCode s.rtu.activeBank.other : Int))
    (hregion : arg "REGION" r = some (a.val : Int)) (hplan : arg "PLAN" r = some (b.val : Int))
    (hprice : arg "PRICE" r = some price) (hfee : arg "FEE" r = some fee) :
    tariffLoadBody r s = tariffWrite a b price fee s := by
  rw [tariffLoadBody, need_some hregion, need_some hplan, need_some hprice, need_some hfee,
    named_some (indexBelow_val a), named_some (indexBelow_val b), bankChecked_of_standby _ hbank]

/-- Settles O49: the row written is one of the standby bank, and the switch marks every visitor. -/
theorem tariffLoadAndSwitch : Obligations.TariffLoadAndSwitch := by
  unfold Obligations.TariffLoadAndSwitch
  intro r s hbank
  refine ⟨fun a b price fee hhead hregion hplan hprice hfee => ?load, fun hhead => ?switch⟩
  case load =>
    have hbody := tariffLoadBody_of_items (s := dropRequest .ship s) hbank hregion hplan hprice hfee
    obtain ⟨hactive, hplans, hpartners⟩ := bankWritten_rest s.rtu s.rtu.activeBank.other a b
      { price := (clamp 0 65535 price).toNat, fee := (clamp 0 4095 fee).toNat }
    refine ⟨_, request_ship_done hhead (by simp [requestNames]) hbody, hactive,
      bankRows_bankWritten_other .., ?_, fun x y hxy => ?_, hplans, hpartners, rfl⟩
    · exact (congrArg (fun t : TariffBank => t[a][b]) (bankRows_bankWritten_self ..)).trans
        (rowWritten_self ..)
    · exact (congrArg (fun t : TariffBank => t[x][y]) (bankRows_bankWritten_self ..)).trans
        (rowWritten_ne _ _ hxy)
  case switch =>
    have hbody : tariffSwitchBody r (dropRequest .ship s) = _ := bankChecked_of_standby _ hbank
    exact ⟨_, request_ship_done hhead (by simp [requestNames]) hbody, bulkReview_rtu _,
      bulkReview_allMarked _, bulkReview_visitor_rest _, by rw [bulkReview_frame]; rfl⟩

theorem planLoadBody_of_plan {r : Request} {s : State} {n : Fin 8} (h : arg "PLAN" r = some (n.val : Int)) :
    ∃ (adjusted : Bool) (items : List Item), planLoadBody r s = .done adjusted items []
      (bulkReview (s.setRtu { s.rtu with
        plans := s.rtu.plans.set n
          { terrestrial := clampedBool s.rtu.plans[n].terrestrial (arg "TERRESTRIAL" r)
            satellite := clampedBool s.rtu.plans[n].satellite (arg "SATELLITE" r) } })) := by
  rw [planLoadBody, need_some h, named_some (indexBelow_val n)]
  exact ⟨_, _, rfl⟩

theorem partnerLoadBody_of_partner {r : Request} {s : State} {n : Fin 128}
    (h : arg "PARTNER" r = some (n.val : Int)) (hp : ∀ k : Region, policyBad r k = false) :
    ∃ (adjusted : Bool) (items : List Item), partnerLoadBody r s = .done adjusted items []
      (partnerReview n (s.setRtu { s.rtu with
        partners := s.rtu.partners.set n (partnerWritten r s.rtu.partners[n]) })) := by
  have hnone : ¬(List.finRange 16).any (policyBad r) = true := by simpa using hp
  rw [partnerLoadBody, need_some h, if_neg hnone, named_some (indexBelow_val n)]
  exact ⟨_, _, rfl⟩

theorem partnerWritten_policy (r : Request) (old : Partner) (k : Region) :
    (partnerWritten r old).policy[k] = policyWritten r old k := Vector.getElem_ofFn ..

theorem roamingNamed_code (y : Roaming) : roamingNamed (roamingCode y : Int) = some y := by cases y <;> rfl

theorem policyWritten_of_absent {r : Request} {k : Region} (old : Partner) (h : argK "POLICY_" k.val r = none) :
    policyWritten r old k = old.policy[k] := by rw [policyWritten, h]

theorem policyWritten_of_named {r : Request} {k : Region} {y : Roaming} (old : Partner)
    (h : argK "POLICY_" k.val r = some (roamingCode y : Int)) : policyWritten r old k = y := by
  simp only [policyWritten, h, roamingNamed_code, Option.getD_some]

/-- Per-partner marking marks the visitors of the partner that are not FREE (R83). -/
theorem partnerReview_marked (n : Fin 128) (s : State) (i : Nat)
    (hl : ((partnerReview n s).visitor i).lifecycle ≠ .free)
    (hp : ((partnerReview n s).visitor i).partner = n) :
    ((partnerReview n s).visitor i).reviewMark = true := by
  rw [partnerReview_visitor] at *
  unfold setPartnerReviewMark at *
  split <;> simp_all

/-- Per-partner marking leaves the visitors of other partners (R83). -/
theorem partnerReview_visitor_ne {n : Fin 128} {s : State} {i : Nat} (h : (s.visitor i).partner ≠ n) :
    (partnerReview n s).visitor i = s.visitor i := by
  rw [partnerReview_visitor, setPartnerReviewMark, if_pos (.inr h)]

/-- Settles O50: PLAN_LOAD marks every visitor, PARTNER_LOAD those of its partner. -/
theorem planAndPartnerLoad : Obligations.PlanAndPartnerLoad := by
  unfold Obligations.PlanAndPartnerLoad
  intro r s
  refine ⟨fun n hhead hplan => ?plan, fun n hhead hpartner hpolicy => ?partner⟩
  case plan =>
    obtain ⟨adjusted, items, hbody⟩ := planLoadBody_of_plan (s := dropRequest .ship s) hplan
    exact ⟨_, request_ship_done hhead (by simp [requestNames]) hbody, bulkReview_rtu _,
      bulkReview_allMarked _, bulkReview_visitor_rest _, by rw [bulkReview_frame]; rfl⟩
  case partner =>
    obtain ⟨adjusted, items, hbody⟩ :=
      partnerLoadBody_of_partner (s := dropRequest .ship s) hpartner hpolicy
    refine ⟨_, partnerWritten r s.rtu.partners[n],
      request_ship_done hhead (by simp [requestNames]) hbody, partnerReview_rtu _ _, fun h => ?_,
      fun v h => ?_, fun k h => ?_, fun k y h => ?_, partnerReview_marked _ _, fun h => ?_, fun v h => ?_,
      fun i h => partnerReview_visitor_ne (s := (dropRequest .ship s).setRtu _) h, ?_⟩
    · simp only [partnerWritten, h, clampedNat]
    · simp only [partnerWritten, h, clampedNat_some]; rfl
    · rw [partnerWritten_policy, policyWritten_of_absent _ h]
    · rw [partnerWritten_policy, policyWritten_of_named _ h]
    · simp only [partnerWritten, h, clampedNat]
    · simp only [partnerWritten, h, clampedNat_some]; rfl
    · unfold partnerReview
      rw [refreshEngine_frame]; rfl

/-! ## Paths -/

theorem kindBad_iff (v : Int) : kindBad (some v) = true ↔ v ≠ 0 ∧ v ≠ 1 := by
  unfold kindBad kindNamed
  by_cases h0 : v = 0 <;> by_cases h1 : v = 1 <;> simp [h0, h1]

theorem prescaleFrom_some (old : Nat) (v : Int) :
    (v ≤ 1 → prescaleFrom old (some v) = 1) ∧ (2 ≤ v → v ≤ 4 → prescaleFrom old (some v) = 4) ∧
      (5 ≤ v → prescaleFrom old (some v) = 16) := by
  unfold prescaleFrom
  refine ⟨fun h => if_pos h, fun h1 h2 => ?_, fun h => ?_⟩
  · exact (if_neg (by omega)).trans (if_pos h2)
  · exact (if_neg (by omega)).trans (if_neg (by omega))

/-- Each item of PATH_CONFIG is brought into its range, or leaves its field (R107, R108). -/
theorem configWritten_items (r : Request) (c : PathConfig) :
    (arg "KIND" r = none → (configWritten r c).kind = c.kind) ∧
    (arg "KIND" r = some 0 → (configWritten r c).kind = .terrestrial) ∧
    (arg "KIND" r = some 1 → (configWritten r c).kind = .satellite) ∧
    (arg "PRESCALE" r = none → (configWritten r c).prescale = c.prescale) ∧
    (∀ v : Int, arg "PRESCALE" r = some v →
      (v ≤ 1 → (configWritten r c).prescale = 1) ∧
      (2 ≤ v → v ≤ 4 → (configWritten r c).prescale = 4) ∧
      (5 ≤ v → (configWritten r c).prescale = 16)) := by
  refine ⟨fun h => ?_, fun h => ?_, fun h => ?_, fun h => ?_, fun v h => ?_⟩
  · simp only [configWritten, h, kindFrom]
  · simp only [configWritten, h]; rfl
  · simp only [configWritten, h]; rfl
  · simp only [configWritten, h, prescaleFrom]
  · simp only [configWritten, h]
    exact prescaleFrom_some c.prescale v

theorem pathConfigBody_of_path {p : Path} {r : Request} {s : State} (hp : arg "PATH" r = some (p.num : Int))
    (hk : kindBad (arg "KIND" r) = false) : ∃ (adjusted : Bool) (items : List Item),
    pathConfigBody r s = .done adjusted items []
      (surchargeMarks p (s.path p).config.surcharge (configWritten r (s.path p).config).surcharge
        (s.setPath p { s.path p with config := configWritten r (s.path p).config })) := by
  rw [pathConfigBody, need_some hp, if_neg (by simp [hk]), named_some (pathNamed_num p)]
  exact ⟨_, _, rfl⟩

theorem surchargeMarks_frame (p : Path) (old new : Nat) (s : State) : surchargeMarks p old new s =
    { s with vtb := (surchargeMarks p old new s).vtb, rse := (surchargeMarks p old new s).rse } := by
  unfold surchargeMarks
  split
  · rw [bulkReview_frame]
  · rfl

/-- No visitor is marked where the path is not active or its S stands (R44). -/
theorem surchargeMarks_of_quiet {p : Path} {old new : Nat} {s : State}
    (h : s.psl.active ≠ some p ∨ new = old) :
    (surchargeMarks p old new s).vtb = s.vtb ∧ (surchargeMarks p old new s).rse = s.rse := by
  have hno : ¬(s.psl.active = some p ∧ old ≠ new) := by
    rintro ⟨h1, h2⟩
    exact h.elim (fun hn => hn h1) (fun he => h2 he.symm)
  rw [surchargeMarks, if_neg hno]
  exact ⟨rfl, rfl⟩

/-- A change of the active path's S marks every visitor that is not FREE (R44). -/
theorem surchargeMarks_allMarked {p : Path} {old new : Nat} {s : State} (ha : s.psl.active = some p)
    (h : new ≠ old) : AllMarked (surchargeMarks p old new s) := by
  rw [surchargeMarks, if_pos ⟨ha, h.symm⟩]
  exact bulkReview_allMarked s

theorem surchargeMarks_visitor_rest (p : Path) (old new : Nat) (s : State) (i : Nat) :
    { (surchargeMarks p old new s).visitor i with reviewMark := false } =
      { s.visitor i with reviewMark := false } := by
  unfold surchargeMarks
  split
  · exact bulkReview_visitor_rest s i
  · rfl

theorem enablePath_of_disabled {p : Path} {s : State} (h : (s.path p).state = .disabled) :
    enablePath p s = s.modPath p (enterService (s.port p).carrier) := by rw [enablePath, h]

theorem enablePath_of_test {p : Path} {s : State} (h : (s.path p).state = .test) :
    enablePath p s = s.modPath p (fun v =>
      enterService (s.port p).carrier { v with outstanding := [], probeTimer := none }) := by
  rw [enablePath, h]

theorem enablePath_of_enabled {p : Path} {s : State} (h1 : (s.path p).state ≠ .disabled)
    (h2 : (s.path p).state ≠ .test) : enablePath p s = s := by
  unfold enablePath
  split <;> simp_all

theorem enterService_state (b : Bool) (v : Psv) :
    (enterService b v).state = if b then .settling else .down := by cases b <;> rfl

theorem enterService_rest (b : Bool) (v : Psv) : (enterService b v).outstanding = v.outstanding ∧
    (enterService b v).probeTimer = v.probeTimer ∧ (enterService b v).losses = v.losses ∧
      (enterService b v).surveyRecord = v.surveyRecord := by cases b <;> exact ⟨rfl, rfl, rfl, rfl⟩

theorem pathEnableBody_of_path {p : Path} {r : Request} {s : State} (h : arg "PATH" r = some (p.num : Int)) :
    pathEnableBody r s = doneState p (enablePath p s) := by rw [pathEnableBody, needPath_of_path h]

/-- Settles O51: PATH_CONFIG writes one path and may mark the visitors, PATH_ENABLE goes by the path's state. -/
theorem pathConfigAndEnable : Obligations.PathConfigAndEnable := by
  unfold Obligations.PathConfigAndEnable
  refine ⟨fun r c => ?items, fun p r s hpath => ⟨fun hhead hkind => ?config, fun hhead hstate => ?disabled,
    fun hhead hstate => ?test, fun hhead h1 h2 => ?enabled⟩⟩
  case items =>
    obtain ⟨hnone, hzero, hone, hpnone, hpsome⟩ := configWritten_items r c
    exact ⟨hnone, hzero, hone, kindBad_iff, rfl, rfl, hpnone, hpsome, rfl, rfl, rfl, rfl, rfl⟩
  case config =>
    obtain ⟨adjusted, items, hbody⟩ := pathConfigBody_of_path (s := dropRequest .ship s) hpath hkind
    have hframe := surchargeMarks_frame p (s.path p).config.surcharge
      (configWritten r (s.path p).config).surcharge
      ((dropRequest .ship s).setPath p { s.path p with config := configWritten r (s.path p).config })
    refine ⟨_, request_ship_done hhead (by simp [requestNames]) hbody, ?_, fun q hq => ?_, fun h => ?_,
      fun ha hs => ?_, surchargeMarks_visitor_rest _ _ _ _, ?_⟩
    · exact (congrArg (fun t : State => t.path p) hframe).trans (perPath_get_set_self ..)
    · exact (congrArg (fun t : State => t.path q) hframe).trans (perPath_get_set_ne _ _ hq)
    · exact surchargeMarks_of_quiet (s := (dropRequest .ship s).setPath p _) h
    · exact surchargeMarks_allMarked (s := (dropRequest .ship s).setPath p _) ha hs
    · rw [surchargeMarks_frame]; rfl
  case disabled =>
    have hbody : pathEnableBody r (dropRequest .ship s) =
        doneState p ((dropRequest .ship s).modPath p (enterService (s.port p).carrier)) := by
      rw [pathEnableBody_of_path hpath, enablePath_of_disabled (s := dropRequest .ship s) hstate]; rfl
    have hpathState : (((dropRequest .ship s).modPath p (enterService (s.port p).carrier)).path p).state =
        if (s.port p).carrier then .settling else .down := by
      rw [State.modPath, State.setPath_path_self, enterService_state]
    refine (request_ship_done hhead (by simp [requestNames]) hbody).trans ?_
    rw [hpathState]
    cases (s.port p).carrier <;> rfl
  case test =>
    have hbody : pathEnableBody r (dropRequest .ship s) = doneState p ((dropRequest .ship s).modPath p (fun v =>
        enterService (s.port p).carrier { v with outstanding := [], probeTimer := none })) := by
      rw [pathEnableBody_of_path hpath, enablePath_of_test (s := dropRequest .ship s) hstate]; rfl
    obtain ⟨hout, htimer, hlosses, hrecord⟩ := enterService_rest (s.port p).carrier
      { s.path p with outstanding := [], probeTimer := none }
    have hself := perPath_get_set_self s.psv p
      (enterService (s.port p).carrier { s.path p with outstanding := [], probeTimer := none })
    refine ⟨_, request_ship_done hhead (by simp [requestNames]) hbody, ?_, ?_, ?_, ?_, ?_, fun q hq => ?_, rfl⟩
    · exact (congrArg Psv.state hself).trans (enterService_state _ _)
    · exact (congrArg Psv.outstanding hself).trans hout
    · exact (congrArg Psv.probeTimer hself).trans htimer
    · exact (congrArg Psv.losses hself).trans hlosses
    · exact (congrArg Psv.surveyRecord hself).trans hrecord
    · exact perPath_get_set_ne _ _ hq
  case enabled =>
    refine request_ship_done hhead (by simp [requestNames]) ?_
    rw [pathEnableBody_of_path hpath, enablePath_of_enabled (s := dropRequest .ship s) h1 h2]
    rfl

end Sys2Proof.Machine
end


section
/-! SUPPORT. Requests on surveys, tests, settings, cell heads and notices: what each writes and what it leaves. -/

namespace Sys2Proof.Machine

/-! ## States equal block by block -/

theorem State.eq_of_blocks {s t : State} (hshi : s.shi = t.shi) (hshore : s.shore = t.shore)
    (hfree : s.freeBuffers = t.freeBuffers) (hseq : s.uplinkSeq = t.uplinkSeq) (hvtb : s.vtb = t.vtb)
    (hrtu : s.rtu = t.rtu) (hrcq : s.rcq = t.rcq) (hrse : s.rse = t.rse) (hznu : s.znu = t.znu)
    (hpsv : s.psv = t.psv) (hpsl : s.psl = t.psl) (hdrs : s.drs = t.drs) (hcvu : s.cvu = t.cvu)
    (hcfu : s.cfu = t.cfu) (hntu : s.ntu = t.ntu) (hclocks : s.clocks = t.clocks)
    (hpending : s.pending = t.pending) : s = t := by
  cases s
  cases t
  simp_all

/-! ## PATH_SURVEY and PATH_TEST -/

theorem pathSurveyBody_of_up {p : Path} {r : Request} {s : State} (h : arg "PATH" r = some (p.num : Int))
    (hup : (s.path p).state = .up) : pathSurveyBody r s = surveyRequested p s := by
  rw [pathSurveyBody, needPath_of_path h, if_pos hup]

/-- A survey starts at once with no recovery gap running (R118). -/
theorem surveyRequested_of_free {p : Path} {s : State} (hs : surveyInFlight (s.path p) = false)
    (hg : (s.path p).gap = none) :
    surveyRequested p s = .done false [item "DEFERRED" 0] [] (startSurvey p s) := by
  have hrun : timerRunning (s.path p).gap = false := by rw [hg]; rfl
  simp [surveyRequested, hs, startOrDefer, hrun, boolCode]

/-- A survey is deferred to the end of a running recovery gap (R118). -/
theorem surveyRequested_of_gap {p : Path} {s : State} (hs : surveyInFlight (s.path p) = false)
    (hg : (s.path p).gap ≠ none) : surveyRequested p s =
      .done false [item "DEFERRED" 1] [] (s.modPath p (fun v => { v with survey := .deferred })) := by
  simp [surveyRequested, hs, startOrDefer, timerRunning_of_ne hg, boolCode]

theorem doneState_enterTest (p : Path) (s : State) : doneState p (s.modPath p enterTest) =
    .done false [item "STATE" 6] [] (s.modPath p enterTest) := by
  rw [doneState, State.modPath, State.setPath_path_self]
  rfl

/-- PATH_TEST on a path out of service takes it to TEST (R124). -/
theorem pathTestBody_of_idle {p : Path} {r : Request} {s : State} (h : arg "PATH" r = some (p.num : Int))
    (hs : (s.path p).state = .disabled ∨ (s.path p).state = .down) :
    pathTestBody r s = .done false [item "STATE" 6] [] (s.modPath p enterTest) := by
  rw [pathTestBody, needPath_of_path h]
  rcases hs with hs | hs <;> simp only [hs] <;> exact doneState_enterTest p s

theorem pathTestBody_of_test {p : Path} {r : Request} {s : State} (h : arg "PATH" r = some (p.num : Int))
    (hs : (s.path p).state = .test) : pathTestBody r s = .done false [item "STATE" 6] [] s := by
  rw [pathTestBody, needPath_of_path h]
  simp only [hs, doneState, pathStateCode]
  rfl

/-- PATH_TEST on a path in service is refused (R124). -/
theorem pathTestBody_of_service {p : Path} {r : Request} {s : State} (h : arg "PATH" r = some (p.num : Int))
    (hs : (s.path p).state = .settling ∨ (s.path p).state = .opening ∨ (s.path p).state = .surveying ∨
      (s.path p).state = .up) : pathTestBody r s = .refused .refusedState := by
  rw [pathTestBody, needPath_of_path h]
  rcases hs with hs | hs | hs | hs <;> simp only [hs]

/-- Settles O52: by the state of the path, the survey and the recovery gap. -/
theorem pathSurveyAndTest : Obligations.PathSurveyAndTest := by
  unfold Obligations.PathSurveyAndTest
  intro p r s hpath
  have hsurvey : nm "PATH_SURVEY" ∈ requestNames := by simp [requestNames]
  have htest : nm "PATH_TEST" ∈ requestNames := by simp [requestNames]
  refine ⟨fun hhead hup hidle hgap => ?start, fun hhead hup hidle hgap => ?defer, fun hhead hup hbusy => ?busy,
    fun hhead hup => ?refused, fun hhead hstate => ?enter, fun hhead hstate => ?stay,
    fun hhead hstate => ?inService⟩
  case start =>
    exact request_ship_done hhead hsurvey
      ((pathSurveyBody_of_up (s := dropRequest .ship s) hpath hup).trans (surveyRequested_of_free hidle hgap))
  case defer =>
    exact request_ship_done hhead hsurvey
      ((pathSurveyBody_of_up (s := dropRequest .ship s) hpath hup).trans (surveyRequested_of_gap hidle hgap))
  case busy =>
    exact request_ship_refused hhead hsurvey (by decide)
      ((pathSurveyBody_of_up (s := dropRequest .ship s) hpath hup).trans (if_pos hbusy))
  case refused =>
    refine request_ship_refused hhead hsurvey (by decide) ?_
    rw [pathSurveyBody, needPath_of_path hpath]
    exact if_neg hup
  case enter => exact request_ship_done hhead htest (pathTestBody_of_idle hpath hstate)
  case stay => exact request_ship_done hhead htest (pathTestBody_of_test hpath hstate)
  case inService =>
    exact request_ship_refused hhead htest (by decide) (pathTestBody_of_service hpath hstate)

/-! ## SELECT_CONFIG, PATH_PIN and RESEQ_CONFIG -/

theorem pinNamed_pathCode (pin : Option Path) : pinNamed (pathCode pin) = some pin := by
  cases pin with
  | none => rfl
  | some p => cases p <;> rfl

theorem resync_of_hunt {s : State} (h : s.drs.locked = false) : resync s = s := by
  rw [resync, if_neg (by simp [h])]

/-- RESYNC in LOCKED returns the resequencer to HUNT and delivers what it held (R152). -/
theorem resync_drs {s : State} (h : s.drs.locked = true) : (resync s).drs = { s.drs with
    locked := false, nextExpected := 0, slots := [], gapTimer := none,
    delivered := s.drs.delivered + BitVec.ofNat 32 s.drs.slots.length,
    skipped := s.drs.skipped + BitVec.ofNat 32 (skippedByResync s.drs), resyncs := s.drs.resyncs + 1 } := by
  rw [resync, if_pos h]
  exact deliverAll_drs _ _

/-- RESYNC touches the blocks of the packet path and the resequencer alone. -/
theorem resync_frame (s : State) : ∃ t : State, resync s = t ∧ t = { s with
    shi := t.shi, shore := t.shore, freeBuffers := t.freeBuffers, vtb := t.vtb, rcq := t.rcq,
    rse := t.rse, drs := t.drs, cvu := t.cvu, ntu := t.ntu } := by
  unfold resync
  split
  · obtain ⟨t, ht, hf⟩ := deliverAll_frame s.drs.slots (s.setDrs { s.drs with
      locked := false
      nextExpected := 0
      slots := []
      gapTimer := none
      skipped := s.drs.skipped + BitVec.ofNat 32 (skippedByResync s.drs)
      resyncs := s.drs.resyncs + 1 })
    exact ⟨t, ht, hf⟩
  · exact ⟨s, rfl, rfl⟩

/-- The state after GAP_HOLD is written (R152). -/
def gapHoldWritten (r : Request) (s : State) : State :=
  s.setDrs { s.drs with gapHold := clampedNat 1 255 s.drs.gapHold (arg "GAP_HOLD" r) }

/-- RESEQ_CONFIG without an acting RESYNC writes GAP_HOLD alone (R152). -/
theorem reseqConfigBody_of_quiet {r : Request} {s : State}
    (h : arg "RESYNC" r = none ∨ arg "RESYNC" r = some 0 ∨ s.drs.locked = false) :
    reseqConfigBody r s = .done (outside 1 255 (arg "GAP_HOLD" r) || outsideBool (arg "RESYNC" r))
      [item "GAP_HOLD" (clampedNat 1 255 s.drs.gapHold (arg "GAP_HOLD" r)),
       item "DRS_STATE" (boolCode s.drs.locked), itemC "NEXT_EXPECTED" s.drs.nextExpected] []
      (gapHoldWritten r s) := by
  have hquiet : resyncIf (clampedBool false (arg "RESYNC" r)) (gapHoldWritten r s) = gapHoldWritten r s := by
    unfold resyncIf
    rcases h with h | h | h
    · rw [h]; rfl
    · rw [h]; rfl
    · rw [resync_of_hunt (s := gapHoldWritten r s) h, ite_self]
  have hbody : reseqConfigBody r s = (fun t : State =>
      Answer.done (outside 1 255 (arg "GAP_HOLD" r) || outsideBool (arg "RESYNC" r))
        [item "GAP_HOLD" t.drs.gapHold, item "DRS_STATE" (boolCode t.drs.locked),
         itemC "NEXT_EXPECTED" t.drs.nextExpected] [] t)
      (resyncIf (clampedBool false (arg "RESYNC" r)) (gapHoldWritten r s)) := rfl
  rw [hbody, hquiet]
  rfl

/-- RESEQ_CONFIG with RESYNC 1 resynchronises after the write (R152). -/
theorem reseqConfigBody_of_resync {r : Request} (s : State) (h : arg "RESYNC" r = some 1) :
    ∃ (adjusted : Bool) (items : List Item),
      reseqConfigBody r s = .done adjusted items [] (resync (gapHoldWritten r s)) := by
  rw [reseqConfigBody, h]
  exact ⟨_, _, rfl⟩

/-- Settles O53: the settings item by item, the pin, and the resequencer's two items. -/
theorem selectorAndResequencerSettings : Obligations.SelectorAndResequencerSettings := by
  unfold Obligations.SelectorAndResequencerSettings
  refine ⟨fun r x => ?items, fun r s => ⟨fun hhead => ?select, fun pin hhead hpath => ?pin,
    fun hhead => ⟨fun h => ?quiet, fun h hlocked => ?resync⟩⟩⟩
  case items => simp only [settingsWritten, clampedNat_eq_getD]; rfl
  case select =>
    refine request_ship_done hhead (by simp [requestNames]) ?_
    rw [selectConfigBody]
    cases (arg "CONFIRM" r).isSome <;> rfl
  case pin =>
    refine request_ship_done hhead (by simp [requestNames]) ?_
    rw [pathPinBody, need_some hpath, named_some (pinNamed_pathCode pin)]
    by_cases hpin : s.psl.pin = pin
    · simp [hpin, dropRequest, clearConfirmIf]
    · simp [hpin, dropRequest, clearConfirmIf]
  case quiet =>
    exact request_ship_done hhead (by simp [requestNames])
      (reseqConfigBody_of_quiet (s := dropRequest .ship s) h)
  case resync =>
    obtain ⟨adjusted, items, hbody⟩ := reseqConfigBody_of_resync (dropRequest .ship s) h
    have hdrs := resync_drs (s := gapHoldWritten r (dropRequest .ship s)) hlocked
    obtain ⟨t, ht, hframe⟩ := resync_frame (gapHoldWritten r (dropRequest .ship s))
    rw [ht] at hbody hdrs
    refine ⟨_, request_ship_done hhead (by simp [requestNames]) hbody, congrArg Drs.locked hdrs,
      congrArg Drs.nextExpected hdrs, congrArg Drs.slots hdrs, congrArg Drs.gapTimer hdrs,
      congrArg Drs.gapHold hdrs, congrArg Drs.resyncs hdrs, congrArg Drs.delivered hdrs, ?_⟩
    rw [hframe]; rfl

/-! ## CELL_CONFIG and GRANT_CONFIG -/

theorem backupNamed_cellCode (b : Option Cell) : backupNamed (cellCode b) = some b := by
  cases b with
  | none => rfl
  | some c =>
    have hc : ¬cellCode (some c) = -1 := by
      have : cellCode (some c) = (c.val : Int) := rfl
      omega
    rw [backupNamed, if_neg hc, cellCode, indexBelow_val]
    rfl

/-- The configuration fields and the state of a cell head, which no change of its levels moves. -/
def service (h : CellHead) : Bool × Nat × Nat × Option Cell × Nat × CellState × Timer × Nat :=
  (h.enable, h.base, h.boost, h.backup, h.join, h.state, h.hbTimer, h.joinCount)

theorem service_applyTarget (n : Nat) (h : CellHead) : service (applyTarget n h) = service h := by
  rw [applyTarget_eq]; rfl

/-- A cell head that a CELL_CONFIG does not disable takes its configuration alone (R156). -/
theorem cellConfigured_of_kept {r : Request} {c : Cell} {h : CellHead}
    (hk : h.enable = false ∨ (cellWritten r c h).enable = true) :
    cellConfigured r c h = cellWritten r c h := by
  rw [cellConfigured, if_neg]
  rcases hk with hk | hk <;> simp [hk]

/-- A cell head that a CELL_CONFIG disables is made ABSENT (R156, R160). -/
theorem cellConfigured_of_disabled {r : Request} {c : Cell} {h : CellHead} (h1 : h.enable = true)
    (h2 : (cellWritten r c h).enable = false) :
    cellConfigured r c h = cellDisabled (cellWritten r c h) := by
  rw [cellConfigured, if_pos (by simp [h1, h2])]

theorem service_cellDisabled (h : CellHead) : service (cellDisabled h) =
    (h.enable, h.base, h.boost, h.backup, h.join, .absent, none, 0) := by
  unfold cellDisabled leaveServing service
  dsimp only
  split
  · split <;> rfl
  · rfl

/-- The configuration that a CELL_CONFIG writes, disabled or not. -/
theorem cellConfigured_config (r : Request) (c : Cell) (h : CellHead) :
    (cellConfigured r c h).enable = (cellWritten r c h).enable ∧
    (cellConfigured r c h).base = (cellWritten r c h).base ∧
    (cellConfigured r c h).boost = (cellWritten r c h).boost ∧
    (cellConfigured r c h).backup = (cellWritten r c h).backup ∧
    (cellConfigured r c h).join = (cellWritten r c h).join := by
  by_cases hd : h.enable = true ∧ (cellWritten r c h).enable = false
  · have hs := service_cellDisabled (cellWritten r c h)
    rw [cellConfigured_of_disabled hd.1 hd.2]
    simp only [service, Prod.mk.injEq] at hs
    obtain ⟨h1, h2, h3, h4, h5, -⟩ := hs
    exact ⟨h1, h2, h3, h4, h5⟩
  · rw [cellConfigured_of_kept (by
      cases h1 : h.enable <;> cases h2 : (cellWritten r c h).enable <;> simp_all)]
    exact ⟨rfl, rfl, rfl, rfl, rfl⟩

theorem cellDisabled_grantOwed {h : CellHead} (hs : h.state = .serving) (ha : 0 < h.activeLevel) :
    (cellDisabled h).grantOwed = true := by
  unfold cellDisabled leaveServing
  simp [hs, ha]

/-- The state that a CELL_CONFIG leaves: the cell head written, then every level worked out again (R156, R162). -/
def cellConfigLeaves (r : Request) (c : Cell) (s : State) : State :=
  retarget (s.setCell c (cellConfigured r c (s.cell c)))

theorem cellConfigLeaves_self (r : Request) (c : Cell) (s : State) : ∃ n : Nat,
    (cellConfigLeaves r c s).cell c = applyTarget n (cellConfigured r c (s.cell c)) ∧
      ((cellConfigured r c (s.cell c)).state ≠ .serving → n = 0) := by
  have hcell : (s.setCell c (cellConfigured r c (s.cell c))).cell c = cellConfigured r c (s.cell c) :=
    State.setCell_cell_self _ _ _
  refine ⟨_, (retarget_cell _ c).trans (by rw [hcell]), fun h => ?_⟩
  rw [← hcell] at h
  exact if_neg h

theorem cellConfigLeaves_service (r : Request) (c : Cell) (s : State) :
    service ((cellConfigLeaves r c s).cell c) = service (cellConfigured r c (s.cell c)) := by
  obtain ⟨n, hn, -⟩ := cellConfigLeaves_self r c s
  rw [hn, service_applyTarget]

/-- The configuration fields after a CELL_CONFIG are those it writes (R156). -/
theorem cellConfigLeaves_config (r : Request) (c : Cell) (s : State) :
    ((cellConfigLeaves r c s).cell c).enable = (cellWritten r c (s.cell c)).enable ∧
    ((cellConfigLeaves r c s).cell c).base = (cellWritten r c (s.cell c)).base ∧
    ((cellConfigLeaves r c s).cell c).boost = (cellWritten r c (s.cell c)).boost ∧
    ((cellConfigLeaves r c s).cell c).backup = (cellWritten r c (s.cell c)).backup ∧
    ((cellConfigLeaves r c s).cell c).join = (cellWritten r c (s.cell c)).join := by
  have hs := cellConfigLeaves_service r c s
  simp only [service, Prod.mk.injEq] at hs
  obtain ⟨h1, h2, h3, h4, h5, -⟩ := hs
  obtain ⟨w1, w2, w3, w4, w5⟩ := cellConfigured_config r c (s.cell c)
  exact ⟨h1.trans w1, h2.trans w2, h3.trans w3, h4.trans w4, h5.trans w5⟩

/-- A cell head that a CELL_CONFIG disables is ABSENT at level 0, with a GRANT owed where it fell (R156, R160). -/
theorem cellConfigLeaves_of_disabled {r : Request} {c : Cell} {s : State} (h1 : (s.cell c).enable = true)
    (h2 : (cellWritten r c (s.cell c)).enable = false) :
    ((cellConfigLeaves r c s).cell c).state = .absent ∧ ((cellConfigLeaves r c s).cell c).hbTimer = none ∧
    ((cellConfigLeaves r c s).cell c).joinCount = 0 ∧ ((cellConfigLeaves r c s).cell c).activeLevel = 0 ∧
    ((s.cell c).state = .serving → 0 < (s.cell c).activeLevel →
      ((cellConfigLeaves r c s).cell c).grantOwed = true) := by
  have hdis := cellConfigured_of_disabled h1 h2
  have hs := cellConfigLeaves_service r c s
  obtain ⟨n, hn, hzero⟩ := cellConfigLeaves_self r c s
  rw [hdis, service_cellDisabled] at hs
  rw [hdis] at hn hzero
  simp only [service, Prod.mk.injEq] at hs
  obtain ⟨-, -, -, -, -, hstate, htimer, hcount⟩ := hs
  refine ⟨hstate, htimer, hcount, ?_, fun hserving hactive => ?_⟩
  · rw [hn, hzero (by simp [cellDisabled]), applyTarget_eq, Nat.min_zero]
  · rw [hn, applyTarget_eq, cellDisabled_grantOwed (h := cellWritten r c (s.cell c)) hserving hactive,
      Bool.true_or]

/-- A cell head that a CELL_CONFIG does not disable keeps its service (R156). -/
theorem cellConfigLeaves_of_kept {r : Request} {c : Cell} {s : State}
    (h : (s.cell c).enable = false ∨ (cellWritten r c (s.cell c)).enable = true) :
    ((cellConfigLeaves r c s).cell c).state = (s.cell c).state ∧
    ((cellConfigLeaves r c s).cell c).hbTimer = (s.cell c).hbTimer ∧
    ((cellConfigLeaves r c s).cell c).joinCount = (s.cell c).joinCount := by
  have hs := cellConfigLeaves_service r c s
  rw [cellConfigured_of_kept h] at hs
  simp only [service, Prod.mk.injEq] at hs
  obtain ⟨-, -, -, -, -, hstate, htimer, hcount⟩ := hs
  exact ⟨hstate, htimer, hcount⟩

theorem cellConfigLeaves_state_ne (r : Request) {c d : Cell} (s : State) (h : d ≠ c) :
    ((cellConfigLeaves r c s).cell d).state = (s.cell d).state := by
  rw [cellConfigLeaves, retarget_cell, applyTarget_state, State.setCell_cell_ne _ _ h]

theorem cellConfigLeaves_coverageLaw (r : Request) (c : Cell) (s : State) :
    CoverageLaw (cellConfigLeaves r c s) := retarget_coverageLaw _

theorem coverageLaw_doneAt (r : Request) (taken : List Name) (adjusted : Bool) (items : List Item)
    (records : List Record) (t : State) :
    CoverageLaw (doneAt r taken adjusted items records t) ↔ CoverageLaw t := Iff.rfl

theorem cellConfigBody_of_cell {r : Request} {s : State} {c : Cell} (hc : arg "CELL" r = some (c.val : Int))
    (hb : backupBad (arg "BACKUP" r) = false) : ∃ (adjusted : Bool) (items : List Item),
    cellConfigBody r s = .done adjusted items [] (cellConfigLeaves r c s) := by
  rw [cellConfigBody, need_some hc, named_some (indexBelow_val c), if_neg (by simp [hb])]
  exact ⟨_, _, rfl⟩

/-- Settles O54: the configuration written, the effect of ENABLE, and the levels worked out again after them. -/
theorem cellAndGrantConfig : Obligations.CellAndGrantConfig := by
  unfold Obligations.CellAndGrantConfig
  refine fun r s => ⟨fun c hhead hcell hbackup => ?cell, fun hhead => ?grant⟩
  case grant => exact request_ship_done hhead (by simp [requestNames]) rfl
  case cell =>
    obtain ⟨adjusted, items, hbody⟩ := cellConfigBody_of_cell (s := dropRequest .ship s) hcell hbackup
    obtain ⟨henable, hbase, hboost, hback, hjoin⟩ := cellConfigLeaves_config r c (dropRequest .ship s)
    refine ⟨_, request_ship_done hhead (by simp [requestNames]) hbody, henable, hbase, hboost, hjoin,
      fun h => ?_, fun b h => ?_, fun h1 h2 => ?_, fun h => ?_, ?_, fun d hd => ?_, rfl⟩
    · refine hback.trans ?_
      simp only [cellWritten, h, backupFrom]
      rfl
    · refine hback.trans ?_
      simp only [cellWritten, h, backupFrom, backupNamed_cellCode]
    · exact cellConfigLeaves_of_disabled (s := dropRequest .ship s) h1 (henable.symm.trans h2)
    · exact cellConfigLeaves_of_kept (s := dropRequest .ship s) (h.imp_right henable.symm.trans)
    · exact (coverageLaw_doneAt ..).2 (cellConfigLeaves_coverageLaw r c _)
    · exact cellConfigLeaves_state_ne r (dropRequest .ship s) hd

/-! ## Notices -/

/-- The Notice Unit with each source's flags replaced by what a function gives for them. -/
def mapSources (g : Source → NoticeFlags → NoticeFlags) (n : Ntu) : Ntu :=
  sourcesAll.foldl (fun n x => noticeSet n x (g x (noticeGet n x))) n

theorem noticeGet_mapSources (g : Source → NoticeFlags → NoticeFlags) (n : Ntu) (x : Source) :
    noticeGet (mapSources g n) x = g x (noticeGet n x) := by cases x <;> rfl

/-- What the Notice Unit holds besides the flags of its sources. -/
def noticeRest (n : Ntu) : BitVec 16 × Path × List Nat × Bool × Count :=
  (n.noticeSeq, n.surveyPath, n.creditList, n.creditOverflow, n.creditDrops)

theorem noticeRest_noticeSet (n : Ntu) (x : Source) (f : NoticeFlags) :
    noticeRest (noticeSet n x f) = noticeRest n := by cases x <;> rfl

theorem noticeSet_get_self (n : Ntu) (x : Source) : noticeSet n x (noticeGet n x) = n := by cases x <;> rfl

/-- ARMED of a source after NOTICE_ARM (R178). -/
def armedFlags (r : Request) (x : Source) (f : NoticeFlags) : NoticeFlags :=
  { f with armed := clampedBool f.armed (sourceItem r x) }

/-- NOTICE_ARM writes ARMED source by source (R178). -/
theorem foldl_armSource (r : Request) (n : Ntu) :
    sourcesAll.foldl (armSource r) n = mapSources (armedFlags r) n := rfl

/-- PENDING of a source after NOTICE_CLEAR, with the credit notice list and its overflow as they stand (R179). -/
def clearedFlags (r : Request) (n : Ntu) (x : Source) (f : NoticeFlags) : NoticeFlags :=
  { f with pending := f.pending && !(clampedBool false (sourceItem r x) && clearable n x) }

theorem clearSource_eq (r : Request) (n : Ntu) (x : Source) :
    clearSource r n x = noticeSet n x (clearedFlags r n x (noticeGet n x)) := by
  unfold clearSource clearPending clearedFlags
  split
  · next h => simp [h]
  · next h =>
    rw [Bool.not_eq_true] at h
    simp only [h, Bool.not_false, Bool.and_true]
    exact (noticeSet_get_self n x).symm

/-- Whether a source may be cleared goes by the credit notice list alone (R179). -/
theorem clearedFlags_of_rest {r : Request} {n m : Ntu} (h : noticeRest n = noticeRest m) (x : Source)
    (f : NoticeFlags) : clearedFlags r n x f = clearedFlags r m x f := by
  simp only [noticeRest, Prod.mk.injEq] at h
  obtain ⟨-, -, hlist, hover, -⟩ := h
  simp only [clearedFlags, clearable, hlist, hover]

/-- NOTICE_CLEAR clears PENDING source by source (R179). -/
theorem foldl_clearSource (r : Request) (n : Ntu) :
    sourcesAll.foldl (clearSource r) n = mapSources (clearedFlags r n) n := by
  have h : ∀ (l : List Source) (m : Ntu), noticeRest m = noticeRest n →
      l.foldl (clearSource r) m = l.foldl (fun m x => noticeSet m x (clearedFlags r n x (noticeGet m x))) m := by
    intro l
    induction l with
    | nil => intro m _; rfl
    | cons x l ih =>
      intro m hm
      rw [List.foldl_cons, List.foldl_cons, clearSource_eq, clearedFlags_of_rest hm]
      exact ih _ ((noticeRest_noticeSet _ _ _).trans hm)
  exact h sourcesAll n rfl

theorem count_eq_clampedNat {r : Request} {n : Nat}
    (h : (n : Int) = max 1 (min 16 ((arg "COUNT" r).getD 16))) :
    clampedNat 1 16 16 (arg "COUNT" r) = n := by
  cases hc : arg "COUNT" r with
  | none => rw [hc] at h; simp only [clampedNat, Option.getD_none] at *; omega
  | some v => rw [hc] at h; simp only [clampedNat, clamp, Option.getD_some] at *; omega

/-- A read of the credit notice list leaves its flags as they are but for CREDIT (R181). -/
theorem clearCreditIfEmpty_other (n : Ntu) {x : Source} (h : x ≠ .credit) :
    noticeGet (clearCreditIfEmpty n) x = noticeGet n x := by
  unfold clearCreditIfEmpty clearPending
  split
  · exact noticeGet_set_ne _ _ h
  · rfl

theorem noticeRest_clearCreditIfEmpty (n : Ntu) : noticeRest (clearCreditIfEmpty n) = noticeRest n := by
  unfold clearCreditIfEmpty
  split <;> rfl

/-- Settles O57: the flags source by source, and the head of the credit notice list. -/
theorem noticeRequestsWriteFlags : Obligations.NoticeRequestsWriteFlags := by
  unfold Obligations.NoticeRequestsWriteFlags
  refine fun r s => ⟨fun hhead => ?arm, fun hhead => ?clear, fun n hhead hn => ?read⟩
  case arm =>
    have hbody : noticeArmBody r (dropRequest .ship s) = .done (sourcesAdjusted r)
        (setsItems (mapSources (armedFlags r) s.ntu)) []
        ((dropRequest .ship s).setNtu (mapSources (armedFlags r) s.ntu)) := by
      rw [noticeArmBody, foldl_armSource]; rfl
    refine ⟨_, request_ship_done hhead (by simp [requestNames]) hbody, fun x => ?_, rfl, rfl, rfl, rfl, rfl, rfl⟩
    exact noticeGet_mapSources _ _ x
  case clear =>
    have hbody : noticeClearBody r (dropRequest .ship s) = .done (sourcesAdjusted r)
        (setsItems (mapSources (clearedFlags r s.ntu) s.ntu)) []
        ((dropRequest .ship s).setNtu (mapSources (clearedFlags r s.ntu) s.ntu)) := by
      rw [noticeClearBody, foldl_clearSource]; rfl
    refine ⟨_, request_ship_done hhead (by simp [requestNames]) hbody, fun x => ?_, rfl, rfl, rfl, rfl, rfl, rfl⟩
    exact noticeGet_mapSources _ _ x
  case read =>
    have hbody : creditListReadBody r (dropRequest .ship s) = .done (outside 1 16 (arg "COUNT" r))
        ([item "RETURNED" (min n s.ntu.creditList.length : Nat),
          item "REMAINING" (s.ntu.creditList.length - n : Nat),
          item "OVERFLOW" (boolCode s.ntu.creditOverflow), itemC "CREDIT_DROPS" s.ntu.creditDrops] ++
          creditReadItems s (s.ntu.creditList.take n)) []
        ((dropRequest .ship s).setNtu (clearCreditIfEmpty { s.ntu with
          creditList := s.ntu.creditList.drop n, creditOverflow := false })) := by
      rw [creditListReadBody, count_eq_clampedNat hn, ← List.length_take, ← List.length_drop]
      rfl
    have hrest := noticeRest_clearCreditIfEmpty { s.ntu with
      creditList := s.ntu.creditList.drop n, creditOverflow := false }
    simp only [noticeRest, Prod.mk.injEq] at hrest
    obtain ⟨hseq, hpath, hlist, hover, hdrops⟩ := hrest
    refine ⟨_, request_ship_done hhead (by simp [requestNames]) hbody, hlist, hover, hdrops, hseq, hpath,
      fun h => ?_, fun h => ?_, fun x hx => clearCreditIfEmpty_other _ hx, rfl⟩
    · show (clearCreditIfEmpty _).credit = _
      rw [clearCreditIfEmpty, if_pos (by simpa using h)]
      rfl
    · show (clearCreditIfEmpty _).credit = _
      rw [clearCreditIfEmpty, if_neg (by simpa using h)]

end Sys2Proof.Machine
end


section
/-! SUPPORT. The Zone Unit: the match of a position, the debounce of a report, the fallback, and the requests that write
the zone records (R96 to R104). -/

namespace Sys2Proof.Machine

/-! ## The match of a position -/

/-- Whether a VALID entry's box contains a position. -/
def zoneHolds (u : Znu) (lat lon : Int) (k : ZoneIndex) : Bool :=
  u.zones[k].valid && boxContains u.zones[k] lat lon

theorem zoneHolds_iff (u : Znu) (lat lon : Int) (k : ZoneIndex) : zoneHolds u lat lon k = true ↔
    u.zones[k].valid = true ∧ boxContains u.zones[k] lat lon = true := Bool.and_eq_true_iff

/-- The first entry of a table that passes a test is the lowest that does. -/
theorem find?_finRange_eq_some {n : Nat} {f : Fin n → Bool} {k : Fin n} :
    (List.finRange n).find? f = some k ↔ f k = true ∧ ∀ j : Fin n, j < k → f j = false := by
  rw [List.find?_eq_some_iff_getElem]
  refine and_congr Iff.rfl ⟨?_, fun h => ?_⟩
  · rintro ⟨i, hi, rfl, h⟩ j hj
    have := h j.val (by simpa [Fin.lt_def] using hj)
    simpa using this
  · refine ⟨k.val, by simp, by simp, fun j hj => ?_⟩
    have := h ⟨j, by omega⟩ hj
    simpa using this

theorem matchZone_eq_entry {u : Znu} {lat lon : Int} {k : ZoneIndex} : matchZone u lat lon = .entry k ↔
    zoneHolds u lat lon k = true ∧ ∀ j : ZoneIndex, j < k → zoneHolds u lat lon j = false := by
  rw [← find?_finRange_eq_some]
  show (match (List.finRange 32).find? (zoneHolds u lat lon) with
    | some k => Zone.entry k
    | none => .default) = .entry k ↔ _
  cases (List.finRange 32).find? (zoneHolds u lat lon) <;> simp

theorem matchZone_eq_default {u : Znu} {lat lon : Int} : matchZone u lat lon = .default ↔
    ∀ k : ZoneIndex, zoneHolds u lat lon k = false := by
  have hnone : (List.finRange 32).find? (zoneHolds u lat lon) = none ↔
      ∀ k : ZoneIndex, zoneHolds u lat lon k = false := by simp
  rw [← hnone]
  show (match (List.finRange 32).find? (zoneHolds u lat lon) with
    | some k => Zone.entry k
    | none => .default) = .default ↔ _
  cases (List.finRange 32).find? (zoneHolds u lat lon) <;> simp

/-- A box contains a position within its bounds, the longitude with a wrap where LON_MIN exceeds LON_MAX (R101). -/
theorem boxContains_iff (z : ZoneRow) (lat lon : Int) : boxContains z lat lon = true ↔
    (z.latMin ≤ lat ∧ lat ≤ z.latMax ∧
      ((z.lonMin ≤ z.lonMax ∧ z.lonMin ≤ lon ∧ lon ≤ z.lonMax) ∨
        (z.lonMax < z.lonMin ∧ (z.lonMin ≤ lon ∨ lon ≤ z.lonMax)))) := by
  unfold boxContains
  split
  · next h => simp [h, Int.not_lt.2 h, and_assoc]
  · next h => simp [h, Int.not_le.1 h, and_assoc]

/-- Settles O34: the match is the first entry found in rising order. -/
theorem positionMatchesLowestBox : Obligations.PositionMatchesLowestBox := by
  unfold Obligations.PositionMatchesLowestBox
  intro u lat lon
  have hnot : ∀ j : ZoneIndex, zoneHolds u lat lon j = false ↔
      ¬(u.zones[j].valid = true ∧ boxContains u.zones[j] lat lon = true) := fun j => by
    rw [← zoneHolds_iff, Bool.not_eq_true]
  refine ⟨fun k => ?_, ?_, fun z => boxContains_iff z lat lon⟩
  · rw [matchZone_eq_entry, zoneHolds_iff, and_assoc]
    simp only [hnot]
  · rw [matchZone_eq_default]
    simp only [hnot]

/-! ## The position timer -/

theorem fallbackZone_of_default {u : Znu} (h : u.fallback = .default) : fallbackZone u = .default := by
  rw [fallbackZone, h]

theorem fallbackZone_of_entry {u : Znu} {k : ZoneIndex} (h : u.fallback = .entry k) :
    fallbackZone u = if u.zones[k].valid = true then .entry k else .default := by
  rw [fallbackZone, h]

/-- The state in which the position has gone stale, before any zone becomes current (R102). -/
def staleState (s : State) : State := s.setZnu { s.znu with positionState := .stale, positionTimer := none }

/-- The end of a position timer's expiry: the candidate cleared, the fallback counted, the notice raised (R102). -/
def staleEnd (s : State) : State :=
  raiseNotice .positionStale (s.setZnu { clearCandidate s.znu with fallbacks := s.znu.fallbacks + 1 })

theorem positionExpiry_of_current {s : State} (h : s.znu.current = some (fallbackZone s.znu)) :
    positionExpiry s = staleEnd (staleState s) := by
  rw [positionExpiry]
  exact congrArg staleEnd (if_pos h)

theorem positionExpiry_of_other {s : State} (h : s.znu.current ≠ some (fallbackZone s.znu)) :
    positionExpiry s = staleEnd (zoneChange (fallbackZone s.znu) .fallback (staleState s)) := by
  rw [positionExpiry]
  exact congrArg staleEnd (if_neg h)

theorem staleEnd_znu (s : State) :
    (staleEnd s).znu = { clearCandidate s.znu with fallbacks := s.znu.fallbacks + 1 } := by
  rw [staleEnd, raiseNotice_znu, State.setZnu_znu]

theorem positionTimerExpiry_next {s : State} (h : s.znu.positionTimer ≠ none) :
    exec .positionTimerExpiry s = .next (positionExpiry s) := if_pos (timerRunning_of_ne h)

/-- Settles O35: the two cases differ in whether a zone change stands between the start and the end of the expiry. -/
theorem positionExpiryFallsBack : Obligations.PositionExpiryFallsBack := by
  unfold Obligations.PositionExpiryFallsBack
  refine ⟨fun u => ⟨fallbackZone_of_default, fun k => fallbackZone_of_entry⟩, fun s ht => ?_⟩
  by_cases h : s.znu.current = some (fallbackZone s.znu)
  · have he := positionExpiry_of_current h
    have hznu := (congrArg State.znu he).trans (staleEnd_znu _)
    refine ⟨_, positionTimerExpiry_next ht, ?_⟩
    rw [he] at hznu ⊢
    exact ⟨congrArg Znu.positionState hznu, congrArg Znu.positionTimer hznu, congrArg Znu.candidate hznu,
      congrArg Znu.candidateCount hznu, (congrArg Znu.current hznu).trans h,
      congrArg Znu.fallbacks hznu, raiseNotice_sets .positionStale _, (congrArg Znu.zones hznu :),
      fun _ => ⟨(congrArg Znu.zoneChanges hznu :), rfl⟩, fun hn => absurd h hn⟩
  · have he := positionExpiry_of_other h
    have hznu := (congrArg State.znu he).trans (staleEnd_znu _)
    rw [zoneChange_znu] at hznu
    refine ⟨_, positionTimerExpiry_next ht, ?_⟩
    rw [he] at hznu ⊢
    refine ⟨congrArg Znu.positionState hznu, congrArg Znu.positionTimer hznu, congrArg Znu.candidate hznu,
      congrArg Znu.candidateCount hznu, congrArg Znu.current hznu, congrArg Znu.fallbacks hznu,
      raiseNotice_sets .positionStale _, (congrArg Znu.zones hznu :), fun hn => absurd hn h,
      fun _ => ⟨congrArg Znu.zoneChanges hznu, congrArg Znu.changeCause hznu, congrArg Znu.prevZone hznu, ?_,
        ?_, ?_⟩⟩
    · exact (congrArg NoticeFlags.pending (raiseNotice_other (x := .positionStale) (y := .zoneChange) _
        (by decide))).trans (zoneChange_pendingNotice (fallbackZone s.znu) .fallback (staleState s))
    · exact (zoneChange_allMarked (fallbackZone s.znu) .fallback (staleState s)).of_vtb (by simp [staleEnd])
    · apply State.eq_of_blocks <;> simp [staleEnd, staleState]
/-! ## Reports -/

/-- The Zone Unit after a report in range is held, before its match is debounced (R100, R102). -/
def reportHeld (u : Znu) (lat lon : Int) : Znu :=
  { u with
    positionState := .fresh, positionTimer := some (u.timeout * 1000), lastLat := lat, lastLon := lon,
    reports := u.reports + 1 }

/-- The debounce of a match with another zone counts it, from 1 for a new candidate (R101). -/
theorem debounce_of_other {u : Znu} {m : Zone} (h : u.current ≠ some m) : debounce u m = { u with
    candidate := some m
    candidateCount := if u.candidate = some m then u.candidateCount + 1 else 1 } := by
  rw [debounce, if_neg h]
  split
  · next hc => rw [← hc]
  · rfl

theorem debounce_of_current {u : Znu} {m : Zone} (h : u.current = some m) :
    debounce u m = clearCandidate u := if_pos h

/-- A report whose match is not confirmed writes the Zone Unit alone (R101). -/
theorem positionReport_of_unconfirmed {s : State} {lat lon : Int} {u : Znu}
    (hu : reportTaken s.znu lat lon = u) (h : confirmedZone u = none) :
    positionReport lat lon s = (s.setZnu u, false) := by
  rw [positionReport, hu]
  simp only [h]

theorem positionReport_of_confirmed {s : State} {lat lon : Int} {u : Znu} {z : Zone}
    (hu : reportTaken s.znu lat lon = u) (h : confirmedZone u = some z) :
    positionReport lat lon s = (zoneChange z .report (s.setZnu (clearCandidate u)), true) := by
  rw [positionReport, hu]
  simp only [h]

theorem positionInRange_of_le {lat lon : Int} (h1 : -9000000 ≤ lat) (h2 : lat ≤ 9000000)
    (h3 : -18000000 ≤ lon) (h4 : lon ≤ 18000000) : positionInRange lat lon = true := by
  simp [positionInRange, outside, h1, h2, h3, h4]

theorem positionBody_of_items {r : Request} {s : State} {lat lon : Int} (hlat : arg "LAT" r = some lat)
    (hlon : arg "LON" r = some lon) (hin : positionInRange lat lon = true) : positionBody r s =
      .done false (positionItems (matchZone s.znu lat lon) (positionReport lat lon s).1.znu
        (positionReport lat lon s).2) [] (positionReport lat lon s).1 := by
  rw [positionBody, need_some hlat, need_some hlon, if_pos hin]

/-- Settles O36: the debounce of the match, and the zone change that a confirmed match makes. -/
theorem positionReportIsDebounced : Obligations.PositionReportIsDebounced := by
  unfold Obligations.PositionReportIsDebounced
  intro lat lon m n r s hhead hlat hlon h1 h2 h3 h4 hm hn
  have hname : nm "POSITION" ∈ requestNames := by simp [requestNames]
  have hbody := positionBody_of_items (s := dropRequest .ship s) hlat hlon (positionInRange_of_le h1 h2 h3 h4)
  have htaken : reportTaken (dropRequest .ship s).znu lat lon = debounce (reportHeld s.znu lat lon) m := by
    rw [hm]; rfl
  rw [show matchZone (dropRequest .ship s).znu lat lon = m from hm.symm] at hbody
  refine ⟨fun hc => ?current, fun hc hlt => ?counted, fun hc hle => ?confirmed⟩
  case current =>
    rw [debounce_of_current (u := reportHeld s.znu lat lon) hc] at htaken
    rw [positionReport_of_unconfirmed htaken rfl] at hbody
    have hcode : zoneCode (clearCandidate (reportHeld s.znu lat lon)).current = zoneNum m := by
      rw [show (clearCandidate (reportHeld s.znu lat lon)).current = some m from hc]; rfl
    refine (request_ship_done hhead hname hbody).trans ?_
    simp only [positionItems, State.setZnu_znu, hcode]
    rfl
  case counted =>
    rw [debounce_of_other (u := reportHeld s.znu lat lon) hc] at htaken
    have hcount : (if (reportHeld s.znu lat lon).candidate = some m then
        (reportHeld s.znu lat lon).candidateCount + 1 else 1) = n := hn.symm
    rw [hcount] at htaken
    rw [positionReport_of_unconfirmed htaken (if_neg (Nat.not_le.2 hlt))] at hbody
    exact request_ship_done hhead hname hbody
  case confirmed =>
    rw [debounce_of_other (u := reportHeld s.znu lat lon) hc] at htaken
    have hcount : (if (reportHeld s.znu lat lon).candidate = some m then
        (reportHeld s.znu lat lon).candidateCount + 1 else 1) = n := hn.symm
    rw [hcount] at htaken
    rw [positionReport_of_confirmed htaken (if_pos hle)] at hbody
    have hznu := zoneChange_znu m .report ((dropRequest .ship s).setZnu (clearCandidate
      { reportHeld s.znu lat lon with candidate := some m, candidateCount := n }))
    refine ⟨_, request_ship_done hhead hname hbody, congrArg Znu.current hznu, congrArg Znu.prevZone hznu,
      congrArg Znu.changeCause hznu, congrArg Znu.zoneChanges hznu, congrArg Znu.candidate hznu,
      congrArg Znu.candidateCount hznu, congrArg Znu.positionState hznu, congrArg Znu.positionTimer hznu,
      congrArg Znu.lastLat hznu, congrArg Znu.lastLon hznu, congrArg Znu.reports hznu,
      zoneChange_pendingNotice .., zoneChange_allMarked _ _ _,
      frame_of_outsideZoneChange (outsideZoneChange_zoneChange ..)⟩

end Sys2Proof.Machine
end


section
/-! SUPPORT. The requests that write the zone records: the items of the terms, the order of the paths, and the zone
change a write of the current record makes (R96 to R98). -/

namespace Sys2Proof.Machine

/-! ## The items of the terms -/

theorem clampedBool_some (old : Bool) (v : Int) : clampedBool old (some v) = true ↔ 1 ≤ v := by
  simp only [clampedBool, decide_eq_true_eq]
  omega

theorem clampedInt_eq_getD (lo hi old : Int) (v : Option Int) : clampedInt lo hi old v =
    (v.map (fun x => max lo (min hi x))).getD old := by cases v <;> rfl

theorem rankItems_of_absent {r : Request} (h : ∀ k : Fin 4, argK "RANK_" k.val r = none) :
    rankItems r = .absent := by
  have h0 : argK "RANK_" 0 r = none := h 0
  have h1 : argK "RANK_" 1 r = none := h 1
  have h2 : argK "RANK_" 2 r = none := h 2
  have h3 : argK "RANK_" 3 r = none := h 3
  simp only [rankItems, h0, h1, h2, h3]

/-- Four rank items that name each path once are an order (R94, R96). -/
theorem rankItems_of_order {r : Request} {a b c d : Path} (hd : [a, b, c, d].Nodup)
    (h0 : argK "RANK_" 0 r = some (a.num : Int)) (h1 : argK "RANK_" 1 r = some (b.num : Int))
    (h2 : argK "RANK_" 2 r = some (c.num : Int)) (h3 : argK "RANK_" 3 r = some (d.num : Int)) :
    rankItems r = .given { first := a, second := b, third := c, fourth := d } := by
  have hrep : ¬(a = b ∨ a = c ∨ a = d ∨ b = c ∨ b = d ∨ c = d) := by
    simp only [List.nodup_cons, List.mem_cons, List.not_mem_nil, or_false, not_or] at hd
    tauto
  simp only [rankItems, h0, h1, h2, h3, pathNamed_num]
  exact if_neg hrep

/-- The region that a load writes is the clamped number (R96). -/
theorem termsWritten_region_val (r : Request) (x : Terms) :
    (termsWritten r x).region.val = clampedNat 0 15 x.region.val (arg "REGION" r) := by
  have hlt : clampedNat 0 15 x.region.val (arg "REGION" r) < 16 := by
    cases h : arg "REGION" r with
    | none => exact x.region.isLt
    | some v =>
      have := clampedNat_some (lo := 0) (hi := 15) (old := x.region.val) v
      omega
  exact Nat.mod_eq_of_lt hlt

/-! ## The DEFAULT record and the settings -/

theorem fallbackFrom_zoneNum (old z : Zone) : fallbackFrom old (some (zoneNum z : Int)) = z := by
  simp only [fallbackFrom, zoneNamed_zoneNum, Option.getD_some]

/-- With CONFIRM absent the candidate stands (R98). -/
theorem defaultsWritten_of_absent {r : Request} (u : Znu) (h : arg "CONFIRM" r = none) :
    defaultsWritten r u = { u with
      defaultTerms := termsWritten r u.defaultTerms
      fallback := fallbackFrom u.fallback (arg "FALLBACK" r)
      timeout := clampedNat 1 255 u.timeout (arg "POSITION_TIMEOUT" r) } := by
  rw [defaultsWritten, h]; rfl

/-- With CONFIRM present the candidate is cleared (R98). -/
theorem defaultsWritten_of_present {r : Request} (u : Znu) {v : Int} (h : arg "CONFIRM" r = some v) :
    defaultsWritten r u = { u with
      defaultTerms := termsWritten r u.defaultTerms
      fallback := fallbackFrom u.fallback (arg "FALLBACK" r)
      confirm := clampedNat 1 8 u.confirm (some v)
      timeout := clampedNat 1 255 u.timeout (arg "POSITION_TIMEOUT" r), candidate := none
      candidateCount := 0 } := by
  rw [defaultsWritten, h]; rfl

/-- What ZONE_DEFAULTS writes of the Zone Unit, CONFIRM and the candidate apart, goes field by field (R98). -/
theorem defaultsWritten_fields (r : Request) (u : Znu) :
    { defaultsWritten r u with
        defaultTerms := u.defaultTerms, fallback := u.fallback, confirm := u.confirm
        timeout := u.timeout, candidate := u.candidate, candidateCount := u.candidateCount } = u ∧
    (defaultsWritten r u).defaultTerms = termsWritten r u.defaultTerms ∧
    (defaultsWritten r u).fallback = fallbackFrom u.fallback (arg "FALLBACK" r) ∧
    (defaultsWritten r u).timeout = clampedNat 1 255 u.timeout (arg "POSITION_TIMEOUT" r) := by
  cases h : arg "CONFIRM" r with
  | none => rw [defaultsWritten_of_absent u h]; exact ⟨rfl, rfl, rfl, rfl⟩
  | some v => rw [defaultsWritten_of_present u h]; exact ⟨rfl, rfl, rfl, rfl⟩

/-! ## The answers of the two bodies -/

theorem zoneLoadBody_of_items {k : ZoneIndex} {r : Request} {s : State} (hrank : rankItems r ≠ .bad)
    (hindex : arg "INDEX" r = some (k.val : Int))
    (hbox : (rowLoaded r s.znu.zones[k]).latMin ≤ (rowLoaded r s.znu.zones[k]).latMax) :
    zoneLoadBody r s = zoneLoadWrite r k (rowLoaded r s.znu.zones[k]) s := by
  rw [zoneLoadBody, need_some hindex, if_neg hrank, named_some (indexBelow_val k)]
  exact if_neg (Int.not_lt.2 hbox)

theorem zoneLoadWrite_of_other {r : Request} {k : ZoneIndex} {z : ZoneRow} {s : State}
    (h : s.znu.current ≠ some (.entry k)) : zoneLoadWrite r k z s =
      .done (rowAdjusted r) (rowItems z ++ [item "ZONE_CHANGE" 0]) [] (s.setZnu (zoneLoaded k z s.znu)) := by
  simp only [zoneLoadWrite, h, decide_false, boolCode]
  rfl

theorem zoneLoadWrite_of_current {r : Request} {k : ZoneIndex} {z : ZoneRow} {s : State}
    (h : s.znu.current = some (.entry k)) : zoneLoadWrite r k z s =
      .done (rowAdjusted r) (rowItems z ++ [item "ZONE_CHANGE" 1]) []
        (zoneChange (zoneAfterLoad k z) .load (s.setZnu (zoneLoaded k z s.znu))) := by
  simp only [zoneLoadWrite, h, decide_true, boolCode, if_true]
  rfl

theorem zoneDefaultsBody_of_plain {r : Request} {s : State} (hrank : rankItems r ≠ .bad)
    (hfall : fallbackBad (arg "FALLBACK" r) = false)
    (h : termsPresent r = false ∨ s.znu.current ≠ some .default) : zoneDefaultsBody r s =
      .done (defaultsAdjusted r) (defaultsItems (defaultsWritten r s.znu) false) []
        (s.setZnu (defaultsWritten r s.znu)) := by
  have hno : (termsPresent r && decide (s.znu.current = some .default)) = false := by
    rcases h with h | h <;> simp [h]
  rw [zoneDefaultsBody, if_neg hrank, if_neg (by simp [hfall])]
  simp only [hno]
  rfl

theorem zoneDefaultsBody_of_change {r : Request} {s : State} (hrank : rankItems r ≠ .bad)
    (hfall : fallbackBad (arg "FALLBACK" r) = false) (hterms : termsPresent r = true)
    (hcurrent : s.znu.current = some .default) : zoneDefaultsBody r s =
      .done (defaultsAdjusted r) (defaultsItems (defaultsWritten r s.znu) true) []
        (zoneChange .default .load (s.setZnu (defaultsWritten r s.znu))) := by
  rw [zoneDefaultsBody, if_neg hrank, if_neg (by simp [hfall])]
  simp only [hterms, hcurrent, decide_true, Bool.and_self, if_true]

theorem defaultsWritten_current (r : Request) (u : Znu) : (defaultsWritten r u).current = u.current := by
  unfold defaultsWritten
  dsimp only
  split <;> rfl

theorem defaultsWritten_zoneChanges (r : Request) (u : Znu) :
    (defaultsWritten r u).zoneChanges = u.zoneChanges := by
  unfold defaultsWritten
  dsimp only
  split <;> rfl

/-- Settles O38: the items one by one, then the two requests with and without a zone change. -/
theorem zoneTablesAreWritten : Obligations.ZoneTablesAreWritten := by
  unfold Obligations.ZoneTablesAreWritten
  refine ⟨fun lo hi old v => ⟨rfl, clampedNat_some v⟩, fun old v => ⟨rfl, clampedBool_some old v⟩,
    fun r z => ⟨rfl, clampedInt_eq_getD .., clampedInt_eq_getD .., clampedInt_eq_getD ..,
      clampedInt_eq_getD .., rfl⟩,
    fun r x => ⟨termsWritten_region_val r x, rfl, fun p => perPath_get_tabulate _ p, fun h => ?absent,
      fun a b c d hd h0 h1 h2 h3 => ?order⟩,
    fun r u => ?defaults,
    fun k r s hrank => ⟨fun hhead hindex hbox => ⟨fun hother => ?load, fun hcurrent => ?loadCurrent⟩,
      fun hhead hfall => ⟨fun h => ?plain, fun hterms hcurrent => ?change⟩⟩⟩
  case absent => simp only [termsWritten, rankItems_of_absent h, rankWritten]
  case order => simp only [termsWritten, rankItems_of_order hd h0 h1 h2 h3, rankWritten]
  case defaults =>
    obtain ⟨hrest, hterms, hfallback, htimeout⟩ := defaultsWritten_fields r u
    refine ⟨hrest, hterms, fun h => ?_, fun z h => ?_, fun h => ?_, fun v h => ?_, fun h => ?_, fun v h => ?_⟩
    · rw [hfallback, h]; rfl
    · rw [hfallback, h, fallbackFrom_zoneNum]
    · rw [htimeout, h]; rfl
    · rw [htimeout, h, clampedNat_some]; rfl
    · rw [defaultsWritten_of_absent u h]; exact ⟨rfl, rfl, rfl⟩
    · rw [defaultsWritten_of_present u h]
      exact ⟨clampedNat_some (old := u.confirm) v, rfl, rfl⟩
  case load =>
    exact request_ship_done hhead (by simp [requestNames])
      ((zoneLoadBody_of_items (s := dropRequest .ship s) hrank hindex hbox).trans
        (zoneLoadWrite_of_other (s := dropRequest .ship s) hother))
  case loadCurrent =>
    have hbody := (zoneLoadBody_of_items (s := dropRequest .ship s) hrank hindex hbox).trans
      (zoneLoadWrite_of_current (s := dropRequest .ship s) hcurrent)
    refine ⟨_, request_ship_done hhead (by simp [requestNames]) hbody, ?_, zoneChange_pendingNotice ..,
      zoneChange_allMarked _ _ _, frame_of_outsideZoneChange (outsideZoneChange_zoneChange ..)⟩
    refine (zoneChange_znu _ _ _).trans ?_
    rw [← hcurrent]
    rfl
  case plain =>
    exact request_ship_done hhead (by simp [requestNames])
      (zoneDefaultsBody_of_plain (s := dropRequest .ship s) hrank hfall h)
  case change =>
    have hbody := zoneDefaultsBody_of_change (s := dropRequest .ship s) hrank hfall hterms hcurrent
    refine ⟨_, request_ship_done hhead (by simp [requestNames]) hbody, ?_, zoneChange_pendingNotice ..,
      zoneChange_allMarked _ _ _, frame_of_outsideZoneChange (outsideZoneChange_zoneChange ..)⟩
    refine (zoneChange_znu _ _ _).trans ?_
    have hprev := (defaultsWritten_current r s.znu).trans hcurrent
    have hcount := defaultsWritten_zoneChanges r s.znu
    show zoneRecord (defaultsWritten r s.znu) .default .load = _
    rw [zoneRecord, hprev, hcount]

end Sys2Proof.Machine
end


section
/-! SUPPORT. Records, removals and the sweep: what a flush, a drain, a release and a removal write, and the work a
sweep visit does. -/

namespace Sys2Proof.Machine

/-! ## The engine after a refresh -/

/-- A refresh makes the engine run exactly while a mark is owed, and counts a run that ends (R89). -/
theorem refreshEngine_rse (s : State) : (refreshEngine s).rse = { s.rse with
    running := marksOwed s, runs := s.rse.runs + if s.rse.running && !marksOwed s then 1 else 0 } := by
  unfold refreshEngine
  split
  · next hr hm => simp [hr, hm]
  · next hr hm => simp [hr, hm]
  · next hidle hrun =>
    have hsame : marksOwed s = s.rse.running := by
      cases hr : s.rse.running <;> cases hm : marksOwed s <;> simp_all
    simp [hsame]

theorem marksOwed_refreshEngine (s : State) : marksOwed (refreshEngine s) = marksOwed s := by
  unfold marksOwed
  rw [refreshEngine_vtb]

theorem bulkClose_rse (s : State) : (bulkClose s).rse = { s.rse with
    running := marksOwed (bulkClose s)
    runs := s.rse.runs + if s.rse.running && !marksOwed (bulkClose s) then 1 else 0 } := by
  unfold bulkClose
  rw [refreshEngine_rse, marksOwed_refreshEngine]
  rfl

/-- A mark that is set stays set under close marks. -/
theorem marksOwed_bulkClose {s : State} (h : marksOwed s = true) : marksOwed (bulkClose s) = true := by
  unfold bulkClose
  rw [marksOwed_refreshEngine]
  obtain ⟨e, he, hm⟩ := List.any_eq_true.1 h
  refine List.any_eq_true.2 ⟨(e.1, setCloseMark e.2), List.mem_map.2 ⟨e, he, rfl⟩, ?_⟩
  unfold setCloseMark
  split
  · simp
  · exact hm

/-- No run ends under close marks where the engine runs for a mark. -/
theorem bulkClose_runs {s t : State} (h : EngineLaw s) (ht : t.vtb = s.vtb) (hr : t.rse.running = s.rse.running) :
    (bulkClose t).rse.runs = t.rse.runs := by
  have hlaw : t.rse.running = marksOwed t := by
    rw [hr, h]
    unfold marksOwed
    rw [ht]
  rw [bulkClose_rse]
  cases hm : marksOwed t
  · simp [hlaw, hm]
  · simp [hlaw, hm, marksOwed_bulkClose hm]

theorem setCloseMark_lifecycle (v : Visitor) : (setCloseMark v).lifecycle = v.lifecycle := by
  unfold setCloseMark
  split <;> rfl

theorem setCloseMark_of_open {v : Visitor} (h : lifecycleOpen v.lifecycle = true) :
    setCloseMark v = { v with closeMark := true } := if_pos h

theorem setCloseMark_of_shut {v : Visitor} (h : lifecycleOpen v.lifecycle = false) : setCloseMark v = v :=
  if_neg (by simp [h])

theorem setCloseMark_rest (v : Visitor) :
    { setCloseMark v with closeMark := false } = { v with closeMark := false } := by
  unfold setCloseMark
  split <;> rfl

/-- Every entry with an open record carries a close mark after close marks are set (R86). -/
theorem bulkClose_marked {s : State} {i : Nat}
    (h : lifecycleOpen ((bulkClose s).visitor i).lifecycle = true) :
    ((bulkClose s).visitor i).closeMark = true := by
  rw [bulkClose_visitor, setCloseMark_lifecycle] at h
  rw [bulkClose_visitor, setCloseMark_of_open h]

theorem voyage_visitor (s : State) (i : Nat) :
    (s.setVtb { s.vtb with entries := tableMap voyageVisitor s.vtb.entries }).visitor i =
      voyageVisitor (s.visitor i) := tableRead_map _ _ rfl _ _

/-! ## RECORD_FLUSH, RECORD_INTERVAL and VOYAGE_START -/

/-- Settles O41: each request is one body; the flush is close marks under the reason FLUSH. -/
theorem flushIntervalAndVoyage : Obligations.FlushIntervalAndVoyage := by
  unfold Obligations.FlushIntervalAndVoyage
  intro r s
  refine ⟨fun hhead => ?flush, fun v n hhead harg hn => ?interval, fun hhead => ?voyage⟩
  case flush =>
    let u := (dropRequest .ship s).setRse { s.rse with closeReason := .flush }
    have hvis : ∀ i, (bulkClose u).visitor i = setCloseMark (s.visitor i) := bulkClose_visitor u
    refine ⟨_, request_ship_done hhead (by simp [requestNames]) rfl, bulkClose_rse u,
      fun hlaw => bulkClose_runs (t := u) hlaw rfl rfl, fun i hi => bulkClose_marked (s := u) hi,
      fun i hi => ?_, fun i => ?_, ?_, ?_⟩
    · have hi' : lifecycleOpen ((bulkClose u).visitor i).lifecycle = false := hi
      rw [hvis, setCloseMark_lifecycle] at hi'
      exact (hvis i).trans (setCloseMark_of_shut hi')
    · exact (congrArg (fun v : Visitor => { v with closeMark := false }) (hvis i)).trans (setCloseMark_rest _)
    · show { (bulkClose u).vtb with entries := s.vtb.entries } = s.vtb
      unfold bulkClose
      rw [refreshEngine_vtb]
      rfl
    · exact congrArg (doneAt r [] false _ []) (bulkClose_frame u)
  case interval =>
    obtain rfl : n = (clamp 0 240 v).toNat := (clamp_toNat_eq hn).symm
    refine request_ship_done hhead (by simp [requestNames]) ?_
    rw [recordIntervalBody, need_some harg]
    simp only [outside, Bool.decide_or]
    rfl
  case voyage =>
    refine ⟨_, request_ship_done hhead (by simp [requestNames]) rfl,
      fun i hi => (voyage_visitor (dropRequest .ship s) i).trans (if_neg hi),
      fun i hi => (voyage_visitor (dropRequest .ship s) i).trans (if_pos hi), rfl, rfl⟩

/-! ## RECORD_DRAIN -/

/-- A drain's records and queue after the cursor has been placed (R74, R75). -/
theorem recordDrainBody_of_placed {v : Int} {c : BitVec 32} {r : Request} {s : State}
    (hcount : arg "COUNT" r = some v)
    (hrewind : arg "REWIND" r = none ∧ c = s.rcq.cursorSeq ∨ arg "REWIND" r = some 0 ∧ c = s.rcq.cursorSeq ∨
      arg "REWIND" r = some 1 ∧ c = headSeq s.rcq) :
    recordDrainBody r s = (fun out : List Record =>
      Answer.done (outside 1 16 (some v))
        [item "RECORD_COUNT" out.length, item "HELD" (held s.rcq), itemC "HEAD_SEQ" (headSeq s.rcq),
         itemC "NEXT_SEQ" s.rcq.nextSeq] out
        (s.setRcq (issued out.length { s.rcq with cursorSeq := c })))
      (drained (clamp 1 16 v).toNat { s.rcq with cursorSeq := c }) := by
  have hplaced : rewound (clampedBool false (arg "REWIND" r)) s.rcq = { s.rcq with cursorSeq := c } := by
    rcases hrewind with ⟨h, rfl⟩ | ⟨h, rfl⟩ | ⟨h, rfl⟩ <;> rw [h] <;> rfl
  have hinside : outsideBool (arg "REWIND" r) = false := by
    rcases hrewind with ⟨h, -⟩ | ⟨h, -⟩ | ⟨h, -⟩ <;> rw [h] <;> rfl
  rw [recordDrainBody, need_some hcount, hplaced, hinside, Bool.or_false]
  rfl

/-- Settles O42: the cursor is placed, and the rest is what a drain from it sends. -/
theorem drainSendsFromCursor : Obligations.DrainSendsFromCursor := by
  unfold Obligations.DrainSendsFromCursor
  intro v c r s hhead hcount hrewind
  refine ⟨_, _, request_ship_done hhead (by simp [requestNames])
    (recordDrainBody_of_placed (s := dropRequest .ship s) hcount hrewind), rfl, rfl, ?_, ?_, rfl, rfl, rfl, rfl,
    rfl, rfl⟩
  · show outside 1 16 (some v) = _
    simp only [outside, Bool.decide_or]
  · have hclamp : (clamp 1 16 v).toNat = (max 1 (min 16 v)).toNat := rfl
    rw [← hclamp]
    rfl

/-! ## RECORD_RELEASE -/

/-- A request that writes entries, records, the engine and notice sources leaves the rest but its slot and queue. -/
theorem doneAt_frame {r : Request} {taken : List Name} {adjusted : Bool} {items : List Item}
    {records : List Record} {s t : State} (h : t = { dropRequest .ship s with
      vtb := t.vtb, rcq := t.rcq, rse := t.rse, ntu := t.ntu }) :
    doneAt r taken adjusted items records t = { s with
      shi := (doneAt r taken adjusted items records t).shi, vtb := t.vtb, rcq := t.rcq, rse := t.rse,
      ntu := t.ntu } := by
  rw [h]
  rfl

theorem recordReleaseBody_of_seq {q : BitVec 32} {r : Request} {s : State}
    (h : arg "SEQ" r = some (q.toNat : Int)) : recordReleaseBody r s = releaseUpTo q s := by
  have hq := q.isLt
  rw [recordReleaseBody, need_some h, if_neg (by simp only [Config.max32]; omega), ofInt_toNat]

/-- A release touches the entries, the engine and the notice sources besides the queue (R77). -/
theorem releaseEntry_frame (i : Nat) (r : OpenRecord) (s : State) : releaseEntry i r s = { s with
    vtb := (releaseEntry i r s).vtb, rse := (releaseEntry i r s).rse, ntu := (releaseEntry i r s).ntu } := by
  unfold releaseEntry
  dsimp only
  split
  · unfold becomeFree
    rw [refreshEngine_frame, dropCredit_frame]
    rfl
  · rfl

theorem releaseRecords_frame : ∀ (n : Nat) (s : State), releaseRecords n s = { s with
    vtb := (releaseRecords n s).vtb, rcq := (releaseRecords n s).rcq, rse := (releaseRecords n s).rse,
    ntu := (releaseRecords n s).ntu }
  | 0, _ => rfl
  | n + 1, s => by
    unfold releaseRecords
    split
    · rfl
    · next r left _ =>
      rw [releaseRecords_frame n, releaseHead, releaseEntry_frame]
      rfl

theorem cursorForward_frame (q : Rcq) (n : Nat) (s : State) :
    cursorForward q n s = { s with rcq := (cursorForward q n s).rcq } := by
  unfold cursorForward
  split <;> rfl

/-- A release touches the entries, the queue, the engine and the notice sources alone. -/
theorem release_frame (q : Rcq) (n : Nat) (s : State) : cursorForward q n (releaseRecords n s) = { s with
    vtb := (cursorForward q n (releaseRecords n s)).vtb, rcq := (cursorForward q n (releaseRecords n s)).rcq,
    rse := (cursorForward q n (releaseRecords n s)).rse, ntu := (cursorForward q n (releaseRecords n s)).ntu } := by
  rw [cursorForward_frame, releaseRecords_frame]

theorem releaseUpTo_of_count {q : BitVec 32} {n : Nat} {s : State} (h : releaseCount s.rcq q = n) :
    releaseUpTo q s = (fun t : State => .done (releaseClamped s.rcq q)
      [item "RELEASED" n, itemC "HEAD_SEQ" (headSeq t.rcq), item "HELD" (held t.rcq)] [] t)
      (cursorForward s.rcq n (releaseRecords n s)) := by subst h; rfl

/-- A release ahead of the head is clamped when it passes the limit (R76). -/
theorem releaseClamped_of_ahead {q : Rcq} {x : BitVec 32} (h : fromHead q x < 2 ^ 31) :
    releaseClamped q x = decide (releasable q < fromHead q x + 1) := by
  rw [releaseClamped, decide_eq_true h, Bool.true_and]

theorem releaseClamped_of_behind {q : Rcq} {x : BitVec 32} (h : 2 ^ 31 ≤ fromHead q x) :
    releaseClamped q x = false := by
  rw [releaseClamped, decide_eq_false (Nat.not_lt.2 h), Bool.false_and]

/-- The release of the head record alone. -/
theorem releaseUpTo_head {x : Record} {left : List Record} {s : State} (hx : s.rcq.records = x :: left)
    (hl : 1 ≤ (s.rcq.limitSeq - x.seq).toNat) : ∃ (items : List Item) (q : Rcq), q.records = left ∧
      releaseUpTo x.seq s = .done false items [] ((releaseHead x left s).setRcq q) := by
  have hhead : headSeq s.rcq = x.seq := by unfold headSeq; rw [hx]
  have hfrom : fromHead s.rcq x.seq = 0 := by unfold fromHead; rw [hhead]; simp
  have hlimit : releasable s.rcq = (s.rcq.limitSeq - x.seq).toNat := by unfold releasable fromHead; rw [hhead]
  have hcount : releaseCount s.rcq x.seq = 1 := by
    rw [releaseCount, hfrom, hlimit, if_neg (by norm_num)]
    exact Nat.min_eq_left hl
  have hclamped : releaseClamped s.rcq x.seq = false := by
    rw [releaseClamped_of_ahead (by rw [hfrom]; norm_num), hfrom, hlimit]
    exact decide_eq_false (Nat.not_lt.2 hl)
  have hone : releaseRecords 1 s = releaseHead x left s := by
    unfold releaseRecords
    rw [hx]
    rfl
  let u := cursorForward s.rcq 1 (releaseRecords 1 s)
  refine ⟨[item "RELEASED" 1, itemC "HEAD_SEQ" (headSeq u.rcq), item "HELD" (held u.rcq)], u.rcq, ?_, ?_⟩
  · rw [release_rcq, afterRelease, hx]
    rfl
  · rw [releaseUpTo_of_count hcount, hclamped, ← hone]
    exact congrArg (Answer.done false _ []) (cursorForward_frame _ _ _)

/-- A released record's charge is settled while its visitor stays in the table (R77). -/
theorem releaseEntry_of_stays {i : Nat} {o : OpenRecord} {s : State}
    (h : (s.visitor i).lifecycle = .closing → queuedFor s.rcq i ≠ 0) : releaseEntry i o s =
      s.setVisitor i { s.visitor i with settled := (s.visitor i).settled + recordCharge o } :=
  if_neg fun hc => h hc.1 hc.2

/-- The last record of a CLOSING visitor frees its entry (R77). -/
theorem releaseEntry_of_last {i : Nat} {o : OpenRecord} {s : State}
    (hc : (s.visitor i).lifecycle = .closing) (hq : queuedFor s.rcq i = 0) : releaseEntry i o s =
      becomeFree i (s.setVisitor i { s.visitor i with settled := (s.visitor i).settled + recordCharge o }) :=
  if_pos ⟨hc, hq⟩

theorem becomeFree_visitor_self {s : State} (i : Nat) (h : TableLaw s) :
    (becomeFree i s).visitor i = Visitor.freeEntry := by
  unfold becomeFree
  rw [refreshEngine_visitor, State.visitor, dropCredit_vtb]
  exact setVisitor_visitor_of_wf h i _

theorem becomeFree_visitor_ne {i j : Nat} (s : State) (h : j ≠ i) :
    (becomeFree i s).visitor j = s.visitor j := by
  unfold becomeFree
  rw [refreshEngine_visitor, State.visitor, dropCredit_vtb]
  exact setVisitor_visitor_ne s _ h

theorem refreshCredit_creditList (s : State) : (refreshCredit s).ntu.creditList = s.ntu.creditList := by
  unfold refreshCredit
  split <;> rfl

/-- An entry that becomes FREE leaves the credit notice list (R180). -/
theorem dropCredit_creditList (i : Nat) (s : State) :
    (dropCredit i s).ntu.creditList = s.ntu.creditList.filter (fun j => j != i) := by
  unfold dropCredit
  split
  · rw [refreshCredit_creditList]
    rfl
  · next h =>
    refine (List.filter_eq_self.2 fun j hj => ?_).symm
    rw [bne_iff_ne]
    rintro rfl
    exact h hj

theorem becomeFree_creditList (i : Nat) (s : State) :
    (becomeFree i s).ntu.creditList = s.ntu.creditList.filter (fun j => j != i) := by
  unfold becomeFree
  rw [refreshEngine_ntu, dropCredit_creditList]
  rfl

theorem queuedFor_ne_zero_iff {q : Rcq} {i : Nat} :
    queuedFor q i ≠ 0 ↔ ∃ y ∈ q.records, y.index = i := by
  simp [queuedFor]

theorem queuedFor_eq_zero_iff {q : Rcq} {i : Nat} :
    queuedFor q i = 0 ↔ ∀ y ∈ q.records, y.index ≠ i := by
  simp [queuedFor]

/-- The release of a head record whose visitor stays (R77 step 2). -/
theorem releaseHead_of_stays {x : Record} {left : List Record} {s : State}
    (h : (s.visitor x.index).lifecycle = .attached ∨
      (s.visitor x.index).lifecycle = .closing ∧ ∃ y ∈ left, y.index = x.index) :
    releaseHead x left s = (s.setRcq { s.rcq with records := left }).setVisitor x.index
      { s.visitor x.index with settled := (s.visitor x.index).settled + recordCharge x.contents } := by
  refine releaseEntry_of_stays fun hc => ?_
  rcases h with h | ⟨-, h⟩
  · exact absurd (h.symm.trans hc) (by decide)
  · exact queuedFor_ne_zero_iff.2 h

/-- Settles O43: none is released behind the head, else the queue is that after the count, and the head record's
entry is settled or freed. -/
theorem releaseSettlesHeadRecord : Obligations.ReleaseSettlesHeadRecord := by
  unfold Obligations.ReleaseSettlesHeadRecord
  intro q r s hhead harg
  have hname : nm "RECORD_RELEASE" ∈ requestNames := by simp [requestNames]
  have hbody : recordReleaseBody r (dropRequest .ship s) = releaseUpTo q (dropRequest .ship s) :=
    recordReleaseBody_of_seq harg
  refine ⟨fun hbehind => ?behind, fun d m hd hm hlt => ?upTo, fun x left hx hq hl => ⟨fun hstays => ?stays,
    fun htable hclosing hlast => ?last⟩⟩
  case behind =>
    refine request_ship_done hhead hname (hbody.trans ((releaseUpTo_of_count (s := dropRequest .ship s) (if_pos hbehind)).trans ?_))
    rw [releaseClamped_of_behind (q := (dropRequest .ship s).rcq) hbehind]
    rfl
  case upTo =>
    subst hd hm
    have hcount : releaseCount s.rcq q =
        min ((q - headSeq s.rcq).toNat + 1) (s.rcq.limitSeq - headSeq s.rcq).toNat :=
      if_neg (Nat.not_le.2 hlt)
    have hdone := hbody.trans (releaseUpTo_of_count (s := dropRequest .ship s) hcount)
    generalize min ((q - headSeq s.rcq).toNat + 1) (s.rcq.limitSeq - headSeq s.rcq).toNat = n at hdone ⊢
    have hqueue := release_rcq n (dropRequest .ship s)
    refine ⟨_, _, request_ship_done hhead hname hdone, ?_, rfl, rfl, releaseClamped_of_ahead hlt, rfl,
      doneAt_frame (release_frame _ n (dropRequest .ship s))⟩
    refine hqueue.trans ?_
    show _ = Rcq.mk _ _ (if _ then headSeq (cursorForward s.rcq n (releaseRecords n (dropRequest .ship s))).rcq
      else _) _ _
    rw [show (cursorForward s.rcq n (releaseRecords n (dropRequest .ship s))).rcq = _ from hqueue]
    rfl
  case stays =>
    subst hq
    obtain ⟨items, q', hq', hdone⟩ := releaseUpTo_head (s := dropRequest .ship s) hx hl
    refine ⟨_, request_ship_done hhead hname (hbody.trans hdone), hq', ?_, fun j hj => ?_, ?_, ?_⟩
    all_goals
      rw [releaseHead_of_stays (s := dropRequest .ship s) hstays]
    · refine setVisitor_visitor_self (ne_freeEntry_of_lifecycle fun hf => ?_)
      rcases hstays with h | ⟨h, -⟩ <;> exact absurd (h.symm.trans hf) (by decide)
    · exact setVisitor_visitor_ne _ _ hj
    · rfl
    · rfl
  case last =>
    subst hq
    obtain ⟨items, q', hq', hdone⟩ := releaseUpTo_head (s := dropRequest .ship s) hx hl
    have hfree := releaseEntry_of_last (o := x.contents)
      (s := (dropRequest .ship s).setRcq { s.rcq with records := left }) hclosing (queuedFor_eq_zero_iff.2 hlast)
    refine ⟨_, request_ship_done hhead hname (hbody.trans hdone), hq', ?_, fun j hj => ?_, ?_⟩
    · exact (congrArg (fun t : State => t.visitor x.index) hfree).trans
        (becomeFree_visitor_self _ (setVisitor_wf (s := s) htable _ _))
    · exact ((congrArg (fun t : State => t.visitor j) hfree).trans (becomeFree_visitor_ne _ hj)).trans
        (setVisitor_visitor_ne _ _ hj)
    · exact (congrArg (fun t : State => t.ntu.creditList) hfree).trans (becomeFree_creditList _ _)

end Sys2Proof.Machine
end


section
/-! SUPPORT. VISITOR_REMOVE and the sweep: what a removal leaves of the entry, and the close and the review that an
entry owes. -/

namespace Sys2Proof.Machine

/-! ## VISITOR_REMOVE -/

theorem visitorRemoveBody_of_provisioned {i : Fin 4096} {r : Request} {s : State}
    (h : arg "INDEX" r = some (i.val : Int)) (hl : (s.visitor i.val).lifecycle = .provisioned) :
    visitorRemoveBody r s = removeProvisioned i.val s := by
  rw [visitorRemoveBody, needEntry_of_index h]
  simp only [hl]

theorem visitorRemoveBody_of_attached {i : Fin 4096} {r : Request} {s : State}
    (h : arg "INDEX" r = some (i.val : Int)) (hl : (s.visitor i.val).lifecycle = .attached) :
    visitorRemoveBody r s = removeAttached i.val s := by
  rw [visitorRemoveBody, needEntry_of_index h]
  simp only [hl]

theorem becomeFree_frame (i : Nat) (s : State) : becomeFree i s = { s with
    vtb := (becomeFree i s).vtb, rse := (becomeFree i s).rse, ntu := (becomeFree i s).ntu } := by
  unfold becomeFree
  rw [refreshEngine_frame, dropCredit_frame]
  rfl

theorem removeSettled_frame (i : Nat) (s : State) : removeSettled i s = { s with
    vtb := (removeSettled i s).vtb, rse := (removeSettled i s).rse, ntu := (removeSettled i s).ntu } := by
  unfold removeSettled
  split
  · exact becomeFree_frame i s
  · rw [refreshEngine_frame]

/-- On top of what has written entries, records and notices, the removal's end writes entries, engine and notices. -/
theorem removeSettled_frame_of {i : Nat} {s u : State}
    (h : u = { s with vtb := u.vtb, rcq := u.rcq, ntu := u.ntu }) : removeSettled i u = { s with
      vtb := (removeSettled i u).vtb, rcq := (removeSettled i u).rcq, rse := (removeSettled i u).rse,
      ntu := (removeSettled i u).ntu } := by
  refine (removeSettled_frame i u).trans ?_
  rw [removeSettled_rcq]
  exact congrArg (fun t : State => { t with
    vtb := (removeSettled i u).vtb, rse := (removeSettled i u).rse, ntu := (removeSettled i u).ntu }) h

theorem removeSettled_visitor_ne {i j : Nat} (s : State) (h : j ≠ i) :
    (removeSettled i s).visitor j = s.visitor j := by
  unfold removeSettled
  split
  · exact becomeFree_visitor_ne s h
  · rw [refreshEngine_visitor]

/-- The entry becomes FREE where the queue names it no more (R28 step 4). -/
theorem removeSettled_of_last {i : Nat} {s : State} (htable : TableLaw s) (h : queuedFor s.rcq i = 0) :
    (removeSettled i s).visitor i = Visitor.freeEntry := by
  rw [removeSettled, if_pos h]
  exact becomeFree_visitor_self i htable

theorem removeSettled_of_named {i : Nat} {s : State} (h : queuedFor s.rcq i ≠ 0) :
    (removeSettled i s).visitor i = s.visitor i := by
  rw [removeSettled, if_neg h, refreshEngine_visitor]

/-- The entry of an ATTACHED visitor as its removal closes the record (R28 step 1). -/
def removalEntry (s : State) (i : Nat) : Visitor := { s.visitor i with reviewMark := false, closeMark := false }

theorem clearMarks_visitor_self {i : Nat} {s : State} (hl : (s.visitor i).lifecycle ≠ .free) :
    (clearMarks i s).visitor i = removalEntry s i :=
  setVisitor_visitor_self (ne_freeEntry_of_lifecycle hl)

/-- A removal from ATTACHED up to its close: CLOSING without marks, with the record closed as any other (R28). -/
theorem removeClosing_outcome {i : Nat} {o : OpenRecord} {s : State} (htable : TableLaw s)
    (hl : (s.visitor i).lifecycle = .attached) (ho : (s.visitor i).openRecord = some o) :
    ∃ (t : State) (out : CloseOutcome), removeClosing i s = (t, out) ∧ TableLaw t ∧
      (∃ a n, t.visitor i = { removalEntry s i with
        lifecycle := .closing, openRecord := some (openNow (clearMarks i s) (removalEntry s i)), spilled := a,
        spillCount := n } ∧
        (holdsTraffic o = true → 1024 ≤ held s.rcq → a = (s.visitor i).spilled + (o.charge + o.feeCharged))) ∧
      (∀ j, j ≠ i → t.visitor j = s.visitor j) ∧
      t = { s with vtb := t.vtb, rcq := t.rcq, ntu := t.ntu } ∧
      (holdsTraffic o = false → t.rcq = s.rcq) ∧
      (holdsTraffic o = true → held s.rcq < 1024 → t.rcq.records = s.rcq.records ++
        [{ seq := s.rcq.nextSeq, index := i, tag := (s.visitor i).tag, reason := .removed,
           closeTime := s.cfu.clock, contents := o }]) ∧
      (holdsTraffic o = true → 1024 ≤ held s.rcq → t.rcq.records = s.rcq.records ∧
        t.rcq.spills = s.rcq.spills + 1) := by
  have hself : (clearMarks i s).visitor i = removalEntry s i :=
    clearMarks_visitor_self (by rw [hl]; decide)
  obtain ⟨u, out, hclose, hvis, hother, hframe, hempty, hqueued, hspilled⟩ :=
    closeHasThreeOutcomes.2.2 i .removed o (clearMarks i s) (by rw [hself]; exact ho)
      (by rw [hself]; exact fun h => absurd (hl.symm.trans h) (by decide))
  have hu : (closeRecord i .removed (clearMarks i s)).1 = u := congrArg Prod.fst hclose
  have htable_u : TableLaw u := hu ▸ closeRecord_table .removed (setVisitor_wf htable i _)
  refine ⟨u.setVisitor i { u.visitor i with lifecycle := .closing }, out, ?_, setVisitor_wf htable_u i _,
    ⟨(u.visitor i).spilled, (u.visitor i).spillCount, ?_, ?_⟩, fun j hj => ?_, ?_, ?_, ?_, ?_⟩
  · rw [removeClosing, hclose]
  · rw [setVisitor_visitor_of_wf htable_u]
    rw [hself] at hvis
    exact congrArg (fun v : Visitor => { v with lifecycle := .closing }) hvis
  · intro ht hq
    obtain ⟨-, -, -, -, hmoney, -⟩ := hspilled ht hq
    rw [hmoney, hself, Nat.add_assoc]
    rfl
  · rw [setVisitor_visitor_ne _ _ hj, hother j hj]
    exact setVisitor_visitor_ne s _ hj
  · rw [hframe]
    rfl
  · exact fun ht => (hempty ht).2.1
  · intro ht hq
    obtain ⟨-, hrecords, -⟩ := hqueued ht hq
    exact hrecords.trans (by rw [hself]; rfl)
  · intro ht hq
    obtain ⟨-, hrecords, -, hspills, -⟩ := hspilled ht hq
    exact ⟨hrecords, hspills⟩

/-- Settles O45: a PROVISIONED entry becomes FREE; an ATTACHED one closes its record and becomes FREE where the
queue names it no more. -/
theorem visitorRemoveClosesOrFrees : Obligations.VisitorRemoveClosesOrFrees := by
  unfold Obligations.VisitorRemoveClosesOrFrees
  intro i r s hhead htable harg
  have hname : nm "VISITOR_REMOVE" ∈ requestNames := by simp [requestNames]
  refine ⟨fun hl => ?provisioned, fun o hl ho => ?attached⟩
  case provisioned =>
    have hbody := visitorRemoveBody_of_provisioned (s := dropRequest .ship s) harg hl
    refine ⟨_, request_ship_done hhead hname hbody, becomeFree_visitor_self _ htable,
      fun j hj => becomeFree_visitor_ne (dropRequest .ship s) hj, ?_⟩
    rw [becomeFree_frame]
    rfl
  case attached =>
    have hbody := visitorRemoveBody_of_attached (s := dropRequest .ship s) harg hl
    obtain ⟨u, out, hclosing, htable_u, ⟨a, n, hvis, hspilled⟩, hother, hframe, hempty, hqueued, hfull⟩ :=
      removeClosing_outcome (s := dropRequest .ship s) htable hl ho
    rw [removeAttached, hclosing] at hbody
    have hrcq : (removeSettled i.val u).rcq = u.rcq := removeSettled_rcq i.val u
    refine ⟨_, request_ship_done hhead hname hbody,
      fun j hj => (removeSettled_visitor_ne u hj).trans (hother j hj), doneAt_frame ?_, fun ht hq => ?_,
      fun ht hq => ⟨(congrArg Rcq.records hrcq).trans (hfull ht hq).1,
        (congrArg Rcq.spills hrcq).trans (hfull ht hq).2, fun h0 => ?_, fun h0 => ?_⟩,
      fun ht => ⟨hrcq.trans (hempty ht), fun h0 => ?_, fun h0 => ?_⟩⟩
    · exact removeSettled_frame_of hframe
    · have hnamed : queuedFor u.rcq i.val ≠ 0 :=
        queuedFor_ne_zero_iff.2 (by rw [hqueued ht hq]; exact ⟨_, List.mem_append_right _ (List.mem_singleton_self _), rfl⟩)
      have hentry := (removeSettled_of_named hnamed).trans hvis
      exact ⟨congrArg Visitor.lifecycle hentry, congrArg Visitor.reviewMark hentry,
        congrArg Visitor.closeMark hentry, (congrArg Visitor.charged hentry :),
        (congrArg Rcq.records hrcq).trans (hqueued ht hq)⟩
    · exact removeSettled_of_last htable_u (by rw [queuedFor, (hfull ht hq).1]; exact h0)
    · have hentry := (removeSettled_of_named (by rw [queuedFor, (hfull ht hq).1]; exact h0)).trans hvis
      exact ⟨congrArg Visitor.lifecycle hentry, (congrArg Visitor.spilled hentry).trans (hspilled ht hq)⟩
    · exact removeSettled_of_last htable_u (by rw [hempty ht]; exact h0)
    · have hentry := (removeSettled_of_named (by rw [hempty ht]; exact h0)).trans hvis
      exact ⟨congrArg Visitor.lifecycle hentry, (congrArg Visitor.charged hentry :)⟩

end Sys2Proof.Machine
end


section
/-! SUPPORT. The sweep: the close and the review that an entry owes, a visit, and the interval expiry. -/

namespace Sys2Proof.Machine

/-! ## A review of an entry with an open record -/

/-- The queue after a close goes by the entry's record and tag, the queue and the clock alone (R64). -/
theorem closeRecord_rcq_congr {i : Nat} (why : CloseReason) {s t : State} {r : OpenRecord}
    (hs : (s.visitor i).openRecord = some r) (ht : (t.visitor i).openRecord = some r)
    (htag : (t.visitor i).tag = (s.visitor i).tag) (hq : t.rcq = s.rcq) (hc : t.cfu = s.cfu) :
    (closeRecord i why t).1.rcq = (closeRecord i why s).1.rcq := by
  cases hr : holdsTraffic r with
  | false =>
    rw [closeRecord_of_empty hs hr, closeRecord_of_empty ht hr]
    exact hq
  | true =>
    by_cases hroom : held s.rcq < Config.recordQueueSize
    · rw [closeRecord_of_room hs hr hroom, closeRecord_of_room ht hr (hq ▸ hroom)]
      show (joinQueue i (t.visitor i).tag why r t).rcq = (joinQueue i (s.visitor i).tag why r s).rcq
      rw [joinQueue_rcq, joinQueue_rcq, htag, hq, hc]
    · have hfull := Nat.not_lt.1 hroom
      rw [closeRecord_of_full hs hr hfull, closeRecord_of_full ht hr (hq ▸ hfull)]
      show (spillRecord i r t).rcq = (spillRecord i r s).rcq
      rw [spillRecord_rcq, spillRecord_rcq, hq]

/-- The entry as a review evaluates it (R66). -/
def reviewed (s : State) (i : Nat) : Visitor :=
  { s.visitor i with roaming := roamingNow s (s.visitor i).partner }

/-- The state of a review before the comparison: ROAMING evaluated and the review counted (R66). -/
def evaluated (s : State) (i : Nat) : State :=
  (s.setVisitor i (reviewed s i)).setRse { s.rse with reviews := s.rse.reviews + 1 }

theorem evaluated_visitor {s : State} {i : Nat} (h : reviewed s i ≠ Visitor.freeEntry) :
    (evaluated s i).visitor i = reviewed s i := setVisitor_visitor_self h

/-- A review of an entry with an open record compares it after the evaluation (R66). -/
theorem review_of_open {i : Nat} {s : State} {r : OpenRecord} (hr : (s.visitor i).openRecord = some r) :
    review i s = ((recordDifference s (reviewed s i) r).elim (evaluated s i) fun why =>
      (closeRecord i why ((evaluated s i).setRse { (evaluated s i).rse with
        rateBreaks := s.rse.rateBreaks + 1 })).1) := by
  have hd : recordDifference (evaluated s i) (reviewed s i) r = recordDifference s (reviewed s i) r := rfl
  unfold review
  dsimp only
  split
  · next hn => exact absurd (hn.symm.trans hr) (by simp)
  · next o ho =>
    obtain rfl : o = r := Option.some.inj (ho.symm.trans hr)
    rw [← hd]
    split
    · next hw =>
      rw [show recordDifference (evaluated s i) (reviewed s i) o = none from hw]
      rfl
    · next why hw =>
      rw [show recordDifference (evaluated s i) (reviewed s i) o = some why from hw]
      rfl

theorem review_of_same {i : Nat} {s : State} {r : OpenRecord} (hr : (s.visitor i).openRecord = some r)
    (h : recordDifference s (reviewed s i) r = none) : review i s = evaluated s i := by
  rw [review_of_open hr, h]
  rfl

/-- A review that finds a difference closes the record with it (R66). -/
theorem review_of_difference {i : Nat} {s : State} {r : OpenRecord} {why : CloseReason}
    (hr : (s.visitor i).openRecord = some r) (h : recordDifference s (reviewed s i) r = some why) :
    review i s = (closeRecord i why ((evaluated s i).setRse { (evaluated s i).rse with
      rateBreaks := s.rse.rateBreaks + 1 })).1 := by
  rw [review_of_open hr, h]
  rfl

/-- What a review that finds a difference leaves: the record closed with the reason, and one with the current snapshot
in its place (R66). -/
theorem review_of_difference_leaves {i : Nat} {s : State} {r : OpenRecord} {why : CloseReason}
    (hr : (s.visitor i).openRecord = some r) (h : recordDifference s (reviewed s i) r = some why) :
    (∃ a n, (review i s).visitor i = { reviewed s i with
        openRecord := some (openNow s (reviewed s i)), spilled := a, spillCount := n }) ∧
      (review i s).rcq = (closeRecord i why s).1.rcq ∧
      (review i s).rse = { s.rse with
        reviews := s.rse.reviews + 1, rateBreaks := s.rse.rateBreaks + 1 } := by
  have hself : (evaluated s i).visitor i = reviewed s i :=
    setVisitor_visitor_of_open (s := s) (v := reviewed s i) hr
  have hopen : ((evaluated s i).visitor i).openRecord = some r := by rw [hself]; exact hr
  rw [review_of_difference hr h]
  refine ⟨?_, closeRecord_rcq_congr why hr hopen (by
    show ((evaluated s i).visitor i).tag = _
    rw [hself]; rfl) rfl rfl, by rw [closeRecord_rse]; rfl⟩
  obtain ⟨a, n, hvis⟩ := closeRecord_visitor (s := (evaluated s i).setRse { (evaluated s i).rse with
    rateBreaks := s.rse.rateBreaks + 1 }) why hopen
  refine ⟨a, n, hvis.trans ?_⟩
  show (fun v : Visitor => { v with openRecord := some (openNow s v), spilled := a, spillCount := n })
    ((evaluated s i).visitor i) = _
  rw [hself]

/-- What a review that finds no difference leaves (R66). -/
theorem review_of_same_leaves {i : Nat} {s : State} {r : OpenRecord}
    (hr : (s.visitor i).openRecord = some r) (h : recordDifference s (reviewed s i) r = none) :
    (review i s).visitor i = reviewed s i ∧ (review i s).rcq = s.rcq ∧
      (review i s).rse = { s.rse with reviews := s.rse.reviews + 1 } := by
  rw [review_of_same hr h]
  exact ⟨setVisitor_visitor_of_open (s := s) (v := reviewed s i) hr, rfl, rfl⟩

/-! ## The first difference -/

section Difference

variable {s : State} {v : Visitor} {r : OpenRecord}

theorem recordDifference_of_same (hz : r.zone = s.znu.current) (hp : r.path = s.psl.active)
    (hprice : r.priceEff = priceNow s v) : recordDifference s v r = none := by
  simp [recordDifference, hz, hp, hprice]

theorem recordDifference_of_first {why : CloseReason}
    (h : r.zone ≠ s.znu.current ∧ why = .zone ∨
      r.zone = s.znu.current ∧ r.path ≠ s.psl.active ∧ why = .path ∨
      r.zone = s.znu.current ∧ r.path = s.psl.active ∧ r.priceEff ≠ priceNow s v ∧ why = .tariff) :
    recordDifference s v r = some why := by
  rcases h with ⟨hz, rfl⟩ | ⟨hz, hp, rfl⟩ | ⟨hz, hp, hprice, rfl⟩
  · simp [recordDifference, hz]
  · simp [recordDifference, hz, hp]
  · simp [recordDifference, hz, hp, hprice]

end Difference

/-! ## Owed work -/

theorem owedClose_of_unmarked {i : Nat} {s : State} (h : (s.visitor i).closeMark = false) :
    owedClose i s = s := if_neg (by simp [h])

theorem owedReview_of_unmarked {i : Nat} {s : State} (h : (s.visitor i).reviewMark = false) :
    owedReview i s = s := if_neg (by simp [h])

theorem owedWork_of_unmarked {i : Nat} {s : State} (hc : (s.visitor i).closeMark = false)
    (hr : (s.visitor i).reviewMark = false) : owedWork i s = s := if_neg (by simp [hc, hr])

theorem owedWork_of_marked {i : Nat} {s : State}
    (h : (s.visitor i).closeMark = true ∨ (s.visitor i).reviewMark = true) :
    owedWork i s = refreshEngine (owedReview i (owedClose i s)) := if_pos (by simpa using h)

/-- An owed close leaves a record with the current snapshot and no close mark (R88 step 1). -/
theorem owedClose_leaves {i : Nat} {s : State} {r : OpenRecord} (hr : (s.visitor i).openRecord = some r)
    (h : (s.visitor i).closeMark = true) :
    (∃ a n, (owedClose i s).visitor i = { s.visitor i with
        openRecord := some (openNow s (s.visitor i)), closeMark := false, spilled := a, spillCount := n }) ∧
      (owedClose i s).rcq = (closeRecord i (sweepCloseReason s.rse.closeReason) s).1.rcq := by
  obtain ⟨a, n, hvis⟩ := closeRecord_visitor (sweepCloseReason s.rse.closeReason) hr
  rw [owedClose, if_pos h]
  refine ⟨⟨a, n, ?_⟩, rfl⟩
  refine (setVisitor_visitor_of_open (r := openNow s (s.visitor i)) (by rw [hvis])).trans ?_
  rw [hvis]

/-- An owed review ends with its mark cleared (R88 step 2). -/
theorem owedReview_visitor {i : Nat} {s : State} {v : Visitor} {r : OpenRecord}
    (h : (s.visitor i).reviewMark = true) (hv : (review i s).visitor i = v) (hr : v.openRecord = some r) :
    (owedReview i s).visitor i = { v with reviewMark := false } := by
  rw [owedReview, if_pos h]
  exact (setVisitor_visitor_of_open (r := r) (by rw [hv]; exact hr)).trans (by rw [hv])

theorem owedReview_rcq {i : Nat} {s : State} (h : (s.visitor i).reviewMark = true) :
    (owedReview i s).rcq = (review i s).rcq := by
  rw [owedReview, if_pos h]
  rfl

theorem owedReview_rse {i : Nat} {s : State} (h : (s.visitor i).reviewMark = true) :
    (owedReview i s).rse = (review i s).rse := by
  rw [owedReview, if_pos h]
  rfl

/-- The engine's figures after owed work: a refresh moves RUNNING and RUNS alone. -/
theorem refreshEngine_figures (s : State) : (refreshEngine s).rse.reviews = s.rse.reviews ∧
    (refreshEngine s).rse.rateBreaks = s.rse.rateBreaks ∧ (refreshEngine s).rse.cursor = s.rse.cursor ∧
    { (refreshEngine s).rse with running := false, runs := 0 } = { s.rse with running := false, runs := 0 } := by
  rw [refreshEngine_rse]
  exact ⟨rfl, rfl, rfl, rfl⟩

/-! ## A visit to any entry -/

/-- What owed work may change in an entry. -/
def WorkedOn (v w : Visitor) : Prop := ∃ ro o a n b c, w = { v with
  roaming := ro, openRecord := o, spilled := a, spillCount := n, reviewMark := b, closeMark := c }

theorem WorkedOn.refl (v : Visitor) : WorkedOn v v := ⟨_, _, _, _, _, _, rfl⟩

theorem WorkedOn.trans {u v w : Visitor} (h : WorkedOn u v) (k : WorkedOn v w) : WorkedOn u w := by
  obtain ⟨ro, o, a, n, b, c, rfl⟩ := h
  obtain ⟨ro', o', a', n', b', c', rfl⟩ := k
  exact ⟨ro', o', a', n', b', c', rfl⟩

theorem WorkedOn.lifecycle {v w : Visitor} (h : WorkedOn v w) : w.lifecycle = v.lifecycle := by
  obtain ⟨ro, o, a, n, b, c, rfl⟩ := h
  rfl

theorem WorkedOn.charged {v w : Visitor} (h : WorkedOn v w) : w.charged = v.charged := by
  obtain ⟨ro, o, a, n, b, c, rfl⟩ := h
  rfl

theorem WorkedOn.write {s t : State} {i : Nat} {v : Visitor} (h : WorkedOn (s.visitor i) v)
    (hf : (s.visitor i).lifecycle ≠ .free) (ht : t.visitor i = (s.setVisitor i v).visitor i) : t.visitor i = v :=
  ht.trans (setVisitor_visitor_self (ne_freeEntry_of_lifecycle (h.lifecycle ▸ hf)))

/-- A close leaves the marks and works on its entry. -/
theorem closeRecord_workedOn (i : Nat) (why : CloseReason) (s : State) :
    WorkedOn (s.visitor i) ((closeRecord i why s).1.visitor i) ∧
      ((closeRecord i why s).1.visitor i).closeMark = (s.visitor i).closeMark ∧
      ((closeRecord i why s).1.visitor i).reviewMark = (s.visitor i).reviewMark := by
  cases hr : (s.visitor i).openRecord with
  | none =>
    rw [show closeRecord i why s = (s, .empty) by simp [closeRecord, hr]]
    exact ⟨.refl _, rfl, rfl⟩
  | some r =>
    obtain ⟨a, n, hv⟩ := closeRecord_visitor why hr
    rw [hv]
    exact ⟨⟨_, _, _, _, _, _, rfl⟩, rfl, rfl⟩

theorem review_workedOn {i : Nat} {s : State} (hf : (s.visitor i).lifecycle ≠ .free) :
    WorkedOn (s.visitor i) ((review i s).visitor i) ∧
      ((review i s).visitor i).closeMark = (s.visitor i).closeMark := by
  obtain ⟨t, ht, -, hreview⟩ := review_eq i s
  have hself : t.visitor i = reviewed s i := by
    rw [State.visitor, ht]
    exact setVisitor_visitor_self (ne_freeEntry_of_lifecycle (v := reviewed s i) hf)
  have hworked : WorkedOn (s.visitor i) (t.visitor i) := by
    rw [hself]
    exact ⟨_, _, _, _, _, _, rfl⟩
  rcases hreview with he | ⟨why, he⟩ <;> rw [he]
  · exact ⟨hworked, by rw [hself]; rfl⟩
  · obtain ⟨hw, hc, -⟩ := closeRecord_workedOn i why t
    exact ⟨hworked.trans hw, by rw [hc, hself]; rfl⟩

/-- The owed close works on its entry, clears the close mark and leaves the review mark (R88). -/
theorem owedClose_workedOn {i : Nat} {s : State} (hf : (s.visitor i).lifecycle ≠ .free) :
    WorkedOn (s.visitor i) ((owedClose i s).visitor i) ∧ ((owedClose i s).visitor i).closeMark = false ∧
      ((owedClose i s).visitor i).reviewMark = (s.visitor i).reviewMark := by
  cases hc : (s.visitor i).closeMark with
  | false =>
    rw [owedClose_of_unmarked hc]
    exact ⟨.refl _, hc, rfl⟩
  | true =>
    obtain ⟨hw, -, hr⟩ := closeRecord_workedOn i (sweepCloseReason s.rse.closeReason) s
    rw [owedClose, if_pos hc]
    dsimp only
    rw [setVisitor_visitor_self (ne_freeEntry_of_lifecycle (hw.lifecycle ▸ hf))]
    exact ⟨hw.trans ⟨_, _, _, _, _, _, rfl⟩, rfl, hr⟩

/-- The owed review works on its entry, clears the review mark and leaves the close mark (R88). -/
theorem owedReview_workedOn {i : Nat} {s : State} (hf : (s.visitor i).lifecycle ≠ .free) :
    WorkedOn (s.visitor i) ((owedReview i s).visitor i) ∧ ((owedReview i s).visitor i).reviewMark = false ∧
      ((owedReview i s).visitor i).closeMark = (s.visitor i).closeMark := by
  cases hr : (s.visitor i).reviewMark with
  | false =>
    rw [owedReview_of_unmarked hr]
    exact ⟨.refl _, hr, rfl⟩
  | true =>
    obtain ⟨hw, hc⟩ := review_workedOn hf
    rw [owedReview, if_pos hr]
    dsimp only
    rw [setVisitor_visitor_self (ne_freeEntry_of_lifecycle (hw.lifecycle ▸ hf))]
    exact ⟨hw.trans ⟨_, _, _, _, _, _, rfl⟩, rfl, hc⟩

/-- Owed work clears both marks (R88). -/
theorem owedWork_workedOn {i : Nat} {s : State} (hf : (s.visitor i).lifecycle ≠ .free) :
    WorkedOn (s.visitor i) ((owedWork i s).visitor i) ∧ ((owedWork i s).visitor i).reviewMark = false ∧
      ((owedWork i s).visitor i).closeMark = false := by
  obtain ⟨hwc, hcc, hcr⟩ := owedClose_workedOn hf
  obtain ⟨hwr, hrr, hrc⟩ := owedReview_workedOn (hwc.lifecycle ▸ hf)
  unfold owedWork
  split
  · rw [refreshEngine_visitor]
    exact ⟨hwc.trans hwr, hrr, hrc.trans hcc⟩
  · next h =>
    simp only [Bool.or_eq_true, not_or, Bool.not_eq_true] at h
    exact ⟨.refl _, h.2, h.1⟩

theorem owedClose_visitor_ne {i j : Nat} (s : State) (h : j ≠ i) :
    (owedClose i s).visitor j = s.visitor j := by
  unfold owedClose
  split
  · exact (setVisitor_visitor_ne _ _ h).trans (closeRecord_visitor_ne _ s h)
  · rfl

theorem owedReview_visitor_ne {i j : Nat} (s : State) (h : j ≠ i) :
    (owedReview i s).visitor j = s.visitor j := by
  unfold owedReview
  split
  · exact (setVisitor_visitor_ne _ _ h).trans (review_visitor_ne s h)
  · rfl

theorem owedWork_visitor_ne {i j : Nat} (s : State) (h : j ≠ i) :
    (owedWork i s).visitor j = s.visitor j := by
  unfold owedWork
  split
  · rw [refreshEngine_visitor, owedReview_visitor_ne _ h, owedClose_visitor_ne _ h]
  · rfl

theorem owedWork_frame (i : Nat) (s : State) : owedWork i s = { s with
    vtb := (owedWork i s).vtb, rcq := (owedWork i s).rcq, rse := (owedWork i s).rse,
    ntu := (owedWork i s).ntu } := by
  apply State.eq_of_blocks <;> simp

/-- A review counts and leaves the cursor where it is. -/
theorem review_cursor (i : Nat) (s : State) : (review i s).rse.cursor = s.rse.cursor := by
  unfold review
  dsimp only
  split
  · rfl
  · split
    · rfl
    · rw [closeRecord_rse]
      rfl

theorem owedWork_cursor (i : Nat) (s : State) : (owedWork i s).rse.cursor = s.rse.cursor := by
  unfold owedWork
  split
  · rw [(refreshEngine_figures _).2.2.1, owedReview]
    split
    · exact (review_cursor i (owedClose i s)).trans (by rw [owedClose_rse])
    · rw [owedClose_rse]
  · rfl

theorem sweepVisit_of_busy {s : State} (hf : (s.visitor s.rse.cursor).lifecycle ≠ .free) :
    Machine.sweepVisit s = (owedWork s.rse.cursor s).setRse { (owedWork s.rse.cursor s).rse with
      cursor := (s.rse.cursor + 1) % 4096 } := by
  simp only [Machine.sweepVisit, if_neg hf, owedWork_cursor]
  rfl

theorem sweepVisit_of_unmarked {s : State} (hc : (s.visitor s.rse.cursor).closeMark = false)
    (hr : (s.visitor s.rse.cursor).reviewMark = false) :
    Machine.sweepVisit s = s.setRse { s.rse with cursor := (s.rse.cursor + 1) % 4096 } := by
  simp only [Machine.sweepVisit, owedWork_of_unmarked hc hr, ite_self]
  rfl

/-! ## The owed work of an entry with an open record -/

section Owed

variable {i : Nat} {s : State} {r : OpenRecord}

/-- An owed close alone (R88). -/
theorem owedWork_of_close (hr : (s.visitor i).openRecord = some r) (hc : (s.visitor i).closeMark = true)
    (hm : (s.visitor i).reviewMark = false) :
    (owedWork i s).rcq = (closeRecord i (sweepCloseReason s.rse.closeReason) s).1.rcq ∧
      ((owedWork i s).visitor i).openRecord = some (openNow s (s.visitor i)) ∧
      ((owedWork i s).visitor i).roaming = (s.visitor i).roaming ∧
      { (owedWork i s).rse with running := false, runs := 0 } = { s.rse with running := false, runs := 0 } := by
  obtain ⟨⟨a, n, hvis⟩, hq⟩ := owedClose_leaves hr hc
  have hmark : ((owedClose i s).visitor i).reviewMark = false := by rw [hvis]; exact hm
  rw [owedWork_of_marked (.inl hc), owedReview_of_unmarked hmark, refreshEngine_visitor, refreshEngine_rcq, hvis,
    (refreshEngine_figures _).2.2.2, owedClose_rse]
  exact ⟨hq, rfl, rfl, rfl⟩

/-- An owed review that finds nothing (R88). -/
theorem owedWork_of_review_same (hr : (s.visitor i).openRecord = some r)
    (hc : (s.visitor i).closeMark = false) (hm : (s.visitor i).reviewMark = true)
    (hd : recordDifference s (reviewed s i) r = none) :
    ((owedWork i s).visitor i).roaming = (reviewed s i).roaming ∧
      (owedWork i s).rse.reviews = s.rse.reviews + 1 ∧ (owedWork i s).rcq = s.rcq ∧
      ((owedWork i s).visitor i).openRecord = some r ∧
      (owedWork i s).rse.rateBreaks = s.rse.rateBreaks := by
  obtain ⟨hvis, hq, hrse⟩ := review_of_same_leaves hr hd
  obtain ⟨hreviews, hbreaks, -, -⟩ := refreshEngine_figures (owedReview i s)
  rw [owedWork_of_marked (.inr hm), owedClose_of_unmarked hc, refreshEngine_visitor, refreshEngine_rcq, hreviews,
    hbreaks, owedReview_visitor hm hvis hr, owedReview_rcq hm, owedReview_rse hm, hq, hrse]
  exact ⟨rfl, rfl, rfl, hr, rfl⟩

/-- An owed review that finds a difference (R88). -/
theorem owedWork_of_review_difference {why : CloseReason} (hr : (s.visitor i).openRecord = some r)
    (hc : (s.visitor i).closeMark = false) (hm : (s.visitor i).reviewMark = true)
    (hd : recordDifference s (reviewed s i) r = some why) :
    ((owedWork i s).visitor i).roaming = (reviewed s i).roaming ∧
      (owedWork i s).rse.reviews = s.rse.reviews + 1 ∧
      (owedWork i s).rcq = (closeRecord i why s).1.rcq ∧
      ((owedWork i s).visitor i).openRecord = some (openNow s (reviewed s i)) ∧
      (owedWork i s).rse.rateBreaks = s.rse.rateBreaks + 1 := by
  obtain ⟨⟨a, n, hvis⟩, hq, hrse⟩ := review_of_difference_leaves hr hd
  obtain ⟨hreviews, hbreaks, -, -⟩ := refreshEngine_figures (owedReview i s)
  rw [owedWork_of_marked (.inr hm), owedClose_of_unmarked hc, refreshEngine_visitor, refreshEngine_rcq, hreviews,
    hbreaks, owedReview_visitor hm hvis rfl, owedReview_rcq hm, owedReview_rse hm, hq, hrse]
  exact ⟨rfl, rfl, rfl, rfl, rfl⟩

/-- With both marks the close comes first, and the record it opens differs from the conditions only in its price, which
ROAMING may have moved (R88). -/
theorem owedWork_of_both (hr : (s.visitor i).openRecord = some r) (hc : (s.visitor i).closeMark = true)
    (hm : (s.visitor i).reviewMark = true) :
    (owedWork i s).rcq = (closeRecord i (sweepCloseReason s.rse.closeReason) s).1.rcq ∧
      ((owedWork i s).visitor i).openRecord = some (if priceNow s (s.visitor i) = priceNow s (reviewed s i)
        then openNow s (s.visitor i) else openNow s (reviewed s i)) ∧
      ((owedWork i s).visitor i).roaming = (reviewed s i).roaming ∧
      (owedWork i s).rse.reviews = s.rse.reviews + 1 := by
  obtain ⟨⟨a, n, hvis⟩, hq⟩ := owedClose_leaves hr hc
  obtain ⟨-, hcfu, hznu, hrtu, hpsl, hpsv⟩ :
      True ∧ (owedClose i s).cfu = s.cfu ∧ (owedClose i s).znu = s.znu ∧ (owedClose i s).rtu = s.rtu ∧
        (owedClose i s).psl = s.psl ∧ (owedClose i s).psv = s.psv := by simp
  have hrse : (owedClose i s).rse = s.rse := owedClose_rse i s
  have hwork : owedWork i s = owedWork i (owedClose i s) := by
    rw [owedWork_of_marked (.inl hc), owedWork_of_marked (.inr (by rw [hvis]; exact hm)),
      owedClose_of_unmarked (s := owedClose i s) (by rw [hvis])]
  have hopen : ((owedClose i s).visitor i).openRecord = some (openNow s (s.visitor i)) := by rw [hvis]
  have hmark : ((owedClose i s).visitor i).reviewMark = true := by rw [hvis]; exact hm
  have hunmarked : ((owedClose i s).visitor i).closeMark = false := by rw [hvis]
  have hroaming : (reviewed (owedClose i s) i).roaming = (reviewed s i).roaming := by
    simp only [reviewed, hvis, roamingNow, currentTerms, hznu, hrtu]
  have hprice : priceNow (owedClose i s) (reviewed (owedClose i s) i) = priceNow s (reviewed s i) := by
    simp only [priceNow, activeRow, activeSurcharge, State.path, currentTerms, hznu, hrtu, hpsl, hpsv, hroaming]
    rw [reviewed, hvis]
    rfl
  have hnew : openNow (owedClose i s) (reviewed (owedClose i s) i) = openNow s (reviewed s i) := by
    have hplan : (reviewed (owedClose i s) i).plan = (reviewed s i).plan := by simp only [reviewed, hvis]
    unfold openNow
    rw [hprice, hroaming, hplan]
    simp only [activeRow, currentTerms, hznu, hrtu, hpsl, hcfu]
  rw [hwork]
  by_cases hp : priceNow s (s.visitor i) = priceNow s (reviewed s i)
  · obtain ⟨hro, hrev, hrq, ho, -⟩ := owedWork_of_review_same hopen hunmarked hmark
      (recordDifference_of_same (by rw [hznu]; rfl) (by rw [hpsl]; rfl) (by rw [hprice]; exact hp))
    rw [if_pos hp, hro, hrev, hrq, ho, hrse]
    exact ⟨hq, rfl, hroaming, rfl⟩
  · obtain ⟨hro, hrev, hrq, ho, -⟩ := owedWork_of_review_difference (why := .tariff) hopen hunmarked hmark
      (recordDifference_of_first (.inr (.inr ⟨by rw [hznu]; rfl, by rw [hpsl]; rfl, by rw [hprice]; exact hp, rfl⟩)))
    rw [if_neg hp, hro, hrev, hrq, ho, hrse, hnew, closeRecord_of_empty hopen rfl]
    exact ⟨hq, rfl, hroaming, rfl⟩

end Owed

/-! ## The interval expiry -/

theorem intervalStart_of_ne {n : Nat} (h : n ≠ 0) : intervalStart n = some (n * 60000) := if_neg h

/-- The state of an interval expiry as its close marks are set. -/
def intervalReason (s : State) : State := s.setRse { s.rse with closeReason := reasonAtExpiry s }

theorem intervalExpiry_eq (s : State) : Machine.intervalExpiry s = (bulkClose (intervalReason s)).setRse
    { (bulkClose (intervalReason s)).rse with
      intervalTimer := intervalStart (bulkClose (intervalReason s)).rse.interval } := rfl

/-- Settles O40: a visit by the marks of its entry, the interval expiry as close marks under its reason, and the owed
work by which marks stand. -/
theorem sweepEngineEvents : Obligations.SweepEngineEvents := by
  unfold Obligations.SweepEngineEvents
  refine ⟨fun s => ⟨fun hrun hm hc => ?pass, fun hrun hf hmarks => ?visit, fun ht hn => ?expiry⟩,
    fun i r v s hr hv => ⟨fun hc hm => ⟨_, rfl, owedWork_of_close hr hc hm⟩, fun hc hm => ⟨_, rfl, ?both⟩,
      fun hc hm => ?review⟩⟩
  case pass =>
    show execSweepVisit s = _
    rw [execSweepVisit, if_pos hrun, sweepVisit_of_unmarked hc hm]
  case visit =>
    obtain ⟨hworked, hm, hc⟩ := owedWork_workedOn hf
    refine ⟨_, ?_, rfl, hm, hc, hworked.lifecycle, hworked.charged, fun j hj => owedWork_visitor_ne s hj, ?_⟩
    · show execSweepVisit s = _
      rw [execSweepVisit, if_pos hrun, sweepVisit_of_busy hf]
    · exact congrArg (fun t : State => t.setRse { (owedWork s.rse.cursor s).rse with
        cursor := (s.rse.cursor + 1) % 4096 }) (owedWork_frame s.rse.cursor s)
  case expiry =>
    have hrse := bulkClose_rse (intervalReason s)
    have hvis : ∀ i, (bulkClose (intervalReason s)).visitor i = setCloseMark (s.visitor i) :=
      bulkClose_visitor (intervalReason s)
    refine ⟨Machine.intervalExpiry s, if_pos (timerRunning_of_ne ht), ?_, fun hlaw => ?_,
      fun i hi => bulkClose_marked (s := intervalReason s) hi, fun i => ?_, ?_⟩
    · rw [intervalExpiry_eq, hrse]
      show Rse.mk _ _ _ _ (intervalStart s.rse.interval) _ _ _ = _
      rw [intervalStart_of_ne hn]
      rfl
    · exact bulkClose_runs (t := intervalReason s) hlaw rfl rfl
    · exact (congrArg (fun v : Visitor => { v with closeMark := false }) (hvis i)).trans (setCloseMark_rest _)
    · exact congrArg (fun t : State => t.setRse (Machine.intervalExpiry s).rse) (bulkClose_frame (intervalReason s))
  case both =>
    subst hv
    exact owedWork_of_both hr hc hm
  case review =>
    subst hv
    refine ⟨_, rfl, ?_⟩
    cases hd : recordDifference s (reviewed s i) r with
    | none =>
      obtain ⟨hro, hrev, hq, ho, hbreaks⟩ := owedWork_of_review_same hr hc hm hd
      refine ⟨hro, hrev, fun _ _ _ => ⟨hq, ho, hbreaks⟩, fun why hwhy => ?_⟩
      exact absurd (hd.symm.trans (recordDifference_of_first hwhy)) (by simp)
    | some first =>
      obtain ⟨hro, hrev, hq, ho, hbreaks⟩ := owedWork_of_review_difference hr hc hm hd
      refine ⟨hro, hrev, fun hz hp hprice => ?_, fun why hwhy => ?_⟩
      · exact absurd ((recordDifference_of_same hz hp hprice).symm.trans hd) (by simp)
      · obtain rfl : first = why := Option.some.inj (hd.symm.trans (recordDifference_of_first hwhy))
        exact ⟨hq, ho, hbreaks⟩

end Sys2Proof.Machine
end


section
/-! SUPPORT. Path selection: the candidate as the best of the eligible paths, and what a swap and NO_BACKHAUL write in
each block. -/

namespace Sys2Proof.Machine

/-! ## The candidate -/

/-- What a run over some paths, each numbered above those before it, has found (R132). -/
structure BestOf (s : State) (seen : List Path) (best : Option Path) : Prop where
  none_iff : best = none ↔ ∀ q ∈ seen, eligible s q = false
  mem : ∀ b, best = some b → b ∈ seen
  cheapest : ∀ b, best = some b → ∀ q ∈ seen, eligible s q = true →
    costOf s b ≤ costOf s q ∧ (q.num < b.num → costOf s b < costOf s q)

theorem bestOf_nil (s : State) : BestOf s [] none := ⟨by simp, by simp, by simp⟩

/-- One more path, of a higher number, is compared with the best so far. -/
theorem BestOf.next {s : State} {seen : List Path} {best : Option Path} {p : Path} (h : BestOf s seen best)
    (hp : ∀ q ∈ seen, q.num < p.num) : BestOf s (seen ++ [p]) (cheaper s best p) := by
  cases he : eligible s p with
  | false =>
    rw [show cheaper s best p = best by simp [cheaper, he]]
    refine ⟨?_, fun b hb => List.mem_append_left _ (h.mem b hb), fun b hb q hq heq => ?_⟩
    · rw [h.none_iff]
      simp [or_imp, forall_and, he]
    · rcases List.mem_append.1 hq with hq | hq
      · exact h.cheapest b hb q hq heq
      · rw [List.mem_singleton.1 hq, he] at heq
        cases heq
  | true =>
    cases hbest : best with
    | none =>
      have hnone := h.none_iff.1 hbest
      rw [show cheaper s none p = some p by simp [cheaper, he]]
      refine ⟨by simp [he], fun b hb => by cases hb; simp, fun b hb q hq heq => ?_⟩
      cases hb
      rcases List.mem_append.1 hq with hq | hq
      · rw [hnone q hq] at heq
        cases heq
      · rw [List.mem_singleton.1 hq]
        exact ⟨Nat.le_refl _, fun hlt => absurd hlt (Nat.lt_irrefl _)⟩
    | some c =>
      have hc := h.mem c hbest
      have hcp := hp c hc
      by_cases hlt : costOf s p < costOf s c
      · rw [show cheaper s (some c) p = some p by simp [cheaper, he, hlt]]
        refine ⟨by simp [he], fun b hb => by cases hb; simp, fun b hb q hq heq => ?_⟩
        cases hb
        rcases List.mem_append.1 hq with hq | hq
        · obtain ⟨hle, -⟩ := h.cheapest c hbest q hq heq
          exact ⟨by omega, fun _ => by omega⟩
        · rw [List.mem_singleton.1 hq]
          exact ⟨Nat.le_refl _, fun hlt => absurd hlt (Nat.lt_irrefl _)⟩
      · rw [show cheaper s (some c) p = some c by simp [cheaper, he, hlt]]
        refine ⟨by simp [he], fun b hb => by cases hb; exact List.mem_append_left _ hc,
          fun b hb q hq heq => ?_⟩
        cases hb
        rcases List.mem_append.1 hq with hq | hq
        · exact h.cheapest c hbest q hq heq
        · rw [List.mem_singleton.1 hq]
          exact ⟨by omega, fun _ => by omega⟩

theorem cheapest_bestOf (s : State) : BestOf s Path.all (cheapest s) := by
  have h := ((((bestOf_nil s).next (p := .sp0) (by simp)).next (p := .sp1) (by simp [Path.num])).next (p := .sp2)
    (by simp [Path.num])).next (p := .sp3) (by simp [Path.num])
  exact h

/-- The candidate is the pinned path where that is eligible (R132). -/
theorem candidateNow_of_pin {s : State} {p : Path} (hp : s.psl.pin = some p) (he : eligible s p = true) :
    candidateNow s = some p := by
  simp [candidateNow, hp, he]

theorem candidateNow_of_no_pin {s : State} (h : ∀ p, s.psl.pin = some p → eligible s p = false) :
    candidateNow s = cheapest s := by
  unfold candidateNow
  split
  · next p hp => rw [if_neg (by simp [h p hp])]
  · rfl

/-- There is no candidate exactly when no path is eligible (R132). -/
theorem candidateNow_eq_none {s : State} : candidateNow s = none ↔ ∀ p, eligible s p = false := by
  have hcheapest : cheapest s = none ↔ ∀ p, eligible s p = false :=
    (cheapest_bestOf s).none_iff.trans ⟨fun h p => h p (mem_pathAll p), fun h p _ => h p⟩
  constructor
  · intro hn
    by_cases hpin : ∀ p, s.psl.pin = some p → eligible s p = false
    · rwa [candidateNow_of_no_pin hpin, hcheapest] at hn
    · push Not at hpin
      obtain ⟨p, hp, he⟩ := hpin
      rw [candidateNow_of_pin hp (by simpa using he)] at hn
      cases hn
  · intro h
    rw [candidateNow_of_no_pin fun p _ => h p]
    exact hcheapest.2 h

/-- A path that beats every other eligible one is the candidate. -/
theorem candidateNow_of_best {s : State} {b : Path} (he : eligible s b = true)
    (hpin : ∀ q, s.psl.pin = some q → eligible s q = false)
    (hbest : ∀ q, q ≠ b → eligible s q = true →
      costOf s b < costOf s q ∨ costOf s b = costOf s q ∧ b.num < q.num) :
    candidateNow s = some b := by
  have hrun := cheapest_bestOf s
  rw [candidateNow_of_no_pin hpin]
  cases hc : cheapest s with
  | none =>
    rw [hrun.none_iff.1 hc b (mem_pathAll b)] at he
    cases he
  | some c =>
    by_cases hcb : c = b
    · rw [hcb]
    · obtain ⟨hle, hlt⟩ := hrun.cheapest c hc b (mem_pathAll b) he
      rcases hbest c hcb (cheapest_eligible c hc) with h | ⟨h, hnum⟩
      · omega
      · have := hlt hnum
        omega

theorem lossCount_eq_count (v : Psv) : lossCount v = v.lossWindow.count true := by
  rw [lossCount, List.count_eq_length_filter]
  simp

/-- A path's place in the order of a zone (R131). -/
theorem rankOf_eq {r : Rank} {p : Path} {k : Nat}
    (h : k = 0 ∧ r.first = p ∨ k = 1 ∧ r.first ≠ p ∧ r.second = p ∨
      k = 2 ∧ r.first ≠ p ∧ r.second ≠ p ∧ r.third = p ∨
      k = 3 ∧ r.first ≠ p ∧ r.second ≠ p ∧ r.third ≠ p) : rankOf r p = k := by
  unfold rankOf
  rcases h with ⟨rfl, h1⟩ | ⟨rfl, h1, h2⟩ | ⟨rfl, h1, h2, h3⟩ | ⟨rfl, h1, h2, h3⟩
  · rw [if_pos h1]
  · rw [if_neg h1, if_pos h2]
  · rw [if_neg h1, if_neg h2, if_pos h3]
  · rw [if_neg h1, if_neg h2, if_neg h3]

/-- Settles O27: the pin, the run over the four paths, and the stages of the cost. -/
theorem candidateIsPinnedOrCheapest : Obligations.CandidateIsPinnedOrCheapest := by
  unfold Obligations.CandidateIsPinnedOrCheapest
  intro s
  refine ⟨fun p hp he => candidateNow_of_pin hp he, fun hpin b hb q he => ?_, fun b hb => candidateNow_eligible hb,
    candidateNow_eq_none, fun p => ⟨eligible_iff, fun k hk => ?_⟩, fun h => ?_, fun h => ?_, fun k h => ?_⟩
  · rw [candidateNow_of_no_pin hpin] at hb
    exact (cheapest_bestOf s).cheapest b hb q (mem_pathAll q) he
  · rw [costOf, lossCount_eq_count, rankOf_eq hk]
  all_goals
    rw [currentTerms, h]
    rfl

/-! ## The ports after a swap -/

theorem withdrawDue_port_self (p : Path) (f : Due → Bool) (s : State) :
    (withdrawDue p f s).port p = { s.port p with due := (s.port p).due.filter (fun d => !f d) } :=
  State.setPort_port_self _ _ _

theorem withdrawDue_port_ne {p q : Path} (f : Due → Bool) (s : State) (h : q ≠ p) :
    (withdrawDue p f s).port q = s.port q := State.setPort_port_ne _ _ h

/-- A port without its due PATH_SWAP. -/
def ShorePort.unswapped (x : ShorePort) : ShorePort := { x with due := x.due.filter (fun d => !isPathSwap d) }

theorem withdrawPathSwap_port (s : State) (q : Path) : (withdrawPathSwap s).port q = (s.port q).unswapped := by
  simp only [withdrawPathSwap, Path.all, List.foldl]
  cases q <;> simp [withdrawDue_port_self, withdrawDue_port_ne, ShorePort.unswapped]

theorem makeDue_port_self (p : Path) (d : Due) (s : State) :
    (makeDue p d s).port p = { s.port p with due := (s.port p).due ++ [d] } := State.setPort_port_self _ _ _

theorem makeDue_port_ne {p q : Path} (d : Due) (s : State) (h : q ≠ p) :
    (makeDue p d s).port q = s.port q := State.setPort_port_ne _ _ h

section Splice

variable {a b : Path} (s : State)

theorem splice_port_left (h : a ≠ b) : (splice a b s).port a =
    { s.port a with txQueue := [], due := (s.port a).due.filter (fun d => !isFill d) } := by
  unfold splice
  rw [withdrawDue_port_self]
  simp [h]

theorem splice_port_joined (h : a ≠ b) :
    (splice a b s).port b = { s.port b with txQueue := (s.port a).txQueue } := by
  unfold splice
  rw [withdrawDue_port_ne _ _ h.symm]
  simp [h.symm]

end Splice

/-- The state of a swap after its first step (R134). -/
def swapMoved (b : Path) (s : State) : State := s.psl.active.elim s fun a => splice a b s

theorem swapMoved_of_some {a b : Path} {s : State} (h : s.psl.active = some a) :
    swapMoved b s = splice a b s := by rw [swapMoved, h]; rfl

theorem swapMoved_of_none {b : Path} {s : State} (h : s.psl.active = none) : swapMoved b s = s := by
  rw [swapMoved, h]; rfl

theorem withdrawPathSwap_shore {s t : State} (h : t.shore = s.shore) :
    (withdrawPathSwap t).shore = (withdrawPathSwap s).shore :=
  perPath_ext fun q => show (withdrawPathSwap t).port q = (withdrawPathSwap s).port q by
    rw [withdrawPathSwap_port, withdrawPathSwap_port, State.port, h]
    rfl

theorem makeDue_shore {s t : State} (p : Path) (d : Due) (h : t.shore = s.shore) :
    (makeDue p d t).shore = (makeDue p d s).shore := by
  simp only [makeDue, State.setPort_shore, State.port, h]

theorem swapTo_shore (b : Path) (cause : SwapCause) (s : State) :
    (swapTo b cause s).shore = (makeDue b (.pathSwap s.psl.active) (withdrawPathSwap (swapMoved b s))).shore := by
  simp only [swapTo, raiseNotice_shore, State.setPsl_shore, swapDrain_shore, bulkReview_shore]
  refine makeDue_shore b _ (withdrawPathSwap_shore ?_)
  cases h : s.psl.active with
  | none => rw [swapMoved_of_none h]; rfl
  | some a => rw [swapMoved_of_some h]; rfl

/-- The new path's port after a swap: its PATH_SWAP due last (R134). -/
theorem swapTo_port_self (b : Path) (cause : SwapCause) (s : State) : (swapTo b cause s).port b =
    { ((swapMoved b s).port b).unswapped with
      due := ((swapMoved b s).port b).unswapped.due ++ [.pathSwap s.psl.active] } := by
  rw [State.port, swapTo_shore]
  exact (makeDue_port_self b _ _).trans (by rw [withdrawPathSwap_port])

/-- Any other port after a swap: no PATH_SWAP due (R135). -/
theorem swapTo_port_ne {b q : Path} (cause : SwapCause) (s : State) (h : q ≠ b) :
    (swapTo b cause s).port q = ((swapMoved b s).port q).unswapped := by
  rw [State.port, swapTo_shore]
  exact (makeDue_port_ne _ _ h).trans (withdrawPathSwap_port _ _)

/-! ## The selector, the notices and the visitors after a swap -/

/-- The drain windows after a swap (R134, R136). -/
def swapWindows (b : Path) (s : State) : PerPath Timer :=
  (s.psl.active.elim s.psl.drain fun a =>
    if isUp s a then s.psl.drain.set a (some (s.path a).config.drain) else s.psl.drain).set b none

/-- The selector after a swap (R134, R144). -/
def swapSelector (b : Path) (cause : SwapCause) (s : State) : Psl := countSwap { s.psl with
  active := some b, lastFrom := s.psl.active, lastCause := cause, drain := swapWindows b s,
  holdDown := some (s.psl.settings.holdDown * 1000), confirmCount := 0, confirmFor := none } cause

theorem swapDrain_psl (a : Option Path) (b : Path) (s : State) : (swapDrain a b s).psl =
    { s.psl with drain := (a.elim s.psl.drain fun p =>
        if isUp s p then s.psl.drain.set p (some (s.path p).config.drain) else s.psl.drain).set b none } := by
  cases a with
  | none => rfl
  | some p =>
    unfold swapDrain drainIfUp
    dsimp only [Option.elim]
    split <;> rfl

theorem swapTo_psl (b : Path) (cause : SwapCause) (s : State) :
    (swapTo b cause s).psl = swapSelector b cause s := by
  simp only [swapTo, raiseNotice_psl, State.setPsl_psl, swapDrain_psl, bulkReview_psl]
  cases h : s.psl.active with
  | none =>
    simp only [swapSelector, swapWindows, h]
    rfl
  | some a =>
    have hup : isUp (bulkReview (makeDue b (.pathSwap (some a)) (withdrawPathSwap ((splice a b s).setPsl
        { (splice a b s).psl with active := some b, lastFrom := some a, lastCause := cause })))) a = isUp s a := by
      simp [isUp, State.path]
    have hpath : (bulkReview (makeDue b (.pathSwap (some a)) (withdrawPathSwap ((splice a b s).setPsl
        { (splice a b s).psl with active := some b, lastFrom := some a, lastCause := cause })))).path a =
        s.path a := by
      simp [State.path]
    simp only [Option.elim, hup, hpath, swapSelector, swapWindows, h]
    rfl

/-- What the count of a swap leaves of the selector (R144). -/
theorem countSwap_rest (u : Psl) (cause : SwapCause) :
    (countSwap u cause).lastFrom = u.lastFrom ∧ (countSwap u cause).lastCause = u.lastCause ∧
      (countSwap u cause).candidate = u.candidate ∧ (countSwap u cause).costs = u.costs ∧
      (countSwap u cause).drain = u.drain ∧ (countSwap u cause).holdDown = u.holdDown ∧
      (countSwap u cause).confirmCount = u.confirmCount ∧ (countSwap u cause).confirmFor = u.confirmFor ∧
      (countSwap u cause).settings = u.settings ∧ (countSwap u cause).pin = u.pin ∧
      (countSwap u cause).noBackhauls = u.noBackhauls := by
  cases cause <;> exact ⟨rfl, rfl, rfl, rfl, rfl, rfl, rfl, rfl, rfl, rfl, rfl⟩

theorem swapTo_ntu (b : Path) (cause : SwapCause) (s : State) :
    (swapTo b cause s).ntu = noticeSet s.ntu .pathSwap (raiseFlags (noticeGet s.ntu .pathSwap)) := by
  have h : ∀ t : State, t.ntu = s.ntu → (raiseNotice .pathSwap t).ntu =
      noticeSet s.ntu .pathSwap (raiseFlags (noticeGet s.ntu .pathSwap)) := fun t ht => by
    rw [raiseNotice_eq, State.setNtu_ntu, ht]
  refine h _ ?_
  simp only [State.setPsl_ntu, swapDrain_ntu, bulkReview_ntu]
  cases s.psl.active <;> rfl

theorem swapTo_visitor (b : Path) (cause : SwapCause) (s : State) (i : Nat) :
    (swapTo b cause s).visitor i = setReviewMark (s.visitor i) := by
  have h : (swapTo b cause s).visitor i = (bulkReview (swapped b cause s)).visitor i := by
    rw [State.visitor, swapTo_vtb]
    rfl
  rw [h, bulkReview_visitor, State.visitor, swapped_entries]
  rfl

theorem swapTo_frame (b : Path) (cause : SwapCause) (s : State) : swapTo b cause s = { s with
    shore := (swapTo b cause s).shore, vtb := (swapTo b cause s).vtb, rse := (swapTo b cause s).rse,
    psl := (swapTo b cause s).psl, ntu := (swapTo b cause s).ntu } := by
  apply State.eq_of_blocks <;> simp

/-- Settles O28: the ports, the selector, the notices and the visitors after a swap. -/
theorem swapMovesTheWholeQueue : Obligations.SwapMovesTheWholeQueue := by
  unfold Obligations.SwapMovesTheWholeQueue
  intro a b cause s ha hab hup
  have hmoved := swapMoved_of_some (b := b) ha
  have hb := swapTo_port_self b cause s
  have hleft := swapTo_port_ne cause s hab
  rw [hmoved, splice_port_joined s hab] at hb
  rw [hmoved, splice_port_left s hab] at hleft
  have hpsl := swapTo_psl b cause s
  obtain ⟨hfrom, hcause, -, -, hdrain, hhold, hcount, hfor, -⟩ := countSwap_rest { s.psl with
    active := some b, lastFrom := s.psl.active, lastCause := cause, drain := swapWindows b s,
    holdDown := some (s.psl.settings.holdDown * 1000), confirmCount := 0, confirmFor := none } cause
  have hwindows : swapWindows b s = (s.psl.drain.set a (some (s.path a).config.drain)).set b none := by
    simp [swapWindows, ha, isUp, hup]
  refine ⟨_, rfl, (congrArg ShorePort.txQueue hb :), (congrArg ShorePort.txQueue hleft :), by simp, by simp,
    swapTo_active b cause, ?_, ?_, ?_, fun d hd => ?_, ?_, ?_, ?_, ?_, ?_, ?_, swapTo_allMarked b cause s,
    fun i => ?_, ?_, ?_, ?_, swapTo_frame b cause s⟩
  · rw [hpsl, swapSelector, hfrom, ha]
  · rw [hpsl, swapSelector, hcause]
  · rw [hb, ha]
    simp
  · rw [hleft] at hd
    simp only [ShorePort.unswapped, List.mem_filter, Bool.not_eq_eq_eq_not, Bool.not_true] at hd
    exact ⟨hd.2, hd.1.2⟩
  · rw [hpsl, swapSelector, hdrain, hwindows, perPath_get_set_ne _ _ hab, perPath_get_set_self]
  · rw [hpsl, swapSelector, hdrain, hwindows, perPath_get_set_self]
  · rw [hpsl, swapSelector, hhold]
  · rw [hpsl, swapSelector, hcount]
  · rw [hpsl, swapSelector, hfor]
  · rw [swapTo_ntu]
    exact raiseFlags_pending _
  · rw [swapTo_visitor, setReviewMark_rest]
  · rintro rfl
    rw [hpsl]
    rfl
  · rintro (rfl | rfl) <;> rw [hpsl] <;> rfl
  · rintro rfl
    rw [hpsl]
    rfl

end Sys2Proof.Machine
end


section
/-! SUPPORT. The selector's timers, NO_BACKHAUL, and PATH_DISABLE: an evaluation by its cases, and what leaving UP at
once writes. -/

namespace Sys2Proof.Machine

/-! ## Evaluation -/

theorem evaluateCases_of_none {s : State} (h : s.psl.active = none) : evaluateCases s = clearConfirm s := by
  unfold evaluateCases
  rw [h]

/-- The first case of R140 that applies, for an active path and a candidate. -/
theorem evaluateCases_of_some {a b : Path} {s : State} (ha : s.psl.active = some a)
    (hb : s.psl.candidate = some b) : evaluateCases s =
      if b = a then clearConfirm s
      else if s.psl.pin = some b then
        if s.psl.holdDown = none then swapTo b .pinned s else clearConfirm s
      else if favoured s.psl a b then advanceConfirm b s
      else clearConfirm s := by
  unfold evaluateCases
  rw [ha, hb]

theorem costsNow_get {s : State} {p : Path} (h : eligible s p = true) :
    (costsNow s).get p = some (costOf s p) := by
  obtain ⟨hup, -⟩ := eligible_iff.1 h
  simp [costsNow, isUp, hup]

/-- The margin of an eligible candidate over an eligible active path (R140). -/
theorem favoured_computed {a b : Path} {s : State} (ha : eligible s a = true) (hb : eligible s b = true) :
    favoured (computeCandidate s).psl a b = decide (costOf s b + s.psl.settings.hysteresis < costOf s a) := by
  have hca : (computeCandidate s).psl.costs.get a = some (costOf s a) := costsNow_get ha
  have hcb : (computeCandidate s).psl.costs.get b = some (costOf s b) := costsNow_get hb
  unfold favoured
  rw [hca, hcb]
  rfl

/-- The selector once the count of a favouring evaluation has advanced (R140). -/
def advanced (b : Path) (s : State) : State :=
  s.setPsl { s.psl with confirmCount := confirmNext s.psl b, confirmFor := some b }

theorem advanceConfirm_of_short {b : Path} {s : State}
    (h : confirmNext s.psl b ≠ s.psl.settings.confirm ∨ s.psl.holdDown ≠ none) :
    advanceConfirm b s = advanced b s := if_neg fun hc => h.elim (absurd hc.1) (absurd hc.2)

theorem advanceConfirm_of_full {b : Path} {s : State} (hc : confirmNext s.psl b = s.psl.settings.confirm)
    (hh : s.psl.holdDown = none) : advanceConfirm b s = swapTo b .evaluated (advanced b s) := if_pos ⟨hc, hh⟩

/-- An evaluation that swaps, from a selector that has the candidate and may have counted (R140). -/
theorem evaluate_of_swap {a b : Path} {cause : SwapCause} {s : State} {y : Psl} (hab : a ≠ b)
    (hcause : cause = .evaluated ∨ cause = .pinned)
    (hy : y = { s.psl with
      active := some a, candidate := some b, costs := costsNow s, confirmCount := y.confirmCount,
      confirmFor := y.confirmFor })
    (h : evaluateCases (computeCandidate s) = swapTo b cause (s.setPsl y)) :
    ∃ t : State, exec .periodTimerExpiry s = .next t ∧ t.psl.active = some b ∧
      t.psl.candidate = some b ∧ t.psl.costs = costsNow s ∧
      t.psl.lastFrom = some a ∧ t.psl.lastCause = cause ∧ t.psl.swaps = s.psl.swaps + 1 ∧
      t.psl.confirmCount = 0 ∧ t.psl.confirmFor = none ∧
      t.psl.holdDown = some (s.psl.settings.holdDown * 1000) ∧
      t.psl.period = some s.psl.settings.period ∧ t.psl.settings = s.psl.settings ∧
      t.psl.pin = s.psl.pin ∧ (t.port b).txQueue = (s.port a).txQueue ∧
      (t.port b).due.getLast? = some (.pathSwap (some a)) ∧ t.ntu.pathSwap.pending = true ∧
      (∀ i : Nat, (t.visitor i).lifecycle ≠ .free → (t.visitor i).reviewMark = true) ∧
      (∀ i : Nat, { t.visitor i with reviewMark := false } = { s.visitor i with reviewMark := false }) ∧
      t = { s with shore := t.shore, vtb := t.vtb, rse := t.rse, psl := t.psl, ntu := t.ntu } := by
  have hactive : (s.setPsl y).psl.active = some a := congrArg Psl.active hy
  have hport := swapTo_port_self b cause (s.setPsl y)
  rw [swapMoved_of_some hactive, splice_port_joined _ hab] at hport
  obtain ⟨hfrom, hcau, hcand, hcosts, -, hhold, hcount, hfor, hset, hpin, -⟩ := countSwap_rest { y with
    active := some b, lastFrom := y.active, lastCause := cause, drain := swapWindows b (s.setPsl y),
    holdDown := some (y.settings.holdDown * 1000), confirmCount := 0, confirmFor := none } cause
  have hpsl := swapTo_psl b cause (s.setPsl y)
  have hsettings : (swapTo b cause (s.setPsl y)).psl.settings = s.psl.settings := by
    rw [hpsl]
    exact hset.trans (congrArg Psl.settings hy :)
  refine ⟨evaluate s, rfl, ?_⟩
  rw [evaluate, h]
  dsimp only
  refine ⟨swapTo_active b cause, ?_, ?_, ?_, ?_, ?_, ?_, ?_, ?_, ?_, hsettings, ?_, (congrArg ShorePort.txQueue hport :),
    ?_, ?_, swapTo_allMarked b cause _, fun i => ?_, ?_⟩
  · exact (congrArg Psl.candidate hpsl).trans (hcand.trans (congrArg Psl.candidate hy :))
  · exact (congrArg Psl.costs hpsl).trans (hcosts.trans (congrArg Psl.costs hy :))
  · exact (congrArg Psl.lastFrom hpsl).trans (hfrom.trans (congrArg Psl.active hy :))
  · exact (congrArg Psl.lastCause hpsl).trans hcau
  · refine (congrArg Psl.swaps hpsl).trans ?_
    have hswaps : y.swaps = s.psl.swaps := (congrArg Psl.swaps hy :)
    rcases hcause with rfl | rfl <;> exact congrArg (· + 1) hswaps
  · exact (congrArg Psl.confirmCount hpsl).trans hcount
  · exact (congrArg Psl.confirmFor hpsl).trans hfor
  · refine (congrArg Psl.holdDown hpsl).trans (hhold.trans ?_)
    rw [show y.settings = s.psl.settings from (congrArg Psl.settings hy :)]
  · exact congrArg (fun x : SelectSettings => some x.period) hsettings
  · exact (congrArg Psl.pin hpsl).trans (hpin.trans (congrArg Psl.pin hy :))
  · rw [show ∀ x : Psl, ((swapTo b cause (s.setPsl y)).setPsl x).port b = _ from fun _ => hport, hactive]
    simp
  · exact (congrArg (fun n : Ntu => n.pathSwap.pending) (swapTo_ntu b cause _)).trans (raiseFlags_pending _)
  · exact (congrArg (fun v : Visitor => { v with reviewMark := false }) (swapTo_visitor b cause (s.setPsl y) i)).trans
      (setReviewMark_rest _)
  · rw [swapTo_frame]
    rfl

/-- Settles O29: each evaluation by the case of R140 that applies, and the two timers that only stop. -/
theorem selectorTimersExpire : Obligations.SelectorTimersExpire := by
  unfold Obligations.SelectorTimersExpire
  intro a b s
  refine ⟨fun ha => ?idle, fun ha hb => ?active, fun hd => if_pos (timerRunning_of_ne hd), rfl⟩
  case idle =>
    show Host.Outcome.next (evaluate s) = _
    rw [evaluate, evaluateCases_of_none (s := computeCandidate s) ha]
    rfl
  case active =>
    have hcases : evaluateCases (computeCandidate s) = _ :=
      evaluateCases_of_some (s := computeCandidate s) (a := a) (b := b) ha hb
    have hebest : eligible s b = true := candidateNow_eligible hb
    have hclear : evaluateCases (computeCandidate s) = clearConfirm (computeCandidate s) →
        exec .periodTimerExpiry s = .next (s.setPsl { s.psl with
          candidate := some b, costs := costsNow s, confirmCount := 0, confirmFor := none,
          period := some s.psl.settings.period }) := fun h => by
      show Host.Outcome.next (evaluate s) = _
      rw [evaluate, h, ← hb]
      rfl
    refine ⟨fun hwhy => hclear ?_, fun n hne hpin hea hmargin hn hwait => ?_, fun cause hne hh hwhy => ?_⟩
    · rw [hcases]
      rcases hwhy with hba | ⟨hba, hpin, hh⟩ | ⟨hba, hpin, hea, hmargin⟩
      · exact if_pos hba
      · rw [if_neg hba, if_pos (show (computeCandidate s).psl.pin = some b from hpin), if_neg (show (computeCandidate s).psl.holdDown ≠ none from hh)]
      · rw [if_neg hba, if_neg (show (computeCandidate s).psl.pin ≠ some b from hpin), favoured_computed hea hebest,
          if_neg (by simpa using hmargin)]
    · have hadvance : evaluateCases (computeCandidate s) = advanceConfirm b (computeCandidate s) := by
        rw [hcases, if_neg hne, if_neg (show (computeCandidate s).psl.pin ≠ some b from hpin),
          favoured_computed hea hebest, if_pos (by simpa using hmargin)]
      have hnext : confirmNext (computeCandidate s).psl b = n := hn.symm
      show Host.Outcome.next (evaluate s) = _
      rw [evaluate, hadvance, advanceConfirm_of_short (s := computeCandidate s) (by rw [hnext]; exact hwait),
        advanced, hnext, ← hb]
      rfl
    · rcases hwhy with ⟨hpin, rfl⟩ | ⟨hpin, rfl, hea, hmargin, hfull⟩
      · refine evaluate_of_swap hne.symm (.inr rfl) (y := (computeCandidate s).psl) ?_ ?_
        · rw [← ha, ← hb]
          rfl
        · rw [hcases, if_neg hne, if_pos (show (computeCandidate s).psl.pin = some b from hpin),
            if_pos (show (computeCandidate s).psl.holdDown = none from hh)]
          rfl
      · refine evaluate_of_swap hne.symm (.inl rfl) (y := (advanced b (computeCandidate s)).psl) ?_ ?_
        · rw [← ha, ← hb]
          rfl
        · rw [hcases, if_neg hne, if_neg (show (computeCandidate s).psl.pin ≠ some b from hpin),
            favoured_computed hea hebest, if_pos (by simpa using hmargin),
            advanceConfirm_of_full (s := computeCandidate s) hfull.symm hh]
          rfl

/-! ## NO_BACKHAUL -/

theorem flushQueue_port_self (p : Path) (s : State) : (flushQueue p s).port p = { s.port p with
    txQueue := [], counters := { (s.port p).counters with
      flushed := (s.port p).counters.flushed + BitVec.ofNat 32 (s.port p).txQueue.length } } := by
  simp [flushQueue, State.countShore, State.returnBuffers, State.port, State.setPort]

theorem flushQueue_port_ne {p q : Path} (s : State) (h : q ≠ p) : (flushQueue p s).port q = s.port q := by
  simp [flushQueue, State.countShore, State.returnBuffers, State.port, State.setPort, h]

theorem enterNoBackhaul_shore (a : Path) (s : State) :
    (enterNoBackhaul a s).shore = (withdrawPathSwap (withdrawDue a isFill (flushQueue a s))).shore := by
  simp only [enterNoBackhaul, raiseNotice_shore, State.setPsl_shore, drainIfUp_shore, bulkReview_shore]
  exact withdrawPathSwap_shore rfl

/-- The port of the path left after its queue is flushed (R16, R137). -/
theorem enterNoBackhaul_port_self (a : Path) (s : State) : (enterNoBackhaul a s).port a = { s.port a with
    txQueue := [], due := ((s.port a).due.filter (fun d => !isFill d)).filter (fun d => !isPathSwap d)
    counters := { (s.port a).counters with
      flushed := (s.port a).counters.flushed + BitVec.ofNat 32 (s.port a).txQueue.length } } := by
  rw [State.port, enterNoBackhaul_shore]
  refine (withdrawPathSwap_port _ a).trans ?_
  rw [withdrawDue_port_self, flushQueue_port_self]
  rfl

theorem enterNoBackhaul_port_ne {a q : Path} (s : State) (h : q ≠ a) :
    (enterNoBackhaul a s).port q = (s.port q).unswapped := by
  rw [State.port, enterNoBackhaul_shore]
  refine (withdrawPathSwap_port _ q).trans ?_
  rw [withdrawDue_port_ne _ _ h, flushQueue_port_ne s h]

theorem enterNoBackhaul_freeBuffers (a : Path) (s : State) :
    (enterNoBackhaul a s).freeBuffers = s.freeBuffers + (s.port a).txQueue.length := by
  simp only [enterNoBackhaul, raiseNotice_freeBuffers, State.setPsl_freeBuffers, drainIfUp_freeBuffers,
    bulkReview_freeBuffers]
  rfl

theorem drainIfUp_psl (p : Path) (s : State) : (drainIfUp p s).psl = { s.psl with
    drain := if isUp s p then s.psl.drain.set p (some (s.path p).config.drain) else s.psl.drain } := by
  unfold drainIfUp
  split <;> rfl

theorem enterNoBackhaul_psl (a : Path) (s : State) : (enterNoBackhaul a s).psl = { s.psl with
    active := none, confirmCount := 0, confirmFor := none, noBackhauls := s.psl.noBackhauls + 1
    drain := if isUp s a then s.psl.drain.set a (some (s.path a).config.drain) else s.psl.drain } := by
  simp only [enterNoBackhaul, raiseNotice_psl, State.setPsl_psl, drainIfUp_psl, bulkReview_psl]
  simp [isUp, State.path]

theorem enterNoBackhaul_ntu (a : Path) (s : State) : (enterNoBackhaul a s).ntu =
    noticeSet s.ntu .noBackhaul (raiseFlags (noticeGet s.ntu .noBackhaul)) := by
  simp [enterNoBackhaul, raiseNotice_eq]

theorem enterNoBackhaul_visitor (a : Path) (s : State) (i : Nat) :
    (enterNoBackhaul a s).visitor i = setReviewMark (s.visitor i) := by
  have h : (enterNoBackhaul a s).visitor i = (bulkReview (withdrawPathSwap
      ((withdrawDue a isFill (flushQueue a s)).setPsl { s.psl with active := none }))).visitor i := by
    simp [enterNoBackhaul, State.visitor]
  rw [h, bulkReview_visitor]
  rfl

/-! ## Leaving the active path -/

theorem leaveActive_of_candidate {a b : Path} {s : State} (h : candidateNow s = some b) :
    leaveActive a s = swapTo b .forced (computeCandidate s) := by
  unfold leaveActive
  dsimp only
  rw [show (computeCandidate s).psl.candidate = some b from h]

theorem leaveActive_of_none {a : Path} {s : State} (h : candidateNow s = none) :
    leaveActive a s = enterNoBackhaul a (computeCandidate s) := by
  unfold leaveActive
  dsimp only
  rw [show (computeCandidate s).psl.candidate = none from h]

theorem leaveActive_visitor (a : Path) (s : State) (i : Nat) :
    (leaveActive a s).visitor i = setReviewMark (s.visitor i) := by
  cases h : candidateNow s with
  | none => rw [leaveActive_of_none h, enterNoBackhaul_visitor]; rfl
  | some b => rw [leaveActive_of_candidate h, swapTo_visitor]; rfl

/-- A path that leaves UP, before the selector acts (R125, R135, R136). -/
def leftUp (p : Path) (s : State) : State := closeDrain p (withdrawDue p isPathSwap (raiseNotice .pathState s))

theorem pathLeavesUp_of_active {p : Path} {s : State} (h : s.psl.active = some p) :
    pathLeavesUp p s = leaveActive p (leftUp p s) := if_pos h

theorem pathLeavesUp_of_other {p : Path} {s : State} (h : s.psl.active ≠ some p) :
    pathLeavesUp p s = leftUp p s := if_neg h

end Sys2Proof.Machine
end


section
/-! SUPPORT. PATH_DISABLE: the clean-up of a path, and the active path left for another or for none. -/

namespace Sys2Proof.Machine

/-! ## The clean-up of a path -/

theorem modPath_path_self (p : Path) (f : Psv → Psv) (s : State) : (s.modPath p f).path p = f (s.path p) :=
  State.setPath_path_self _ _ _

theorem withdrawDue_path (p q : Path) (f : Due → Bool) (s : State) : (withdrawDue p f s).path q = s.path q := rfl

theorem modPath_path_ne {p q : Path} (f : Psv → Psv) (s : State) (h : q ≠ p) :
    (s.modPath p f).path q = s.path q := State.setPath_path_ne _ _ h

/-- What a clean-up leaves of a survey: none, and of the gap what an abort starts (R109, R117). -/
theorem abortSurvey_eq (g : Bool) (v : Psv) :
    abortSurvey g v = { v with survey := .idle, gap := (abortSurvey g v).gap } := by
  obtain ⟨⟩ := v
  rename_i survey _ _ _ _ _ _ _ _ _ _ _ _ _ _ _
  cases survey <;> rfl

theorem abortSurvey_gap_inFlight {v : Psv} {run : SurveyRun} (h : v.survey = .inFlight run) :
    (abortSurvey true v).gap = some (2 * (10 * v.config.prescale * v.config.postscale)) := by
  simp [abortSurvey, h, gapStart, probeInterval]

theorem abortSurvey_gap_quiet {v : Psv} (g : Bool) (h : v.survey = .idle ∨ v.survey = .deferred) :
    (abortSurvey g v).gap = v.gap := by
  rcases h with h | h <;> simp [abortSurvey, h]

/-- A path after its clean-up (R109). -/
def cleanedUp (g : Bool) (v : Psv) : Psv := { v with
  settleTimer := none, openTimer := none, probeTimer := none, idleTimer := none, outstanding := []
  survey := .idle, gap := (abortSurvey g v).gap }

theorem cleanUp_path_self (g : Bool) (p : Path) (s : State) :
    (cleanUp g p s).path p = cleanedUp g (s.path p) := by
  rw [cleanUp, withdrawDue_path, modPath_path_self, abortSurvey_eq]
  rfl

theorem cleanUp_path_ne {p q : Path} (g : Bool) (s : State) (h : q ≠ p) :
    (cleanUp g p s).path q = s.path q := State.setPath_path_ne _ _ h

/-- A clean-up leaves of the due frames only a PATH_SWAP (R109). -/
theorem cleanUp_port_self (g : Bool) (p : Path) (s : State) :
    (cleanUp g p s).port p = { s.port p with due := (s.port p).due.filter isPathSwap } := by
  refine (withdrawDue_port_self _ _ _).trans ?_
  simp only [Bool.not_not]
  rfl

theorem cleanUp_port_ne {p q : Path} (g : Bool) (s : State) (h : q ≠ p) :
    (cleanUp g p s).port q = s.port q := withdrawDue_port_ne _ _ h

/-! ## A path that leaves UP -/

theorem leftUp_port_self (p : Path) (s : State) : (leftUp p s).port p = (s.port p).unswapped :=
  withdrawDue_port_self p isPathSwap (raiseNotice .pathState s)

theorem leftUp_port_ne {p q : Path} (s : State) (h : q ≠ p) : (leftUp p s).port q = s.port q :=
  withdrawDue_port_ne isPathSwap (raiseNotice .pathState s) h

theorem leftUp_path (p q : Path) (s : State) : (leftUp p s).path q = s.path q := rfl

theorem leftUp_ntu (p : Path) (s : State) : (leftUp p s).ntu =
    noticeSet s.ntu .pathState (raiseFlags (noticeGet s.ntu .pathState)) := rfl

section Leaving

variable {p b : Path} {s : State}

/-- The notices once the active path has been left for another (R125, R134). -/
theorem leaveFor_ntu (p b : Path) (s : State) : (swapTo b .forced (computeCandidate (leftUp p s))).ntu =
    noticeSet (leftUp p s).ntu .pathSwap (raiseFlags (noticeGet (leftUp p s).ntu .pathSwap)) := swapTo_ntu b .forced _

/-- The selector once the active path, no longer UP, has been left for another (R134, R138). -/
theorem leaveFor_psl (ha : s.psl.active = some p) (hp : (s.path p).state ≠ .up)
    (hc : candidateNow (leftUp p s) = some b) :
    (swapTo b .forced (computeCandidate (leftUp p s))).psl = { s.psl with
      active := some b, candidate := some b, costs := costsNow (leftUp p s), lastFrom := some p,
      lastCause := .forced, drain := (s.psl.drain.set p none).set b none,
      holdDown := some (s.psl.settings.holdDown * 1000), confirmCount := 0, confirmFor := none,
      forcedSwaps := s.psl.forcedSwaps + 1 } := by
  have hdown : isUp (computeCandidate (leftUp p s)) p = false :=
    (show isUp s p = false by simpa [isUp] using hp)
  have hwindows : swapWindows b (computeCandidate (leftUp p s)) = (s.psl.drain.set p none).set b none := by
    rw [swapWindows, show (computeCandidate (leftUp p s)).psl.active = some p from ha]
    simp only [Option.elim, hdown]
    rfl
  rw [swapTo_psl, swapSelector, hwindows, ← hc, ← ha]
  rfl

/-- The port of the new path once the active path has been left for it (R134). -/
theorem leaveFor_port_joined (ha : s.psl.active = some p) (hb : p ≠ b) :
    (swapTo b .forced (computeCandidate (leftUp p s))).port b = { (s.port b).unswapped with
      txQueue := (s.port p).txQueue, due := (s.port b).unswapped.due ++ [.pathSwap (some p)] } := by
  have hactive : (computeCandidate (leftUp p s)).psl.active = some p := ha
  have hother : (computeCandidate (leftUp p s)).port b = s.port b := leftUp_port_ne s hb.symm
  have hself : (computeCandidate (leftUp p s)).port p = (s.port p).unswapped := leftUp_port_self p s
  rw [swapTo_port_self, swapMoved_of_some hactive, splice_port_joined _ hb, hactive, hother, hself]
  rfl

/-- The port of the path left for another (R123, R134, R135). -/
theorem leaveFor_port_left (ha : s.psl.active = some p) (hb : p ≠ b) :
    (swapTo b .forced (computeCandidate (leftUp p s))).port p = { s.port p with
      txQueue := [], due := ((s.port p).unswapped.due.filter (fun d => !isFill d)).filter (fun d => !isPathSwap d) } := by
  have hself : (computeCandidate (leftUp p s)).port p = (s.port p).unswapped := leftUp_port_self p s
  rw [swapTo_port_ne _ _ hb, swapMoved_of_some (show (computeCandidate (leftUp p s)).psl.active = some p from ha),
    splice_port_left _ hb, hself]
  rfl

theorem leaveFor_path (p b q : Path) (s : State) :
    (swapTo b .forced (computeCandidate (leftUp p s))).path q = s.path q := by
  rw [State.path, swapTo_psv]
  rfl

/-- The selector once the active path, no longer UP, has been left for none (R137). -/
theorem leaveForNone_psl (hp : (s.path p).state ≠ .up) (hc : candidateNow (leftUp p s) = none) :
    (enterNoBackhaul p (computeCandidate (leftUp p s))).psl = { s.psl with
      active := none, candidate := none, costs := costsNow (leftUp p s), confirmCount := 0, confirmFor := none,
      noBackhauls := s.psl.noBackhauls + 1, drain := s.psl.drain.set p none } := by
  have hdown : isUp (computeCandidate (leftUp p s)) p = false :=
    (show isUp s p = false by simpa [isUp] using hp)
  rw [enterNoBackhaul_psl, hdown, ← hc]
  rfl

theorem leaveForNone_port_left (p : Path) (s : State) :
    (enterNoBackhaul p (computeCandidate (leftUp p s))).port p = { s.port p with
      txQueue := [], due := ((s.port p).unswapped.due.filter (fun d => !isFill d)).filter (fun d => !isPathSwap d)
      counters := { (s.port p).counters with
        flushed := (s.port p).counters.flushed + BitVec.ofNat 32 (s.port p).txQueue.length } } := by
  have hself : (computeCandidate (leftUp p s)).port p = (s.port p).unswapped := leftUp_port_self p s
  rw [enterNoBackhaul_port_self, hself]
  rfl

theorem leaveForNone_port_ne {q : Path} (s : State) (h : q ≠ p) :
    (enterNoBackhaul p (computeCandidate (leftUp p s))).port q = (s.port q).unswapped := by
  have hother : (computeCandidate (leftUp p s)).port q = s.port q := leftUp_port_ne s h
  rw [enterNoBackhaul_port_ne _ h, hother]

theorem leaveForNone_path (p q : Path) (s : State) :
    (enterNoBackhaul p (computeCandidate (leftUp p s))).path q = s.path q := by
  rw [State.path, enterNoBackhaul_psv]
  rfl

end Leaving

/-! ## PATH_DISABLE -/

/-- A path not DISABLED as PATH_DISABLE leaves it, before the effects of leaving UP (R111; log entry 9). -/
def disabledAt (p : Path) (s : State) : State :=
  ((cleanUp true p s).modPath p (fun v => { v with state := .disabled })).setNtu (clearPending .pathLost s.ntu)

theorem disablePath_of_up {p : Path} {s : State} (h : (s.path p).state = .up) :
    disablePath p s = pathLeavesUp p (disabledAt p s) := by
  rw [disablePath, if_neg (by rw [h]; decide)]
  exact if_pos h

theorem disablePath_of_other {p : Path} {s : State} (hd : (s.path p).state ≠ .disabled)
    (h : (s.path p).state ≠ .up) : disablePath p s = disabledAt p s := by
  rw [disablePath, if_neg hd]
  exact if_neg h

theorem disabledAt_path_self (p : Path) (s : State) :
    (disabledAt p s).path p = { cleanedUp true (s.path p) with state := .disabled } := by
  rw [disabledAt, State.setNtu_path, modPath_path_self, cleanUp_path_self]

theorem disabledAt_path_ne {p q : Path} (s : State) (h : q ≠ p) : (disabledAt p s).path q = s.path q :=
  (State.setPath_path_ne _ _ h).trans (cleanUp_path_ne true s h)

theorem disabledAt_port_self (p : Path) (s : State) :
    (disabledAt p s).port p = { s.port p with due := (s.port p).due.filter isPathSwap } :=
  cleanUp_port_self true p s

theorem disabledAt_port_ne {p q : Path} (s : State) (h : q ≠ p) : (disabledAt p s).port q = s.port q :=
  cleanUp_port_ne true s h

/-- No due frame is left of a port that had only a PATH_SWAP. -/
theorem due_after_disable (p : Path) (s : State) : ((disabledAt p s).port p).unswapped.due = [] := by
  rw [disabledAt_port_self]
  simp [ShorePort.unswapped, List.filter_filter]

/-- Disabling a path leaves the other paths as eligible as they were. -/
theorem eligible_disabled_ne {p q : Path} (s : State) (h : q ≠ p) :
    eligible (leftUp p (disabledAt p s)) q = eligible s q := by
  unfold eligible isUp
  rw [leftUp_path, disabledAt_path_ne s h]
  rfl

theorem eligible_disabled_self (p : Path) (s : State) : eligible (leftUp p (disabledAt p s)) p = false := by
  unfold eligible isUp
  rw [leftUp_path, disabledAt_path_self]
  rfl

theorem costOf_disabled_ne {p q : Path} (s : State) (h : q ≠ p) :
    costOf (leftUp p (disabledAt p s)) q = costOf s q := by
  unfold costOf
  rw [leftUp_path, disabledAt_path_ne s h]
  rfl

theorem pathDisableBody_of_path {p : Path} {r : Request} {s : State} (h : arg "PATH" r = some (p.num : Int)) :
    pathDisableBody r s = doneState p (disablePath p s) := needPath_of_path h _

/-- The best of the other paths is the candidate once a path is disabled. -/
theorem candidate_after_disable {p b : Path} {s : State} (hbp : b ≠ p) (he : eligible s b = true)
    (hbest : s.psl.pin = some b ∨
      (∀ q : Path, s.psl.pin = some q → q = p ∨ eligible s q = false) ∧
      ∀ q : Path, q ≠ p → q ≠ b → eligible s q = true →
        costOf s b < costOf s q ∨ costOf s b = costOf s q ∧ b.num < q.num) :
    candidateNow (leftUp p (disabledAt p s)) = some b := by
  have he' : eligible (leftUp p (disabledAt p s)) b = true := (eligible_disabled_ne s hbp).trans he
  rcases hbest with hpin | ⟨hpin, hcost⟩
  · exact candidateNow_of_pin hpin he'
  · refine candidateNow_of_best he' (fun q hq => ?_) fun q hqb hq => ?_
    · by_cases hqp : q = p
      · rw [hqp]
        exact eligible_disabled_self p s
      · rw [eligible_disabled_ne s hqp]
        exact (hpin q hq).resolve_left hqp
    · have hqp : q ≠ p := by
        rintro rfl
        rw [eligible_disabled_self] at hq
        cases hq
      rw [costOf_disabled_ne s hbp, costOf_disabled_ne s hqp]
      exact hcost q hqp hqb ((eligible_disabled_ne s hqp).symm.trans hq)

theorem noticeGet_leftUp_disabled {p : Path} {s : State} {x : Source} (hx : x ≠ .pathState)
    (hl : x ≠ .pathLost) : noticeGet (leftUp p (disabledAt p s)).ntu x = noticeGet s.ntu x := by
  rw [leftUp_ntu, noticeGet_set_ne _ _ hx]
  exact noticeGet_set_ne s.ntu _ hl

/-- Settles O30: by whether the path is UP, is active, and what the candidate is once it is disabled. -/
theorem pathDisableAndNoBackhaul : Obligations.PathDisableAndNoBackhaul := by
  unfold Obligations.PathDisableAndNoBackhaul
  intro p r s hhead harg
  have hname : nm "PATH_DISABLE" ∈ requestNames := by simp [requestNames]
  let u := dropRequest .ship s
  have hbody : pathDisableBody r u = doneState p (disablePath p u) := pathDisableBody_of_path harg
  have hinFlight : ∀ run : SurveyRun, (s.path p).survey = .inFlight run → (cleanedUp true (s.path p)).gap =
      some (2 * (10 * (s.path p).config.prescale * (s.path p).config.postscale)) :=
    fun run hrun => abortSurvey_gap_inFlight hrun
  have hquiet : (s.path p).survey = .idle ∨ (s.path p).survey = .deferred →
      (cleanedUp true (s.path p)).gap = (s.path p).gap := abortSurvey_gap_quiet true
  have hself : (disabledAt p u).path p = { cleanedUp true (s.path p) with state := .disabled } :=
    disabledAt_path_self p u
  have hdown : ((disabledAt p u).path p).state ≠ .up := by rw [hself]; exact PathState.noConfusion
  have hdue := due_after_disable p u
  refine ⟨fun ha hup hnone => ?none, fun b ha hup hbp he hbest => ?swap, fun ha hup => ?inactive,
    fun hd hup => ?other, fun hd => ?still⟩
  case none =>
    have hc : candidateNow (leftUp p (disabledAt p u)) = none := candidateNow_eq_none.2 fun q => by
      by_cases hq : q = p
      · rw [hq]
        exact eligible_disabled_self p u
      · exact (eligible_disabled_ne u hq).trans (hnone q hq)
    have hleft : disablePath p u = enterNoBackhaul p (computeCandidate (leftUp p (disabledAt p u))) := by
      rw [disablePath_of_up (s := u) hup, pathLeavesUp_of_active (s := disabledAt p u) ha, leaveActive_of_none hc]
    have hpath := leaveForNone_path p p (disabledAt p u)
    rw [hself] at hpath
    have hport := leaveForNone_port_left p (disabledAt p u)
    rw [hdue, disabledAt_port_self] at hport
    have hpsl := leaveForNone_psl hdown hc
    have hntu := enterNoBackhaul_ntu p (computeCandidate (leftUp p (disabledAt p u)))
    rw [hleft] at hbody
    refine ⟨_, request_ship_done hhead hname hbody, fun run hrun => (congrArg Psv.gap hpath :).trans (hinFlight run hrun),
      fun hq => (congrArg Psv.gap hpath :).trans (hquiet hq), (congrArg Psv.state hpath :),
      (congrArg Psl.active hpsl :), (congrArg ShorePort.txQueue hport :), (congrArg ShorePort.due hport :), ?_,
      (congrArg (fun x : ShorePort => x.counters.flushed) hport :), (congrArg Psl.noBackhauls hpsl :), ?_, ?_,
      (congrArg Psv.lostLatch hpath :), ?_, enterNoBackhaul_allMarked p (computeCandidate (leftUp p (disabledAt p u))), fun i => ?_, fun q hq => ⟨?_, ?_⟩, ?_⟩
    · refine (enterNoBackhaul_freeBuffers p (computeCandidate (leftUp p (disabledAt p u)))).trans ?_
      show s.freeBuffers + ((leftUp p (disabledAt p u)).port p).txQueue.length = _
      rw [leftUp_port_self, disabledAt_port_self]
      rfl
    · exact (congrArg (fun n : Ntu => n.noBackhaul.pending) hntu :).trans (raiseFlags_pending _)
    · exact (congrArg (fun n : Ntu => n.pathState.pending) hntu :).trans (raiseFlags_pending _)
    · exact (congrArg Ntu.pathLost hntu :)
    · exact (congrArg (fun v : Visitor => { v with reviewMark := false }) (enterNoBackhaul_visitor p (computeCandidate (leftUp p (disabledAt p u))) i)).trans
        (setReviewMark_rest _)
    · exact (leaveForNone_path p q (disabledAt p u)).trans (disabledAt_path_ne u hq)
    · exact (leaveForNone_port_ne (disabledAt p u) hq).trans (by rw [disabledAt_port_ne u hq]; rfl)
    · apply State.eq_of_blocks <;> simp [doneAt, placeReply, leftUp, disabledAt, computeCandidate, dropRequest, u]
  case swap =>
    have hc : candidateNow (leftUp p (disabledAt p u)) = some b := candidate_after_disable (s := u) hbp he hbest
    have hleft : disablePath p u = swapTo b .forced (computeCandidate (leftUp p (disabledAt p u))) := by
      rw [disablePath_of_up (s := u) hup, pathLeavesUp_of_active (s := disabledAt p u) ha, leaveActive_of_candidate hc]
    have hpath := leaveFor_path p b p (disabledAt p u)
    rw [hself] at hpath
    have hport := leaveFor_port_left (s := disabledAt p u) ha hbp.symm
    rw [hdue, disabledAt_port_self] at hport
    have hjoined := leaveFor_port_joined (s := disabledAt p u) ha hbp.symm
    rw [disabledAt_port_self] at hjoined
    have hpsl := leaveFor_psl (s := disabledAt p u) ha hdown hc
    have hntu := leaveFor_ntu p b (disabledAt p u)
    rw [hleft] at hbody
    refine ⟨_, request_ship_done hhead hname hbody, ?_, fun run hrun => (congrArg Psv.gap hpath :).trans (hinFlight run hrun),
      fun hq => (congrArg Psv.gap hpath :).trans (hquiet hq), (congrArg Psl.active hpsl :),
      (congrArg Psl.candidate hpsl :), (congrArg Psl.lastFrom hpsl :), (congrArg Psl.lastCause hpsl :),
      (congrArg Psl.forcedSwaps hpsl :), (congrArg Psl.holdDown hpsl :), ?_, ?_, (congrArg Psl.confirmCount hpsl :),
      (congrArg Psl.confirmFor hpsl :), (congrArg ShorePort.txQueue hjoined :), (congrArg ShorePort.txQueue hport :),
      (congrArg ShorePort.due hport :), ?_, ?_, ?_, ?_, ?_, ?_, swapTo_allMarked b .forced (computeCandidate (leftUp p (disabledAt p u))), fun i => ?_,
      fun q hq => ?_, ?_⟩
    · refine hpath.trans ?_
      show _ = Psv.mk _ _ _ _ _ _ _ ((swapTo b .forced (computeCandidate (leftUp p (disabledAt p u)))).path p).gap
        _ _ _ _ _ _ _ _ _ _ _ _ _ _ _ _ _ _
      rw [hpath]
      rfl
    · refine (congrArg (fun x : Psl => x.drain.get p) hpsl :).trans ?_
      show (((s.psl.drain.set p none).set b none).get p) = none
      rw [perPath_get_set_ne _ _ hbp.symm, perPath_get_set_self]
    · exact (congrArg (fun x : Psl => x.drain.get b) hpsl :).trans (perPath_get_set_self _ _ _)
    · exact (congrArg (fun x : ShorePort => x.due.getLast?) hjoined :).trans (by simp)
    · exact swapTo_freeBuffers b .forced (computeCandidate (leftUp p (disabledAt p u)))
    · exact (congrArg (fun n : Ntu => n.pathSwap.pending) hntu :).trans (raiseFlags_pending _)
    · exact (congrArg (fun n : Ntu => n.pathState.pending) hntu :).trans (raiseFlags_pending _)
    · exact (congrArg Ntu.pathLost hntu :)
    · exact (congrArg Ntu.noBackhaul hntu :)
    · exact (congrArg (fun v : Visitor => { v with reviewMark := false }) (swapTo_visitor b .forced (computeCandidate (leftUp p (disabledAt p u))) i)).trans
        (setReviewMark_rest _)
    · exact (leaveFor_path p b q (disabledAt p u)).trans (disabledAt_path_ne u hq)
    · apply State.eq_of_blocks <;> simp [doneAt, placeReply, leftUp, disabledAt, computeCandidate, dropRequest, u]
  case inactive =>
    have hleft : disablePath p u = leftUp p (disabledAt p u) := by
      rw [disablePath_of_up (s := u) hup, pathLeavesUp_of_other (s := disabledAt p u) ha]
    rw [hleft] at hbody
    have hport : (leftUp p (disabledAt p u)).port p = { s.port p with due := [] } := by
      rw [leftUp_port_self, ← hdue, disabledAt_port_self]
      rfl
    refine ⟨_, request_ship_done hhead hname hbody, ?_, fun run hrun => (congrArg Psv.gap hself :).trans (hinFlight run hrun),
      fun hq => (congrArg Psv.gap hself :).trans (hquiet hq), rfl, hport, raiseFlags_pending _, rfl,
      fun x hx hl => noticeGet_leftUp_disabled hx hl,
      fun q hq => ⟨disabledAt_path_ne u hq, (leftUp_port_ne _ hq).trans (disabledAt_port_ne u hq)⟩, ?_⟩
    · refine hself.trans ?_
      show _ = Psv.mk _ _ _ _ _ _ _ ((disabledAt p u).path p).gap _ _ _ _ _ _ _ _ _ _ _ _ _ _ _ _ _ _
      rw [hself]
      rfl
    · apply State.eq_of_blocks <;> simp [doneAt, placeReply, leftUp, disabledAt, dropRequest, u]
  case other =>
    rw [disablePath_of_other (s := u) hd hup] at hbody
    refine ⟨_, request_ship_done hhead hname hbody, ?_, fun run hrun => (congrArg Psv.gap hself :).trans (hinFlight run hrun),
      fun hq => (congrArg Psv.gap hself :).trans (hquiet hq),
      fun q hq => ⟨disabledAt_path_ne u hq, disabledAt_port_ne u hq⟩, rfl, ?_⟩
    · refine hself.trans ?_
      show _ = Psv.mk _ _ _ _ _ _ _ ((disabledAt p u).path p).gap _ _ _ _ _ _ _ _ _ _ _ _ _ _ _ _ _ _
      rw [hself]
      rfl
    · apply State.eq_of_blocks <;> simp [doneAt, placeReply, disabledAt, dropRequest, u]
  case still =>
    have hstill : disablePath p u = u := if_pos hd
    rw [hstill, doneState, show (u.path p).state = .disabled from hd] at hbody
    exact request_ship_done hhead hname hbody

end Sys2Proof.Machine
end


section
/-! SUPPORT. Carrier, probes and surveys: the loss of a path, what an echo or a deadline resolves, and a survey's
completion. -/

namespace Sys2Proof.Machine

/-! ## What leaving UP keeps of a port -/

/-- What leaving UP does not touch of a port: carrier, requests, reply, transmission and the count of lost requests. -/
def ShorePort.link (x : ShorePort) : Bool × List Request × Option Reply × Option TxFrame × Count :=
  (x.carrier, x.requests, x.reply, x.transmitter, x.counters.dropReqLost)

section LeavingUp

variable {p : Path} {s : State}

theorem candidate_ne_of_down {b : Path} (hp : (s.path p).state ≠ .up) (hc : candidateNow (leftUp p s) = some b) :
    p ≠ b := by
  rintro rfl
  have he := candidateNow_eligible hc
  exact hp (eligible_iff.1 he).1

theorem pathLeavesUp_link (hp : (s.path p).state ≠ .up) : ((pathLeavesUp p s).port p).link = (s.port p).link := by
  by_cases ha : s.psl.active = some p
  · rw [pathLeavesUp_of_active ha]
    cases hc : candidateNow (leftUp p s) with
    | none =>
      rw [leaveActive_of_none hc, leaveForNone_port_left]
      rfl
    | some b =>
      rw [leaveActive_of_candidate hc, leaveFor_port_left ha (candidate_ne_of_down hp hc)]
      rfl
  · rw [pathLeavesUp_of_other ha, leftUp_port_self]
    rfl

theorem pathLeavesUp_visitor (p : Path) (s : State) (i : Nat) :
    { (pathLeavesUp p s).visitor i with reviewMark := false } = { s.visitor i with reviewMark := false } := by
  by_cases ha : s.psl.active = some p
  · rw [pathLeavesUp_of_active ha, leaveActive_visitor, setReviewMark_rest]
    rfl
  · rw [pathLeavesUp_of_other ha]
    rfl

/-- Leaving UP raises notices of its own alone. -/
theorem pathLeavesUp_noticeGet (p : Path) (s : State) {x : Source} (h1 : x ≠ .pathState) (h2 : x ≠ .pathSwap)
    (h3 : x ≠ .noBackhaul) : noticeGet (pathLeavesUp p s).ntu x = noticeGet s.ntu x := by
  have hleft : noticeGet (leftUp p s).ntu x = noticeGet s.ntu x := noticeGet_set_ne _ _ h1
  by_cases ha : s.psl.active = some p
  · rw [pathLeavesUp_of_active ha, ← hleft]
    cases hc : candidateNow (leftUp p s) with
    | none =>
      rw [leaveActive_of_none hc, enterNoBackhaul_ntu]
      exact noticeGet_set_ne _ _ h3
    | some b =>
      rw [leaveActive_of_candidate hc, swapTo_ntu]
      exact noticeGet_set_ne _ _ h2
  · rw [pathLeavesUp_of_other ha, hleft]

end LeavingUp

/-! ## Carrier -/

/-- A path in service as the loss of carrier leaves it, before the effects of leaving UP (R112). -/
def lostAt (p : Path) (s : State) : State :=
  raiseNotice .pathLost ((cleanUp true p (s.modPort p portLosesCarrier)).modPath p pathLosesCarrier)

theorem carrierLost_of_service {p : Path} {s : State} (h : carrierState (s.path p).state = true) :
    carrierLost p s = if (s.path p).state = .up then pathLeavesUp p (lostAt p s) else lostAt p s := if_pos h

theorem carrierLost_of_idle {p : Path} {s : State} (h : carrierState (s.path p).state = false) :
    carrierLost p s = s.modPort p portLosesCarrier := if_neg (by simp [h])

theorem lostAt_path_self (p : Path) (s : State) :
    (lostAt p s).path p = pathLosesCarrier (cleanedUp true (s.path p)) := by
  have h : (lostAt p s).path p =
      ((cleanUp true p (s.modPort p portLosesCarrier)).modPath p pathLosesCarrier).path p := rfl
  rw [h, modPath_path_self, cleanUp_path_self]
  rfl

theorem lostAt_path_ne {p q : Path} (s : State) (h : q ≠ p) : (lostAt p s).path q = s.path q :=
  (modPath_path_ne _ _ h).trans (cleanUp_path_ne true _ h)

theorem lostAt_link (p : Path) (s : State) :
    ((lostAt p s).port p).link = (portLosesCarrier (s.port p)).link := by
  have h : (lostAt p s).port p = (cleanUp true p (s.modPort p portLosesCarrier)).port p := rfl
  rw [h, cleanUp_port_self, State.modPort, State.setPort_port_self]
  rfl

/-- After the loss of carrier of a path in service (R112, R125). -/
theorem carrierLost_leaves {p : Path} {s : State} (h : carrierState (s.path p).state = true) :
    (∀ q, (carrierLost p s).path q = (lostAt p s).path q) ∧
      ((carrierLost p s).port p).link = (portLosesCarrier (s.port p)).link ∧
      noticeGet (carrierLost p s).ntu .pathLost = noticeGet (lostAt p s).ntu .pathLost ∧
      (∀ i, { (carrierLost p s).visitor i with reviewMark := false } = { s.visitor i with reviewMark := false }) := by
  have hdown : ((lostAt p s).path p).state ≠ .up := by rw [lostAt_path_self]; exact PathState.noConfusion
  rw [carrierLost_of_service h]
  split
  · exact ⟨fun q => by rw [State.path, pathLeavesUp_psv]; rfl, (pathLeavesUp_link hdown).trans (lostAt_link p s),
      pathLeavesUp_noticeGet _ _ (by decide) (by decide) (by decide), pathLeavesUp_visitor p (lostAt p s)⟩
  · exact ⟨fun _ => rfl, lostAt_link p s, rfl, fun _ => rfl⟩

theorem carrierLost_frame {p : Path} {s : State} (h : carrierState (s.path p).state = true) :
    carrierLost p s = { s with
      shore := (carrierLost p s).shore, freeBuffers := (carrierLost p s).freeBuffers,
      vtb := (carrierLost p s).vtb, rse := (carrierLost p s).rse, psv := (carrierLost p s).psv,
      psl := (carrierLost p s).psl, ntu := (carrierLost p s).ntu } := by
  rw [carrierLost_of_service h]
  split
  all_goals apply State.eq_of_blocks <;> simp [lostAt, State.modPort]

/-- Settles O23: carrier by the state of the path; the loss of a path in service is its clean-up, then leaving UP. -/
theorem carrierArrivesAndIsLost : Obligations.CarrierArrivesAndIsLost := by
  unfold Obligations.CarrierArrivesAndIsLost
  intro p s
  refine ⟨fun hc hd => ?arrives, fun hc hd => ?appears, fun hc hstate => ?lost, fun hc hstate => ?idle⟩
  case arrives =>
    show execCarrierArrival p s = _
    rw [execCarrierArrival, if_neg (by simp [hc]), carrierArrives]
    exact congrArg Host.Outcome.next (if_pos hd)
  case appears =>
    show execCarrierArrival p s = _
    rw [execCarrierArrival, if_neg (by simp [hc]), carrierArrives]
    refine congrArg Host.Outcome.next (if_neg fun h => ?_)
    rcases hd with hd | hd <;> exact absurd (h.symm.trans hd) (by decide)
  case lost =>
    have hservice : carrierState (s.path p).state = true := by
      rcases hstate with h | h | h | h <;> rw [h] <;> rfl
    obtain ⟨hpaths, hlink, hlost, hvisitors⟩ := carrierLost_leaves hservice
    have hself := (hpaths p).trans (lostAt_path_self p s)
    obtain ⟨hcarrier, hrequests, hreply, htx, hcount⟩ : _ ∧ _ ∧ _ ∧ _ ∧ _ := by
      simpa only [ShorePort.link, Prod.mk.injEq] using hlink
    refine ⟨carrierLost p s, if_pos hc, (congrArg Psv.state hself :), (congrArg Psv.lostLatch hself :), ?_,
      (congrArg Psv.carrierLosses hself :), (congrArg Psv.settleTimer hself :), (congrArg Psv.openTimer hself :),
      (congrArg Psv.probeTimer hself :), (congrArg Psv.idleTimer hself :), (congrArg Psv.outstanding hself :),
      (congrArg Psv.survey hself :), (congrArg Psv.surveyRecord hself :),
      fun run hrun => (congrArg Psv.gap hself :).trans (abortSurvey_gap_inFlight hrun),
      fun hq => (congrArg Psv.gap hself :).trans (abortSurvey_gap_quiet true hq), hcarrier, hrequests, hreply, htx,
      hcount, fun q hq => (hpaths q).trans (lostAt_path_ne s hq), hvisitors, carrierLost_frame hservice⟩
    exact (congrArg NoticeFlags.pending hlost :).trans (raiseFlags_pending _)
  case idle =>
    have hidle : carrierState (s.path p).state = false := by
      rcases hstate with h | h <;> rw [h] <;> rfl
    show execCarrierLoss p s = _
    rw [execCarrierLoss, if_pos hc, carrierLost_of_idle hidle]
    rfl

/-! ## Frames that reach a supervisor -/

/-- A frame of the part's own at a shore port is sorted by its kind (R2). -/
theorem shoreArrival_of_own {kind : Byte} {f : EthFrame} (p : Path) (s : State) (h : OwnFrame kind f) :
    shoreArrival p f s = shoreSort p f kind s := by
  obtain ⟨hcheck, htype, hkind⟩ := h
  rw [shoreArrival, if_neg (by simp [hcheck]), if_neg (by simp [htype])]
  cases hb : f.body with
  | nil => simp [hb] at hkind
  | cons b left =>
    rw [hb] at hkind
    cases hkind
    rfl

theorem supervisionCounted_eq (p : Path) (f : EthFrame) (s : State) :
    supervisionCounted p f.src s = supervisionAt p f s := by
  simp [supervisionCounted, learnShore, supervisionAt, State.modPort, State.countShore]

/-- A tunnel header that names its path passes the header test (R183). -/
theorem shoreHeaderOk_of_tunnel {kind : Byte} {p : Path} {f : EthFrame} {k : ShoreKind}
    (h : TunnelFrame kind p f) (hk : k ≠ .request) : shoreHeaderOk p f.body k = true := by
  obtain ⟨-, hlen, hpath⟩ := h
  cases k with
  | request => exact absurd rfl hk
  | data => simp [shoreHeaderOk, hlen, hpath]
  | probe => simp [shoreHeaderOk, hlen, hpath]
  | probeEcho => simp [shoreHeaderOk, hlen, hpath]
  | pathAccept => simp [shoreHeaderOk, hlen, hpath]

/-- A PROBE_ECHO is handed to its supervisor (R2). -/
theorem probeEcho_arrives {p : Path} {f : EthFrame} (s : State) (h : TunnelFrame 0x12 p f) :
    exec (.shoreFrameArrival p f) s = .next
      (echoArrives p (BitVec.ofNat 8 (byteAt f.body 8)) (supervisionAt p f s)) := by
  show Host.Outcome.next (shoreArrival p f s) = _
  rw [shoreArrival_of_own p s h.1, shoreSort, show shoreKind 0x12 = some .probeEcho from rfl,
    ← supervisionCounted_eq]
  exact congrArg Host.Outcome.next (if_neg (by simp [shoreHeaderOk_of_tunnel h]))

/-! ## What an echo and a deadline resolve -/

section Resolve

variable {p : Path} {id : BitVec 8} {s : State}

theorem echoArrives_of_service (h : (s.path p).state ≠ .test) : echoArrives p id s = echoTaken p id s := if_neg h

theorem echoTaken_of_outstanding {x : Probe} (h : (s.path p).outstanding.find? (fun y => y.id == id) = some x) :
    echoTaken p id s =
      s.modPath p (fun v => resolveReceived (sampleOf s x.stamp) (outstandingDrop id v)) := by
  rw [echoTaken, show outstandingFind id (s.path p) = some x from h]

theorem echoTaken_of_survey {run : SurveyRun} {t0 : BitVec 32}
    (h : (s.path p).outstanding.find? (fun y => y.id == id) = none) (hs : (s.path p).survey = .inFlight run)
    (ht : inFlightStamp id run.entries = some t0) : echoTaken p id s =
      updateSurvey p run (run.entries.map (echoEntry id (sampleOf s t0)))
        (s.modPath p (fun v => { v with lastRtt := sampleOf s t0 })) := by
  rw [echoTaken, show outstandingFind id (s.path p) = none from h]
  simp only [hs, ht]

theorem echoTaken_of_stray (h : (s.path p).outstanding.find? (fun y => y.id == id) = none)
    (hs : ∀ run : SurveyRun, (s.path p).survey = .inFlight run → inFlightStamp id run.entries = none) :
    echoTaken p id s = countStray p s := by
  rw [echoTaken, show outstandingFind id (s.path p) = none from h]
  cases hsurvey : (s.path p).survey with
  | idle => rfl
  | deferred => rfl
  | inFlight run => simp only [hs run hsurvey]

theorem updateSurvey_of_open {run : SurveyRun} {es : List SurveyEntry} (h : es.all entryResolved = false) :
    updateSurvey p run es s = s.modPath p (fun v => { v with survey := .inFlight { run with entries := es } }) :=
  if_neg (by simp [h])

theorem updateSurvey_of_resolved {run : SurveyRun} {es : List SurveyEntry} (h : es.all entryResolved = true) :
    updateSurvey p run es s = completeSurvey p es s := if_pos h

theorem deadlineExpiry_of_outstanding {x : Probe}
    (h : (s.path p).outstanding.find? (fun y => y.id == id) = some x) :
    deadlineExpiry p id s = s.modPath p (fun v => resolveLost (outstandingDrop id v)) := by
  rw [deadlineExpiry, show outstandingFind id (s.path p) = some x from h]

theorem deadlineExpiry_of_survey {run : SurveyRun} {t0 : BitVec 32}
    (h : (s.path p).outstanding.find? (fun y => y.id == id) = none) (hs : (s.path p).survey = .inFlight run)
    (ht : inFlightStamp id run.entries = some t0) :
    deadlineExpiry p id s = updateSurvey p run (run.entries.map (loseEntry id)) s := by
  rw [deadlineExpiry, show outstandingFind id (s.path p) = none from h]
  simp only [hs, ht]

end Resolve

/-- A steady probe resolved as RECEIVED, field by field (R121, R122). -/
theorem resolveReceived_eq (n : Nat) (v : Psv) : resolveReceived n v = { v with
    echoes := v.echoes + 1, lastRtt := n
    srtt := if v.state = .up then (7 * v.srtt + n) / 8 else v.srtt
    lossWindow := if v.state = .up then (false :: v.lossWindow).take 32 else v.lossWindow } := by
  unfold resolveReceived
  dsimp only
  split <;> rfl

/-- A steady probe resolved as LOST, field by field (R121, R122). -/
theorem resolveLost_eq (v : Psv) : resolveLost v = { v with
    losses := v.losses + 1
    lossWindow := if v.state = .up then (true :: v.lossWindow).take 32 else v.lossWindow } := by
  unfold resolveLost
  dsimp only
  split <;> rfl

/-! ## The result of a survey -/

theorem foldl_min_mem : ∀ (x : Nat) (xs : List Nat), xs.foldl min x ∈ x :: xs
  | x, [] => by simp
  | x, y :: ys => by
    rcases List.mem_cons.1 (foldl_min_mem (min x y) ys) with h | h
    · rw [List.foldl_cons, h]
      rcases Nat.le_total x y with hxy | hxy <;> simp [hxy]
    · exact List.mem_cons_of_mem _ (List.mem_cons_of_mem _ h)

theorem foldl_min_le : ∀ (x : Nat) (xs : List Nat), ∀ y ∈ x :: xs, xs.foldl min x ≤ y
  | x, [], y, hy => by simp_all
  | x, z :: zs, y, hy => by
    have ih := foldl_min_le (min x z) zs
    have hinit := ih (min x z) List.mem_cons_self
    rw [List.foldl_cons]
    rcases List.mem_cons.1 hy with rfl | hy
    · omega
    · rcases List.mem_cons.1 hy with rfl | hy
      · omega
      · exact ih y (List.mem_cons_of_mem _ hy)

theorem le_foldl_max : ∀ (x : Nat) (xs : List Nat), ∀ y ∈ x :: xs, y ≤ xs.foldl max x
  | x, [], y, hy => by simp_all
  | x, z :: zs, y, hy => by
    have ih := le_foldl_max (max x z) zs
    have hinit := ih (max x z) List.mem_cons_self
    rw [List.foldl_cons]
    rcases List.mem_cons.1 hy with rfl | hy
    · omega
    · rcases List.mem_cons.1 hy with rfl | hy
      · omega
      · exact ih y (List.mem_cons_of_mem _ hy)

theorem foldl_max_mem : ∀ (x : Nat) (xs : List Nat), xs.foldl max x ∈ x :: xs
  | x, [] => by simp
  | x, y :: ys => by
    rcases List.mem_cons.1 (foldl_max_mem (max x y) ys) with h | h
    · rw [List.foldl_cons, h]
      rcases Nat.le_total x y with hxy | hxy <;> simp [hxy]
    · exact List.mem_cons_of_mem _ (List.mem_cons_of_mem _ h)

theorem samplesMin_mem {xs : List Nat} (h : xs ≠ []) : samplesMin xs ∈ xs := by
  cases xs with
  | nil => exact absurd rfl h
  | cons x xs => exact foldl_min_mem x xs

theorem samplesMin_le {xs : List Nat} {x : Nat} (h : x ∈ xs) : samplesMin xs ≤ x := by
  cases xs with
  | nil => cases h
  | cons y ys => exact foldl_min_le y ys x h

theorem le_samplesMax {xs : List Nat} {x : Nat} (h : x ∈ xs) : x ≤ samplesMax xs :=
  le_foldl_max 0 xs x (List.mem_cons_of_mem _ h)

theorem samplesMax_mem {xs : List Nat} (h : xs ≠ []) : samplesMax xs ∈ xs := by
  cases xs with
  | nil => exact absurd rfl h
  | cons x xs =>
    rw [samplesMax, List.foldl_cons, Nat.zero_max]
    exact foldl_max_mem x xs

/-! ## A survey's completion -/

/-- A supervisor as a survey's completion writes it, before its state decides (R116). -/
def surveyed (es : List SurveyEntry) (v : Psv) : Psv := { v with
  surveyRecord := surveyResult v.config es, survey := .idle, surveys := v.surveys + 1, gap := gapStart v.config }

section Complete

variable {p : Path} {es : List SurveyEntry} {s : State}

theorem completeSurvey_of_fail (hs : (s.path p).state = .surveying)
    (hp : (surveyResult (s.path p).config es).pass = false) :
    completeSurvey p es s = s.setPath p (startSettle (surveyed es (s.path p))) := by
  have hself : (s.modPath p (surveyed es)).path p = surveyed es (s.path p) := modPath_path_self p _ s
  unfold completeSurvey
  dsimp only
  rw [show (s.modPath p fun v => ({ v with
    surveyRecord := surveyResult v.config es, survey := .idle, surveys := v.surveys + 1,
    gap := gapStart v.config } : Psv)) = s.modPath p (surveyed es) from rfl, hself,
    show (surveyed es (s.path p)).state = .surveying from hs]
  dsimp only
  rw [show (surveyed es (s.path p)).surveyRecord.pass = false from hp, if_neg (by decide), State.modPath, hself,
    State.modPath, State.setPath_setPath]

theorem completeSurvey_of_pass (hs : (s.path p).state = .surveying)
    (hp : (surveyResult (s.path p).config es).pass = true) :
    completeSurvey p es s = pathEntersUp p (s.setPath p (passToUp (surveyed es (s.path p)))) := by
  have hself : (s.modPath p (surveyed es)).path p = surveyed es (s.path p) := modPath_path_self p _ s
  unfold completeSurvey
  dsimp only
  rw [show (s.modPath p fun v => ({ v with
    surveyRecord := surveyResult v.config es, survey := .idle, surveys := v.surveys + 1,
    gap := gapStart v.config } : Psv)) = s.modPath p (surveyed es) from rfl, hself,
    show (surveyed es (s.path p)).state = .surveying from hs]
  dsimp only
  rw [show (surveyed es (s.path p)).surveyRecord.pass = true from hp, if_pos rfl, State.modPath, hself,
    State.modPath, State.setPath_setPath]

theorem completeSurvey_of_up (hs : (s.path p).state = .up) : completeSurvey p es s =
    (s.setPath p (surveyed es (s.path p))).setNtu { noticeSet s.ntu .surveyDone
      (raiseFlags (noticeGet s.ntu .surveyDone)) with surveyPath := p } := by
  have hself : (s.modPath p (surveyed es)).path p = surveyed es (s.path p) := modPath_path_self p _ s
  unfold completeSurvey
  dsimp only
  rw [show (s.modPath p fun v => ({ v with
    surveyRecord := surveyResult v.config es, survey := .idle, surveys := v.surveys + 1,
    gap := gapStart v.config } : Psv)) = s.modPath p (surveyed es) from rfl, hself,
    show (surveyed es (s.path p)).state = .up from hs]
  rfl

end Complete

theorem pathEntersUp_of_quiet {p : Path} {s : State} (h : s.psl.active ≠ none ∨ permitted s p = false) :
    pathEntersUp p s = raiseNotice .pathState s := by
  refine if_neg fun hc => ?_
  obtain ⟨ha, hp⟩ := hc
  rcases h with h | h
  · exact h ha
  · exact absurd (hp.symm.trans h) (by decide)

/-- The only eligible path is the candidate (R132). -/
theorem candidateNow_of_only {p : Path} {s : State} (he : eligible s p = true)
    (hother : ∀ q, q ≠ p → eligible s q = false) : candidateNow s = some p := by
  by_cases hpin : s.psl.pin = some p
  · exact candidateNow_of_pin hpin he
  · refine candidateNow_of_best he (fun q hq => hother q ?_) fun q hq heq => ?_
    · rintro rfl
      exact hpin hq
    · exact absurd ((hother q hq).symm.trans heq) (by decide)

/-- With no active path, the only eligible path is made active as it enters UP (R139). -/
theorem pathEntersUp_of_only {p : Path} {s : State} (ha : s.psl.active = none) (he : eligible s p = true)
    (hother : ∀ q, q ≠ p → eligible s q = false) :
    pathEntersUp p s = swapTo p .restored (computeCandidate (raiseNotice .pathState s)) := by
  have hc : candidateNow (raiseNotice .pathState s) = some p := candidateNow_of_only he hother
  have hany : Path.all.any (eligible (raiseNotice .pathState s)) = true :=
    List.any_eq_true.2 ⟨p, mem_pathAll p, he⟩
  rw [pathEntersUp]
  rw [if_pos ⟨show (raiseNotice .pathState s).psl.active = none from ha, (eligible_iff.1 he).2⟩, activate, if_pos hany]
  dsimp only
  rw [show (computeCandidate (raiseNotice .pathState s)).psl.candidate = some p from hc]

end Sys2Proof.Machine
end


section
/-! SUPPORT. What an echo, a deadline, the end of a recovery gap and a survey's completion leave (R116 to R122). -/

namespace Sys2Proof.Machine

theorem gapEnd_next {p : Path} {s : State} (h : (s.path p).gap ≠ none) :
    exec (.recoveryGapEnd p) s = .next (gapEnd p s) := if_pos (timerRunning_of_ne h)

/-- The end of the gap starts a survey deferred to it (R117). -/
theorem gapEnd_of_deferred {p : Path} {s : State} (hs : (s.path p).survey = .deferred)
    (hstate : (s.path p).state = .surveying ∨ (s.path p).state = .up) :
    gapEnd p s = startSurvey p (s.setPath p { s.path p with gap := none }) := by
  have hself : (s.setPath p { s.path p with gap := none }).path p = { s.path p with gap := none } :=
    State.setPath_path_self _ _ _
  unfold gapEnd
  dsimp only
  rw [State.modPath, hself, if_pos (show (Psv.survey _) = _ from hs), if_pos hstate]

theorem gapEnd_of_none {p : Path} {s : State} (hs : (s.path p).survey ≠ .deferred) :
    gapEnd p s = s.setPath p { s.path p with gap := none } := by
  have hself : (s.setPath p { s.path p with gap := none }).path p = { s.path p with gap := none } :=
    State.setPath_path_self _ _ _
  unfold gapEnd
  dsimp only
  rw [State.modPath, hself]
  exact if_neg hs

/-- A survey just started (R116). -/
def surveyStarted : Survey :=
  .inFlight { entries := List.replicate 8 .unsent, dueCount := 1, spacing := some 10 }

/-- A survey that starts, on a path already written (R116). -/
theorem startSurvey_setPath (p : Path) (v : Psv) (s : State) : startSurvey p (s.setPath p v) =
    (s.setPath p { v with survey := surveyStarted }).setPort p
      { s.port p with due := (s.port p).due ++ [.surveyProbe 0] } := by
  simp only [startSurvey, makeDue, State.modPath, State.setPath_path_self, State.setPath_setPath]
  rfl

/-- The activation of a path raises PATH_SWAP alone (R139). -/
theorem activate_noticeGet {x : Source} (s : State) (hx : x ≠ .pathSwap) :
    noticeGet (activate s).ntu x = noticeGet s.ntu x := by
  unfold activate
  split
  · dsimp only
    split
    · rw [swapTo_ntu]
      exact noticeGet_set_ne _ _ hx
    · rfl
  · rfl

/-- A path that enters UP sets PATH_STATE pending (R125). -/
theorem pathEntersUp_raises (p : Path) (s : State) : (pathEntersUp p s).ntu.pathState.pending = true := by
  have hraised : (noticeGet (raiseNotice .pathState s).ntu .pathState).pending = true := raiseNotice_sets _ _
  unfold pathEntersUp
  dsimp only
  split
  · exact (congrArg NoticeFlags.pending (activate_noticeGet _ (by decide))).trans hraised
  · exact hraised

/-- Echoes (R119, R121). -/
theorem echo_resolves (p : Path) (f : EthFrame) (id : BitVec 8) (s : State) (hf : TunnelFrame 0x12 p f)
    (hid : id = BitVec.ofNat 8 (byteAt f.body 8)) :
    (∀ (x : Probe) (n : Nat), (s.path p).state ≠ .test →
      (s.path p).outstanding.find? (fun y => y.id == id) = some x →
      n = min (s.clocks.stamp - x.stamp).toNat 40950 → exec (.shoreFrameArrival p f) s = .next
        ((supervisionAt p f s).setPath p { s.path p with
          outstanding := (s.path p).outstanding.filter (fun y => y.id != id)
          echoes := (s.path p).echoes + 1
          lastRtt := n
          srtt := if (s.path p).state = .up then (7 * (s.path p).srtt + n) / 8 else (s.path p).srtt
          lossWindow := if (s.path p).state = .up then (false :: (s.path p).lossWindow).take 32
            else (s.path p).lossWindow })) ∧
    (∀ (run : SurveyRun) (t0 : BitVec 32) (n : Nat) (es : List SurveyEntry),
      (s.path p).state ≠ .test → (s.path p).outstanding.find? (fun y => y.id == id) = none →
      (s.path p).survey = .inFlight run → inFlightStamp id run.entries = some t0 →
      n = min (s.clocks.stamp - t0).toNat 40950 → es = run.entries.map (echoEntry id n) →
      (es.all entryResolved = false → exec (.shoreFrameArrival p f) s = .next
        ((supervisionAt p f s).setPath p { s.path p with
          lastRtt := n, survey := .inFlight { run with entries := es } })) ∧
      (es.all entryResolved = true → exec (.shoreFrameArrival p f) s = .next
        (completeSurvey p es ((supervisionAt p f s).setPath p { s.path p with lastRtt := n })))) ∧
    ((s.path p).state = .test ∨
        (s.path p).outstanding.find? (fun y => y.id == id) = none ∧
        (∀ run : SurveyRun, (s.path p).survey = .inFlight run →
          inFlightStamp id run.entries = none) →
      exec (.shoreFrameArrival p f) s = .next
        ((supervisionAt p f s).setPath p { s.path p with
          strayEchoes := (s.path p).strayEchoes + 1 })) := by
  have harrives := probeEcho_arrives s hf
  rw [← hid] at harrives
  rw [harrives]
  refine ⟨fun x n hstate hx hn => ?steady, fun run t0 n es hstate hx hs ht hn hes => ?survey, fun hwhy => ?stray⟩
  case steady =>
    subst hn
    rw [echoArrives_of_service (s := supervisionAt p f s) hstate,
      echoTaken_of_outstanding (s := supervisionAt p f s) hx, State.modPath, resolveReceived_eq]
    rfl
  case survey =>
    have hn' : n = sampleOf (supervisionAt p f s) t0 := hn
    subst hn' hes
    rw [echoArrives_of_service (s := supervisionAt p f s) hstate,
      echoTaken_of_survey (s := supervisionAt p f s) hx hs ht]
    refine ⟨fun hopen => ?_, fun hall => ?_⟩
    · rw [updateSurvey_of_open hopen, State.modPath, State.modPath, State.setPath_path_self, State.setPath_setPath]
      rfl
    · rw [updateSurvey_of_resolved hall]
      rfl
  case stray =>
    refine congrArg Host.Outcome.next ?_
    by_cases htest : (s.path p).state = .test
    · exact if_pos htest
    · obtain ⟨hx, hs⟩ := hwhy.resolve_left htest
      exact (echoArrives_of_service (s := supervisionAt p f s) htest).trans
        (echoTaken_of_stray (s := supervisionAt p f s) hx hs)

/-- Settles O26: echoes, deadlines, the gap's end, the result and the completion, each by its cases. -/
theorem probesResolveAndSurveysComplete : Obligations.ProbesResolveAndSurveysComplete := by
  unfold Obligations.ProbesResolveAndSurveysComplete
  refine ⟨echo_resolves, fun p s => ⟨fun id x hx => ?lost, fun id run t0 es hx hs ht hes => ?surveyLost,
    fun hg hs hstate => ?deferred, fun hg hs => ?gapOnly⟩, fun c es => ?result, fun p es v s hv =>
    ⟨fun hstate hpass => ?fails, fun hstate hpass => ?passes, fun hstate => ?done⟩⟩
  case lost =>
    show Host.Outcome.next (deadlineExpiry p id s) = _
    rw [deadlineExpiry_of_outstanding hx, State.modPath, resolveLost_eq]
    rfl
  case surveyLost =>
    subst hes
    show (_ → Host.Outcome.next (deadlineExpiry p id s) = _) ∧ (_ → Host.Outcome.next (deadlineExpiry p id s) = _)
    rw [deadlineExpiry_of_survey hx hs ht]
    exact ⟨fun hopen => congrArg Host.Outcome.next (updateSurvey_of_open hopen),
      fun hall => congrArg Host.Outcome.next (updateSurvey_of_resolved hall)⟩
  case deferred =>
    rw [gapEnd_next hg, gapEnd_of_deferred hs hstate, startSurvey_setPath]
    rfl
  case gapOnly =>
    rw [gapEnd_next hg, gapEnd_of_none hs]
  case result =>
    refine ⟨rfl, fun h => ?_, fun h => ⟨samplesMin_mem h, samplesMax_mem h⟩,
      fun x hx => ⟨samplesMin_le hx, le_samplesMax hx⟩, decide_eq_true_iff⟩
    simp [surveyResult, h, samplesMin, samplesMax]
  case fails =>
    subst hv
    exact completeSurvey_of_fail hstate hpass
  case passes =>
    subst hv
    let w := s.setPath p (passToUp (surveyed es (s.path p)))
    have hself : w.path p = passToUp (surveyed es (s.path p)) := State.setPath_path_self _ _ _
    have hother : ∀ q, q ≠ p → w.path q = s.path q := fun q hq => State.setPath_path_ne _ _ hq
    have hdone : completeSurvey p es s = pathEntersUp p w := completeSurvey_of_pass hstate hpass
    have hpsv : (pathEntersUp p w).psv = w.psv := by simp
    refine ⟨_, hdone, ?_, fun q hq => ?_, pathEntersUp_raises p w, fun hquiet => ?_, fun ha hperm hnone => ?_⟩
    · rw [State.path, hpsv]
      exact hself
    · rw [State.path, hpsv]
      exact hother q hq
    · rw [pathEntersUp_of_quiet (s := w) hquiet]
      rfl
    · have he : eligible w p = true := eligible_iff.2 ⟨by rw [hself]; rfl, hperm⟩
      have hrest : ∀ q, q ≠ p → eligible w q = false := fun q hq => by
        unfold eligible isUp
        rw [hother q hq]
        exact hnone q
      let u := computeCandidate (raiseNotice .pathState w)
      have hactive : u.psl.active = none := ha
      have hport := swapTo_port_self p .restored u
      have hpsl : (swapTo p .restored u).psl = swapSelector p .restored u := swapTo_psl p .restored u
      have hcand : candidateNow (raiseNotice .pathState w) = some p := candidateNow_of_only he hrest
      rw [pathEntersUp_of_only (s := w) ha he hrest]
      refine ⟨swapTo_active p .restored, ?_, ?_, ?_, ?_, ?_, ?_, ?_, swapTo_allMarked p .restored u, ?_⟩
      · exact (congrArg Psl.candidate hpsl :).trans hcand
      · exact (congrArg Psl.lastFrom hpsl :).trans hactive
      · exact (congrArg Psl.lastCause hpsl :)
      · exact (congrArg Psl.activations hpsl :)
      · exact (congrArg Psl.holdDown hpsl :)
      · rw [hport, hactive]
        simp
      · exact (congrArg (fun n : Ntu => n.pathSwap.pending) (swapTo_ntu p .restored u)).trans (raiseFlags_pending _)
      · apply State.eq_of_blocks <;> simp [computeCandidate, w]
  case done =>
    subst hv
    rw [completeSurvey_of_up hstate]
    refine ⟨_, rfl, State.setPath_path_self _ _ _, fun q hq => State.setPath_path_ne _ _ hq, raiseFlags_pending _, rfl,
      fun x hx => noticeGet_set_ne s.ntu _ hx, rfl⟩

end Sys2Proof.Machine
end

section
/-! SUPPORT. The figures of a charge, the credit notice list, and what the ship transmitter takes. -/

namespace Sys2Proof.Machine

variable {s : State}

/-! ## The figures of a charge (R49 to R56) -/

@[simp] theorem zoneCharged_zoneChargedAdd (set : BitVec 33) (z : Zone) :
    zoneCharged (zoneChargedAdd set z) z = true := by
  have hbit : zoneBit z < 33 := by
    cases z with
    | default => decide
    | entry k => exact Nat.lt_trans k.isLt (by decide)
  simp [zoneCharged, zoneChargedAdd, hbit]

/-- CHARGED in units of 2^-20 CU together with CARRY rises by the fee and by the price of the chargeable bytes
(R52, R53). -/
theorem visitorCharged_total (v : Visitor) (r : OpenRecord) (n : Nat) (d : Direction) :
    (visitorCharged v r n d).charged * 2 ^ 20 + (visitorCharged v r n d).carry =
      v.charged * 2 ^ 20 + entryFee v r * 2 ^ 20 + (n - min n v.allowance) * r.priceEff + v.carry := by
  have hdiv := Nat.div_add_mod ((n - min n v.allowance) * r.priceEff + v.carry) (2 ^ 20)
  simp only [visitorCharged, chargedAfter, volumeCharge, volumeTotal, freeBytesOf, Config.carryUnit]
  omega

theorem entryFee_of_unset {v : Visitor} {r : OpenRecord} (h : r.zone = none) : entryFee v r = 0 := by
  simp [entryFee, h]

theorem entryFee_of_zone {v : Visitor} {r : OpenRecord} {z : Zone} (h : r.zone = some z) :
    entryFee v r = if zoneCharged v.zonesCharged z then 0 else r.fee := by
  simp [entryFee, h]

/-- The record after a charge, with the direction's counters written as amounts (R53). -/
theorem recordCharged_eq (v : Visitor) (r : OpenRecord) (n : Nat) (d : Direction) : recordCharged v r n d = { r with
    feeCharged := r.feeCharged + entryFee v r
    charge := r.charge + ((n - min n v.allowance) * r.priceEff + v.carry) / 2 ^ 20
    freeBytes := r.freeBytes + min n v.allowance
    bytesUp := r.bytesUp + if d = .up then n else 0
    pktsUp := r.pktsUp + if d = .up then 1 else 0
    bytesDown := r.bytesDown + if d = .down then n else 0
    pktsDown := r.pktsDown + if d = .down then 1 else 0 } := by
  cases d <;> rfl

theorem volumeFull_iff (r : OpenRecord) (n : Nat) (d : Direction) : volumeFull r n d = true ↔
    2 ^ 32 - 1 < (if d = .up then r.bytesUp else r.bytesDown) + n ∨ 2 ^ 32 - 1 < r.freeBytes + n := by
  have hbytes : bytesOf r d = if d = .up then r.bytesUp else r.bytesDown := by cases d <;> rfl
  rw [volumeFull, hbytes, Bool.or_eq_true, decide_eq_true_iff, decide_eq_true_iff]
  rfl

theorem creditWorsened_iff (a b : Credit) : creditWorsened a b = true ↔
    a = .clear ∧ b = .low ∨ a = .clear ∧ b = .exhausted ∨ a = .low ∧ b = .exhausted := by
  cases a <;> cases b <;> decide

/-- A new record has room for any packet whose length is a 32-bit number (R63, R68). -/
theorem volumeFull_openNow {n : Nat} (d : Direction) (s : State) (v : Visitor) (h : n ≤ 2 ^ 32 - 1) :
    volumeFull (openNow s v) n d = false := by
  have hempty : (if d = .up then (openNow s v).bytesUp else (openNow s v).bytesDown) = 0 ∧
      (openNow s v).freeBytes = 0 := by cases d <;> exact ⟨rfl, rfl⟩
  obtain ⟨hbytes, hfree⟩ := hempty
  refine Bool.eq_false_iff.2 fun hfull => ?_
  rw [volumeFull_iff, hbytes, hfree] at hfull
  omega

/-- With no room in the record the charge is that of the state after the VOLUME close (R49, R68). -/
theorem charge_of_volumeFull {i n : Nat} {d : Direction} {r : OpenRecord} {s : State}
    (hr : (s.visitor i).openRecord = some r) (hfull : volumeFull r n d = true) (hn : n ≤ 2 ^ 32 - 1) :
    charge i n d s = charge i n d (closeRecord i .volume s).1 := by
  have hclosed : volumeClose i n d s = (closeRecord i .volume s).1 := by simp [volumeClose, hr, hfull]
  have hagain : volumeClose i n d (closeRecord i .volume s).1 = (closeRecord i .volume s).1 := by
    obtain ⟨a, m, hv⟩ := closeRecord_visitor .volume hr
    simp [volumeClose, hv, volumeFull_openNow d s _ hn]
  unfold charge
  rw [hclosed, hagain]

/-! ## The credit notice list (R180) -/

theorem refreshCredit_of_held (h : s.ntu.creditList ≠ [] ∨ s.ntu.creditOverflow = true) :
    refreshCredit s = s.setNtu { s.ntu with credit := { s.ntu.credit with
      pending := true, raised := s.ntu.credit.raised + if s.ntu.credit.pending then 0 else 1 } } := by
  rw [refreshCredit, if_pos h]
  exact congrArg (fun f => s.setNtu { s.ntu with credit := f }) (raiseFlags_eq s.ntu.credit)

theorem offerCredit_of_held {i : Nat} (h : i ∈ s.ntu.creditList) : offerCredit i s = s := by
  simp [offerCredit, h]

theorem offerCredit_of_room {i : Nat} (h : i ∉ s.ntu.creditList) (hroom : s.ntu.creditList.length < 64) :
    offerCredit i s = s.setNtu { s.ntu with
      creditList := s.ntu.creditList ++ [i]
      credit := { s.ntu.credit with
        pending := true, raised := s.ntu.credit.raised + if s.ntu.credit.pending then 0 else 1 } } := by
  rw [offerCredit, if_neg h, if_pos (show s.ntu.creditList.length < Config.creditListSize from hroom),
    refreshCredit_of_held (Or.inl (by simp))]
  rfl

theorem offerCredit_of_full {i : Nat} (h : i ∉ s.ntu.creditList) (hfull : 64 ≤ s.ntu.creditList.length) :
    offerCredit i s = s.setNtu { s.ntu with
      creditOverflow := true
      creditDrops := s.ntu.creditDrops + 1
      credit := { s.ntu.credit with
        pending := true, raised := s.ntu.credit.raised + if s.ntu.credit.pending then 0 else 1 } } := by
  rw [offerCredit, if_neg h, if_neg (show ¬ s.ntu.creditList.length < Config.creditListSize from hfull.not_gt),
    refreshCredit_of_held (Or.inr rfl)]
  rfl

/-- Settles O20: the amounts are the charge's own definitions; a full record is closed once, for the new one has
room. -/
theorem chargeArithmetic : Obligations.ChargeArithmetic := by
  refine ⟨fun v r n d => ⟨rfl, visitorCharged_total v r n d, Nat.mod_lt _ (by decide), fun z hz hc => ?_,
    fun z hz hc => ?_, fun z hz => ?_, fun hz => ⟨entryFee_of_unset hz, ?_⟩, rfl,
    congrArg some (recordCharged_eq v r n d)⟩, creditWorsened_iff, fun v r n d => ⟨volumeFull_iff r n d, rfl⟩,
    fun i s => ⟨offerCredit_of_held, offerCredit_of_room, offerCredit_of_full⟩,
    fun i n d r s hr => ⟨fun hroom hle => ?_, fun hroom hlt => ?_, charge_of_volumeFull hr⟩⟩
  · rw [entryFee_of_zone hz, if_pos hc]
  · rw [entryFee_of_zone hz, if_neg (by simp [hc])]
  · simp [visitorCharged, zonesAfter, hz]
  · simp [visitorCharged, zonesAfter, hz]
  · rw [charge_of_room hr hroom, if_neg (show ¬ Config.chargedMax < _ from hle.not_gt)]
    rfl
  · rw [charge_of_room hr hroom, if_pos (show Config.chargedMax < _ from hlt)]

/-! ## What the ship transmitter takes (R15, R177) -/

theorem exec_shipTransmitTake (hlink : s.shi.link = true) (hfree : s.shi.transmitter = none) :
    exec .shipTransmitTake s = .next (shipTake s) := by
  show execShipTransmitTake s = _
  simp [execShipTransmitTake, hlink, hfree]

theorem lowestOwed_eq_some {c : Cell} (howed : (s.cell c).grantOwed = true)
    (hlow : ∀ d : Cell, d < c → (s.cell d).grantOwed = false) : lowestOwed s = some c :=
  find?_finRange_eq_some.2 ⟨howed, hlow⟩

theorem lowestOwed_eq_none (h : ∀ c : Cell, (s.cell c).grantOwed = false) : lowestOwed s = none := by
  simp [lowestOwed, h]

theorem shipTake_of_user {e : EgressEntry} {left : List EgressEntry} (he : s.shi.egress = e :: left)
    (h : s.shi.lastOwn = true ∨ (∀ c : Cell, (s.cell c).grantOwed = false) ∧ s.shi.reply = none ∧
      ∀ x : Source, noticeReady s.ntu x = false) : shipTake s = takeEgress e left s := by
  have huser : takeUser s = takeEgress e left s := by simp [takeUser, he]
  rcases h with hown | ⟨hgrant, hreply, hnotice⟩
  · simp [shipTake, hown, he, huser]
  · have hown : takeOwn s = takeEgress e left s := by
      simp [takeOwn, lowestOwed_eq_none hgrant, hreply, arbiter_eq_none.2 hnotice, huser]
    simp [shipTake, hown, huser]

theorem shipTake_of_own (h : s.shi.lastOwn = false ∨ s.shi.egress = []) : shipTake s = takeOwn s := by
  rcases h with h | h <;> simp [shipTake, h]

theorem takeOwn_of_grant {c : Cell} (h : lowestOwed s = some c) : takeOwn s = takeGrant c s := by
  simp [takeOwn, h]

theorem takeOwn_of_reply {r : Reply} (hgrant : ∀ c : Cell, (s.cell c).grantOwed = false)
    (hr : s.shi.reply = some r) : takeOwn s = takeShipReply r s := by
  simp [takeOwn, lowestOwed_eq_none hgrant, hr]

theorem takeOwn_of_notice {x : Source} (hgrant : ∀ c : Cell, (s.cell c).grantOwed = false)
    (hr : s.shi.reply = none) (hx : arbiter s.ntu = some x) : takeOwn s = takeNotice x s := by
  simp [takeOwn, lowestOwed_eq_none hgrant, hr, hx]

theorem takeOwn_of_nothing (hgrant : ∀ c : Cell, (s.cell c).grantOwed = false) (hr : s.shi.reply = none)
    (hx : ∀ x : Source, noticeReady s.ntu x = false) (he : s.shi.egress = []) : takeOwn s = s := by
  simp [takeOwn, lowestOwed_eq_none hgrant, hr, arbiter_eq_none.2 hx, takeUser, he]

/-- Settles O21: the choice is made once, and each frame taken is its one function's result. -/
theorem shipTakesItsNextFrame : Obligations.ShipTakesItsNextFrame := by
  refine fun s => ⟨fun h => ?_, fun hlink hfree => ?_⟩
  · show execShipTransmitTake s = _
    rcases h with h | h
    · simp [execShipTransmitTake, h]
    · simp [execShipTransmitTake, h]
  · rw [exec_shipTransmitTake hlink hfree]
    refine ⟨fun e left he h => ?_, fun h => ?_⟩
    · rw [shipTake_of_user he h]
      rfl
    · rw [shipTake_of_own h]
      refine ⟨fun c howed hlow => ?_, fun r hgrant hr => ?_, fun x hgrant hr hready hfirst => ?_,
        fun hgrant hr hready he => ?_⟩
      · rw [takeOwn_of_grant (lowestOwed_eq_some howed hlow)]
        rfl
      · rw [takeOwn_of_reply hgrant hr]
        rfl
      · rw [takeOwn_of_notice hgrant hr (arbiter_eq_some.2 ⟨hready, hfirst⟩)]
        refine ⟨_, rfl, rfl, noticeGet_set_self _ _ _, fun y hy => noticeGet_set_ne _ _ hy, rfl, ?_, ?_, ?_, ?_, rfl⟩
        all_goals cases x <;> rfl
      · rw [takeOwn_of_nothing hgrant hr hready he]

end Sys2Proof.Machine
end

section
/-! SUPPORT. Frames as the ports sort them, a PROBE and a PATH_ACCEPT, and the uplink journey (R1, R2, R10). -/

namespace Sys2Proof.Machine

/-! ## Sorting at a shore port (R2) -/

section Shore

variable {p : Path} {f : EthFrame} {s : State}

theorem shoreArrival_of_bad_check (h : f.checkOk = false) : shoreArrival p f s =
    s.countShore p (fun c => { c with dropHeader := c.dropHeader + 1 }) := if_pos h

theorem shoreArrival_of_foreign (h : f.checkOk = true) (ht : f.etherType ≠ 0x88B6) : shoreArrival p f s =
    s.countShore p (fun c => { c with dropForeign := c.dropForeign + 1 }) := by
  rw [shoreArrival, if_neg (by simp [h]), if_pos ht]

theorem shoreArrival_of_empty (h : f.checkOk = true) (ht : f.etherType = 0x88B6) (hb : f.body = []) :
    shoreArrival p f s = s.countShore p (fun c => { c with dropHeader := c.dropHeader + 1 }) := by
  rw [shoreArrival, if_neg (by simp [h]), if_neg (by simp [ht]), hb]

theorem shoreKind_eq_none {k : Byte} (h1 : k ≠ 0x10) (h2 : k ≠ 0x11) (h3 : k ≠ 0x12) (h4 : k ≠ 0x15)
    (h5 : k ≠ 0x20) : shoreKind k = none := by
  simp only [shoreKind, h1, h2, h3, h4, h5, if_false]

theorem shoreArrival_of_unknown {k : Byte} (h : OwnFrame k f) (hk : shoreKind k = none) : shoreArrival p f s =
    s.countShore p (fun c => { c with dropKind := c.dropKind + 1 }) := by
  rw [shoreArrival_of_own p s h, shoreSort, hk]

theorem shoreArrival_of_bad_header {kind : Byte} {k : ShoreKind} (h : OwnFrame kind f)
    (hk : shoreKind kind = some k) (hheader : shoreHeaderOk p f.body k = false) : shoreArrival p f s =
    s.countShore p (fun c => { c with dropHeader := c.dropHeader + 1 }) := by
  rw [shoreArrival_of_own p s h, shoreSort, hk]
  exact if_pos hheader

/-- A tunnel frame that is short, or names another path, fails the header test of its kind (R183). -/
theorem shoreArrival_of_bad_tunnel {k : Byte} (h : OwnFrame k f) (hk : k = 0x10 ∨ k = 0x11 ∨ k = 0x12 ∨ k = 0x15)
    (hbad : f.body.length < 16 ∨ byteAt f.body 1 ≠ p.num) : shoreArrival p f s =
    s.countShore p (fun c => { c with dropHeader := c.dropHeader + 1 }) := by
  have htest : (decide (16 ≤ f.body.length) && decide (byteAt f.body 1 = p.num)) = false := by
    rcases hbad with hb | hb <;> simp [hb]
  rcases hk with rfl | rfl | rfl | rfl
  · exact shoreArrival_of_bad_header (k := .data) h rfl htest
  · exact shoreArrival_of_bad_header (k := .probe) h rfl htest
  · exact shoreArrival_of_bad_header (k := .probeEcho) h rfl htest
  · exact shoreArrival_of_bad_header (k := .pathAccept) h rfl htest

/-- A REQUEST shorter than its items say fails the header test (R183). -/
theorem requestHeaderOk_eq_false {b : List Byte} (h : b.length < 24 ∨ b.length < 24 + 24 * field b 6 2) :
    requestHeaderOk b = false := by
  rcases h with h | h <;> simp [requestHeaderOk, h]

theorem requestHeaderOk_eq_true {b : List Byte} (h : 24 + 24 * field b 6 2 ≤ b.length) :
    requestHeaderOk b = true := by
  simp [requestHeaderOk, h, Nat.le_trans (Nat.le_add_right 24 _) h]

/-- A REQUEST of full length is handed on (R2). -/
theorem shoreArrival_of_request (h : OwnFrame 0x20 f) (hlen : 24 + 24 * field f.body 6 2 ≤ f.body.length) :
    shoreArrival p f s = shoreRequestArrives p f.src f.body s := by
  rw [shoreArrival_of_own p s h, shoreSort, show shoreKind 0x20 = some .request from rfl]
  exact if_neg (by simp [shoreHeaderOk, requestHeaderOk_eq_true hlen])

theorem shoreRequestArrives_of_down (h : (s.path p).state ≠ .up) : shoreRequestArrives p f.src f.body s =
    s.countShore p (fun c => { c with dropNotAccept := c.dropNotAccept + 1 }) := if_pos h

theorem shoreRequestArrives_of_room (h : (s.path p).state = .up) (hroom : (s.port p).requests.length < 4) :
    shoreRequestArrives p f.src f.body s = s.setPort p { s.port p with
      requests := (s.port p).requests ++ [parseRequest f.body]
      partner := some f.src
      counters := { (s.port p).counters with rxRequest := (s.port p).counters.rxRequest + 1 } } := by
  simp [shoreRequestArrives, h, offerShore, learnShore, State.modPort, State.countShore, hroom,
    Config.shoreRequestQueueSize]

theorem shoreRequestArrives_of_full (h : (s.path p).state = .up) (hfull : 4 ≤ (s.port p).requests.length) :
    shoreRequestArrives p f.src f.body s = s.setPort p { s.port p with
      partner := some f.src
      counters := { (s.port p).counters with
        rxRequest := (s.port p).counters.rxRequest + 1
        dropReqFull := (s.port p).counters.dropReqFull + 1 } } := by
  simp [shoreRequestArrives, h, offerShore, learnShore, State.modPort, State.countShore, hfull.not_gt,
    Config.shoreRequestQueueSize]

/-! ## A PROBE and a PATH_ACCEPT (R115, R119, R124) -/

theorem shoreArrival_of_probe (h : TunnelFrame 0x11 p f) : shoreArrival p f s =
    probeArrives p (BitVec.ofNat 8 (byteAt f.body 8)) (BitVec.ofNat 32 (field f.body 10 4))
      (supervisionAt p f s) := by
  obtain ⟨hown, -, -⟩ := id h
  rw [shoreArrival_of_own p s hown, shoreSort, show shoreKind 0x11 = some .probe from rfl, ← supervisionCounted_eq]
  exact if_neg (by simp [shoreHeaderOk_of_tunnel h])

theorem shoreArrival_of_accept (h : TunnelFrame 0x15 p f) : shoreArrival p f s =
    acceptArrives p (supervisionAt p f s) := by
  obtain ⟨hown, -, -⟩ := id h
  rw [shoreArrival_of_own p s hown, shoreSort, show shoreKind 0x15 = some .pathAccept from rfl,
    ← supervisionCounted_eq]
  exact if_neg (by simp [shoreHeaderOk_of_tunnel h])

variable {id : BitVec 8} {value : BitVec 32}

theorem probeArrives_of_service (h : (s.path p).state = .opening ∨ (s.path p).state = .surveying ∨
    (s.path p).state = .up) : probeArrives p id value s = answerProbe p id value s := by
  rcases h with h | h | h <;> simp only [probeArrives, h]

theorem probeArrives_of_idle (h : (s.path p).state = .disabled ∨ (s.path p).state = .settling ∨
    (s.path p).state = .down) : probeArrives p id value s = countIgnored p s := by
  rcases h with h | h | h <;> simp only [probeArrives, h]

theorem probeArrives_of_return {x : Probe} (h : (s.path p).state = .test)
    (hx : (s.path p).outstanding.find? (fun y => y.id == id) = some x) : probeArrives p id value s =
      s.modPath p (testReturn id (sampleOf s x.stamp)) := by
  rw [probeArrives]
  simp only [h, outstandingFind, hx]

theorem probeArrives_of_stranger (h : (s.path p).state = .test)
    (hx : (s.path p).outstanding.find? (fun y => y.id == id) = none) : probeArrives p id value s =
      countIgnored p s := by
  rw [probeArrives]
  simp only [h, outstandingFind, hx]

theorem answerProbe_of_room (h : ((s.port p).due.filter isEcho).length < 16) : answerProbe p id value s =
    (s.setPath p { s.path p with answered := (s.path p).answered + 1 }).setPort p
      { s.port p with due := (s.port p).due ++ [.echo id value] } := if_pos h

theorem answerProbe_of_full (h : 16 ≤ ((s.port p).due.filter isEcho).length) :
    answerProbe p id value s = countIgnored p s := if_neg h.not_gt

/-- What follows a supervision frame's counting on its own port and path, in one write to each. -/
theorem supervisionAt_written (v : Psv) (due : List Due) :
    ((supervisionAt p f s).setPath p v).setPort p { (supervisionAt p f s).port p with due := due } =
      (s.setPath p v).setPort p { s.port p with
        partner := some f.src
        due := due
        counters := { (s.port p).counters with rxSupervision := (s.port p).counters.rxSupervision + 1 } } := by
  have hport : (supervisionAt p f s).port p = { s.port p with
      partner := some f.src
      counters := { (s.port p).counters with rxSupervision := (s.port p).counters.rxSupervision + 1 } } :=
    State.setPort_port_self _ _ _
  rw [hport]
  exact State.setPort_setPort (s.setPath p v) p _ _

theorem acceptArrives_of_other (h : (s.path p).state ≠ .opening) : acceptArrives p s = countIgnored p s := if_neg h

theorem acceptArrives_of_quiet (h : (s.path p).state = .opening) (hgap : (s.path p).gap = none) :
    acceptArrives p s = (s.setPath p { s.path p with
      state := .surveying, openTimer := none, survey := surveyStarted }).setPort p
      { s.port p with due := (s.port p).due ++ [.surveyProbe 0] } := by
  have hquiet : timerRunning ({ s.path p with state := .surveying, openTimer := none } : Psv).gap = false := by
    simp [hgap, timerRunning]
  rw [acceptArrives, if_pos h, startOrDefer, State.modPath, State.setPath_path_self, if_neg (by simp [hquiet]),
    startSurvey_setPath]

theorem acceptArrives_of_gap (h : (s.path p).state = .opening) (hgap : (s.path p).gap ≠ none) :
    acceptArrives p s = s.setPath p { s.path p with
      state := .surveying, openTimer := none, survey := .deferred } := by
  have hruns : timerRunning ({ s.path p with state := .surveying, openTimer := none } : Psv).gap = true :=
    timerRunning_of_ne hgap
  simp only [acceptArrives, h, startOrDefer, State.modPath, State.setPath_path_self, State.setPath_setPath, hruns,
    if_true]

end Shore

/-- Settles O16: each frame is sorted once, and then handed to its supervisor's own function. -/
theorem shoreFramesAreSortedAndAnswered : Obligations.ShoreFramesAreSortedAndAnswered := by
  intro p f s
  refine ⟨fun h => congrArg _ (shoreArrival_of_bad_check h), fun h ht => congrArg _ (shoreArrival_of_foreign h ht),
    fun h ht hb => congrArg _ (shoreArrival_of_empty h ht hb),
    fun k h h1 h2 h3 h4 h5 => congrArg _ (shoreArrival_of_unknown h (shoreKind_eq_none h1 h2 h3 h4 h5)),
    fun k h hk hbad => congrArg _ (shoreArrival_of_bad_tunnel h hk hbad),
    fun h hbad => congrArg _ (shoreArrival_of_bad_header h rfl (requestHeaderOk_eq_false hbad)),
    fun h hlen => ?request, fun h => ?probe, fun h => ?accept⟩
  case request =>
    show (_ → Host.Outcome.next (shoreArrival p f s) = _) ∧ (_ → _ → Host.Outcome.next (shoreArrival p f s) = _) ∧
      (_ → _ → Host.Outcome.next (shoreArrival p f s) = _)
    rw [shoreArrival_of_request h hlen]
    exact ⟨fun hs => congrArg _ (shoreRequestArrives_of_down hs),
      fun hs hroom => congrArg _ (shoreRequestArrives_of_room hs hroom),
      fun hs hfull => congrArg _ (shoreRequestArrives_of_full hs hfull)⟩
  case probe =>
    have hexec : exec (.shoreFrameArrival p f) s = .next (probeArrives p (BitVec.ofNat 8 (byteAt f.body 8))
      (BitVec.ofNat 32 (field f.body 10 4)) (supervisionAt p f s)) := congrArg _ (shoreArrival_of_probe h)
    have hdue : ((supervisionAt p f s).port p).due = (s.port p).due := by simp [supervisionAt]
    rw [hexec]
    refine ⟨fun hs hroom => ?_, fun hs hfull => ?_, fun hs => congrArg _ (probeArrives_of_idle hs),
      fun x n hs hx hn => ?_, fun hs hx => congrArg _ (probeArrives_of_stranger hs hx)⟩
    · rw [probeArrives_of_service (s := supervisionAt p f s) hs,
        answerProbe_of_room (by rw [hdue]; exact hroom), hdue]
      exact congrArg _ (supervisionAt_written _ _)
    · rw [probeArrives_of_service (s := supervisionAt p f s) hs,
        answerProbe_of_full (by rw [hdue]; exact hfull)]
      rfl
    · rw [probeArrives_of_return (s := supervisionAt p f s) hs hx, hn]
      rfl
  case accept =>
    have hexec : exec (.shoreFrameArrival p f) s = .next (acceptArrives p (supervisionAt p f s)) :=
      congrArg _ (shoreArrival_of_accept h)
    rw [hexec]
    refine ⟨fun hs hgap => ?_, fun hs hgap => congrArg _ (acceptArrives_of_gap hs hgap),
      fun hs => congrArg _ (acceptArrives_of_other hs)⟩
    rw [acceptArrives_of_quiet (s := supervisionAt p f s) hs hgap]
    exact congrArg _ ((supervisionAt_written _ _).trans (by simp [supervisionAt]; rfl))

end Sys2Proof.Machine
end

section
/-! SUPPORT. The ship port's sorting of frames, the attachment of a visitor, and the uplink journey (R1, R10, R24). -/

namespace Sys2Proof.Machine

/-! ## Sorting at the ship port (R1) -/

section Ship

variable {f : EthFrame} {s : State}

theorem shipArrival_of_own {kind : Byte} (s : State) (h : OwnFrame kind f) :
    shipArrival f s = shipSort f kind s := by
  obtain ⟨hcheck, htype, hkind⟩ := h
  rw [shipArrival, if_neg (by simp [hcheck]), if_neg (by simp [htype])]
  cases hb : f.body with
  | nil => simp [hb] at hkind
  | cons b left =>
    rw [hb] at hkind
    cases hkind
    rfl

theorem shipArrival_of_foreign (h : f.checkOk = true) (ht : f.etherType ≠ 0x88B6) : shipArrival f s =
    s.countShip (fun c => { c with dropForeign := c.dropForeign + 1 }) := by
  rw [shipArrival, if_neg (by simp [h]), if_pos ht]

theorem shipArrival_of_empty (h : f.checkOk = true) (ht : f.etherType = 0x88B6) (hb : f.body = []) :
    shipArrival f s = s.countShip (fun c => { c with dropHeader := c.dropHeader + 1 }) := by
  rw [shipArrival, if_neg (by simp [h]), if_neg (by simp [ht]), hb]

theorem shipArrival_of_unknown {k : Byte} (h : OwnFrame k f) (h1 : k ≠ 0x01) (h2 : k ≠ 0x02) (h3 : k ≠ 0x20) :
    shipArrival f s = s.countShip (fun c => { c with dropKind := c.dropKind + 1 }) := by
  have hk : shipKind k = none := by simp only [shipKind, h1, h2, h3, if_false]
  rw [shipArrival_of_own s h, shipSort, hk]

theorem shipArrival_of_bad_header {kind : Byte} {k : ShipKind} (h : OwnFrame kind f)
    (hk : shipKind kind = some k) (hheader : shipHeaderOk f.body k = false) : shipArrival f s =
    s.countShip (fun c => { c with dropHeader := c.dropHeader + 1 }) := by
  rw [shipArrival_of_own s h, shipSort, hk]
  exact if_pos hheader

/-- The three kinds of the ship port each fail their own header test (R183). -/
theorem shipArrival_of_short (h : OwnFrame 0x01 f ∧ (f.body.length < 10 ∨ 16 ≤ byteAt f.body 1) ∨
      OwnFrame 0x02 f ∧ (f.body.length < 10 ∨ 16 ≤ byteAt f.body 1 ∨ 64 ≤ byteAt f.body 2) ∨
      OwnFrame 0x20 f ∧ (f.body.length < 24 ∨ f.body.length < 24 + 24 * field f.body 6 2)) :
    shipArrival f s = s.countShip (fun c => { c with dropHeader := c.dropHeader + 1 }) := by
  rcases h with ⟨hown, hbad⟩ | ⟨hown, hbad⟩ | ⟨hown, hbad⟩
  · refine shipArrival_of_bad_header (k := .user) hown rfl ?_
    rcases hbad with hb | hb <;> simp [shipHeaderOk, hb]
  · refine shipArrival_of_bad_header (k := .heartbeat) hown rfl ?_
    rcases hbad with hb | hb | hb <;> simp [shipHeaderOk, hb]
  · exact shipArrival_of_bad_header (k := .request) hown rfl (requestHeaderOk_eq_false hbad)

theorem shipArrival_of_user (h : OwnFrame 0x01 f) (hlen : 10 ≤ f.body.length) (hcell : byteAt f.body 1 < 16) :
    shipArrival f s = userArrives f.body s := by
  rw [shipArrival_of_own s h, shipSort, show shipKind 0x01 = some .user from rfl]
  exact if_neg (by simp [shipHeaderOk, hlen, hcell])

theorem shipArrival_of_heartbeat (h : OwnFrame 0x02 f) (hlen : 10 ≤ f.body.length) (hcell : byteAt f.body 1 < 16)
    (hlevel : byteAt f.body 2 < 64) : shipArrival f s = heartbeatArrives f.src f.body s := by
  rw [shipArrival_of_own s h, shipSort, show shipKind 0x02 = some .heartbeat from rfl]
  exact if_neg (by simp [shipHeaderOk, hlen, hcell, hlevel])

theorem shipArrival_of_request (h : OwnFrame 0x20 f) (hlen : 24 + 24 * field f.body 6 2 ≤ f.body.length) :
    shipArrival f s = shipRequestArrives f.src f.body s := by
  rw [shipArrival_of_own s h, shipSort, show shipKind 0x20 = some .request from rfl]
  exact if_neg (by simp [shipHeaderOk, requestHeaderOk_eq_true hlen])

theorem shipArrival_of_userPasses (h : UserPasses f s) : shipArrival f s =
    uplinkArrival (userPacket f.body) (s.countShip (fun c => { c with rxUser := c.rxUser + 1 })) := by
  obtain ⟨hown, hlen, hcell, hlength, henable, hserving⟩ := h
  rw [shipArrival_of_user hown hlen hcell, userArrives]
  simp [hlength, henable, hserving]

theorem shipRequestArrives_of_room (h : s.shi.requests.length < 16) : shipRequestArrives f.src f.body s =
    s.setShi { s.shi with
      requests := s.shi.requests ++ [parseRequest f.body]
      controller := some f.src
      counters := { s.shi.counters with rxRequest := s.shi.counters.rxRequest + 1 } } := if_pos h

theorem shipRequestArrives_of_full (h : 16 ≤ s.shi.requests.length) : shipRequestArrives f.src f.body s =
    s.setShi { s.shi with
      controller := some f.src
      counters := { s.shi.counters with
        rxRequest := s.shi.counters.rxRequest + 1
        dropReqFull := s.shi.counters.dropReqFull + 1 } } := if_neg h.not_gt

end Ship

/-! ## The uplink journey (R10, R24, R25) -/

section Uplink

variable {i : Nat} {s : State}

theorem attachLearning_of_other (h : (s.visitor i).lifecycle ≠ .provisioned) : attachLearning i s = s := if_neg h

theorem attachLearning_of_provisioned (h : (s.visitor i).lifecycle = .provisioned) :
    attachLearning i s = attach i s := if_pos h

/-- The entry of a visitor that attaches (R24). -/
def attached (s : State) (i : Nat) : Visitor :=
  { s.visitor i with
    lifecycle := .attached, roaming := roamingNow s (s.visitor i).partner, reviewMark := false,
    openRecord := some (openNow s { s.visitor i with roaming := roamingNow s (s.visitor i).partner }) }

theorem attach_visitor_self (i : Nat) (s : State) : (attach i s).visitor i = attached s i := by
  rw [attach, refreshEngine_visitor]
  exact setVisitor_visitor_of_open (v := attached s i) rfl

theorem attach_visitor_ne {j : Nat} (s : State) (h : j ≠ i) : (attach i s).visitor j = s.visitor j := by
  rw [attach, refreshEngine_visitor]
  exact setVisitor_visitor_ne s _ h

theorem attach_vtb (i : Nat) (s : State) : (attach i s).vtb =
    { (s.setVisitor i (attached s i)).vtb with attaches := s.vtb.attaches + 1 } := by
  rw [attach, refreshEngine_vtb]
  rfl

theorem attach_rse (i : Nat) (s : State) :
    { (attach i s).rse with running := false, runs := 0 } = { s.rse with running := false, runs := 0 } := by
  obtain ⟨-, -, -, hrse⟩ := refreshEngine_figures
    ((s.setVisitor i (attached s i)).setVtb (attach i s).vtb)
  rw [attach_vtb] at hrse
  exact hrse

theorem attach_frame (i : Nat) (s : State) :
    attach i s = { s with vtb := (attach i s).vtb, rse := (attach i s).rse } := by
  rw [attach, refreshEngine_frame]
  rfl

/-- The admission check looks at the entry, the plans, the paths and the active path alone (R33). -/
theorem admission_congr {u : State} (uplink : Bool) (v : Visitor) (hrtu : u.rtu = s.rtu) (hpsv : u.psv = s.psv)
    (hpsl : u.psl = s.psl) : admission uplink u v = admission uplink s v := by
  have hpath : ∀ p : Path, u.path p = s.path p := fun p => congrArg (fun x => x.get p) hpsv
  have hplan : planForbids u v = planForbids s v := by
    cases hp : s.psl.active with
    | none => rw [planForbids_of_no_active hp, planForbids_of_no_active (hpsl ▸ hp)]
    | some p => rw [planForbids_of_active hp, planForbids_of_active (hpsl ▸ hp), hrtu, hpath]
  rw [admission, admission, hplan, hpsl]

theorem uplinkQueue_frame (e : UplinkEntry) (s : State) : uplinkQueue e s = { s with
    shi := (uplinkQueue e s).shi, shore := (uplinkQueue e s).shore,
    freeBuffers := (uplinkQueue e s).freeBuffers } := by
  unfold uplinkQueue
  repeat' split
  all_goals rfl

/-- Of the ship port the uplink queue moves two drop counters alone. -/
theorem uplinkQueue_shi (e : UplinkEntry) (s : State) :
    { (uplinkQueue e s).shi with counters := s.shi.counters } = s.shi ∧
      (uplinkQueue e s).shi.counters.rxUser = s.shi.counters.rxUser := by
  unfold uplinkQueue
  repeat' split
  all_goals exact ⟨rfl, rfl⟩

variable {e : UplinkEntry} {p : Path}

theorem uplinkQueue_of_no_buffer (h : s.freeBuffers = 0) :
    uplinkQueue e s = s.countShip (fun c => { c with dropNoBuffer := c.dropNoBuffer + 1 }) := if_pos h

theorem uplinkQueue_of_full (h : 0 < s.freeBuffers) (hp : s.psl.active = some p)
    (hfull : 1024 ≤ (s.port p).txQueue.length) :
    uplinkQueue e s = s.countShip (fun c => { c with dropPathFull := c.dropPathFull + 1 }) := by
  simp only [uplinkQueue, h.ne', if_false, hp]
  exact if_neg hfull.not_gt

theorem uplinkQueue_of_room (h : 0 < s.freeBuffers) (hp : s.psl.active = some p)
    (hroom : (s.port p).txQueue.length < 1024) : uplinkQueue e s =
      (s.setPort p { s.port p with txQueue := (s.port p).txQueue ++ [e] }).setFreeBuffers (s.freeBuffers - 1) := by
  simp only [uplinkQueue, h.ne', if_false, hp]
  exact if_pos hroom

theorem uplinkAdmit_of_refused {why : Refused} (h : admission true s (s.visitor i) = some why) :
    uplinkAdmit i e s = blockPacket i why s := by
  simp only [uplinkAdmit, h]

theorem uplinkAdmit_of_admitted (h : admission true s (s.visitor i) = none) : uplinkAdmit i e s =
    uplinkQueue e (s.setVisitor i { s.visitor i with servingCell := some e.cell }) := by
  simp only [uplinkAdmit, h]

theorem uplinkArrival_of_unknown (h : lookupTag s e.tag = none) : uplinkArrival e s =
    s.countShip (fun c => { c with dropUnknownTag := c.dropUnknownTag + 1 }) := by
  simp only [uplinkArrival, h]

theorem uplinkArrival_of_known (h : lookupTag s e.tag = some i) :
    uplinkArrival e s = uplinkAdmit i e (attachLearning i s) := by
  simp only [uplinkArrival, h]

/-- A refusal raises BLOCKED and the counter of its reason alone (R35). -/
theorem blockPacket_counts (i : Nat) (why : Refused) (s : State) :
    (blockPacket i why s).vtb.attaches = s.vtb.attaches ∧
    (blockPacket i why s).vtb.blkNotAttached = s.vtb.blkNotAttached + (if why = .notAttached then 1 else 0) ∧
    (blockPacket i why s).vtb.blkBarred = s.vtb.blkBarred + (if why = .barred then 1 else 0) ∧
    (blockPacket i why s).vtb.blkExhausted = s.vtb.blkExhausted + (if why = .exhausted then 1 else 0) ∧
    (blockPacket i why s).vtb.blkPlanKind = s.vtb.blkPlanKind + (if why = .planKind then 1 else 0) ∧
    (blockPacket i why s).vtb.blkNoBackhaul = s.vtb.blkNoBackhaul + (if why = .noBackhaul then 1 else 0) ∧
    (blockPacket i why s).vtb.blkNoCoverage = s.vtb.blkNoCoverage + (if why = .noCoverage then 1 else 0) := by
  cases why <;> simp [blockPacket, countRefusal, State.setVisitor]

/-- The refusal counters of a refusal go by those that stood. -/
theorem blockPacket_vtb_counts {u : State} (i : Nat) (why : Refused)
    (h : { u.vtb with entries := [], attaches := 0 } = { s.vtb with entries := [], attaches := 0 }) :
    { (blockPacket i why u).vtb with entries := [], attaches := 0 } =
      { (blockPacket i why s).vtb with entries := [], attaches := 0 } := by
  have hcount : ∀ w : State, { (blockPacket i why w).vtb with entries := [], attaches := 0 } =
      countRefusal { w.vtb with entries := [], attaches := 0 } why := fun w => by cases why <;> rfl
  rw [hcount, hcount, h]

end Uplink

/-! ## A USER frame, from its arrival to the queue -/

section Journey

variable {i : Nat} {e : UplinkEntry} {s : State}

/-- A packet on its uplink journey moves the ship port's counters, its visitor, the pool and the active port. -/
theorem uplinkAdmit_frame (i : Nat) (e : UplinkEntry) (s : State) : uplinkAdmit i e s = { s with
    shi := (uplinkAdmit i e s).shi, shore := (uplinkAdmit i e s).shore,
    freeBuffers := (uplinkAdmit i e s).freeBuffers, vtb := (uplinkAdmit i e s).vtb } := by
  cases h : admission true s (s.visitor i) with
  | some why => rw [uplinkAdmit_of_refused h]; rfl
  | none => rw [uplinkAdmit_of_admitted h, uplinkQueue_frame]; rfl

theorem uplinkAdmit_shi (i : Nat) (e : UplinkEntry) (s : State) :
    { (uplinkAdmit i e s).shi with counters := s.shi.counters } = s.shi ∧
      (uplinkAdmit i e s).shi.counters.rxUser = s.shi.counters.rxUser := by
  cases h : admission true s (s.visitor i) with
  | some why => rw [uplinkAdmit_of_refused h]; exact ⟨rfl, rfl⟩
  | none =>
    rw [uplinkAdmit_of_admitted h]
    exact uplinkQueue_shi e (s.setVisitor i { s.visitor i with servingCell := some e.cell })

theorem uplinkQueue_vtb (e : UplinkEntry) (s : State) : (uplinkQueue e s).vtb = s.vtb := by rw [uplinkQueue_frame]

theorem uplinkAdmit_attaches (i : Nat) (e : UplinkEntry) (s : State) :
    (uplinkAdmit i e s).vtb.attaches = s.vtb.attaches := by
  cases h : admission true s (s.visitor i) with
  | some why =>
    obtain ⟨hattaches, -⟩ := blockPacket_counts i why s
    rw [uplinkAdmit_of_refused h, hattaches]
  | none => rw [uplinkAdmit_of_admitted h, uplinkQueue_vtb]; rfl

theorem uplinkAdmit_visitor_ne {j : Nat} (e : UplinkEntry) (s : State) (h : j ≠ i) :
    (uplinkAdmit i e s).visitor j = s.visitor j := by
  cases ha : admission true s (s.visitor i) with
  | some why => rw [uplinkAdmit_of_refused ha, blockPacket_visitor_ne why s h]
  | none =>
    rw [uplinkAdmit_of_admitted ha, State.visitor, uplinkQueue_vtb]
    exact setVisitor_visitor_ne s _ h

end Journey

/-- A USER frame that passes, counted. -/
def userCounted (s : State) : State := s.countShip (fun c => { c with rxUser := c.rxUser + 1 })

section UserFrame

variable {f : EthFrame} {i : Nat} {s : State}

theorem userFrame_known (h : UserPasses f s) (htag : lookupTag s (userPacket f.body).tag = some i) :
    exec (.shipFrameArrival f) s =
      .next (uplinkAdmit i (userPacket f.body) (attachLearning i (userCounted s))) := by
  have hknown : lookupTag (userCounted s) (userPacket f.body).tag = some i := htag
  exact congrArg Host.Outcome.next ((shipArrival_of_userPasses h).trans (uplinkArrival_of_known hknown))

theorem userFrame_refused {why : Refused} (h : UserPasses f s)
    (htag : lookupTag s (userPacket f.body).tag = some i) (hl : (s.visitor i).lifecycle ≠ .provisioned)
    (ha : admission true s (s.visitor i) = some why) : exec (.shipFrameArrival f) s =
      .next (blockPacket i why (userCounted s)) := by
  have hrefused : admission true (userCounted s) ((userCounted s).visitor i) = some why := ha
  rw [userFrame_known h htag, attachLearning_of_other (s := userCounted s) hl, uplinkAdmit_of_refused hrefused]

theorem userFrame_admitted (h : UserPasses f s) (htag : lookupTag s (userPacket f.body).tag = some i)
    (hl : (s.visitor i).lifecycle = .attached) (ha : admission true s (s.visitor i) = none) :
    exec (.shipFrameArrival f) s = .next (uplinkQueue (userPacket f.body)
      ((userCounted s).setVisitor i { s.visitor i with servingCell := some (cellField f.body) })) := by
  have hadmitted : admission true (userCounted s) ((userCounted s).visitor i) = none := ha
  have hother : ((userCounted s).visitor i).lifecycle ≠ .provisioned := fun hp => by
    have := hp.symm.trans hl
    cases this
  rw [userFrame_known h htag, attachLearning_of_other hother, uplinkAdmit_of_admitted hadmitted]
  rfl

end UserFrame

section Attaching

variable {i : Nat} {e : UplinkEntry} {s : State}

theorem attached_admission (w : Visitor) :
    admission true (attach i (userCounted s)) w = admission true s w :=
  admission_congr true w (by simp [userCounted]) (by simp [userCounted]) (by simp [userCounted])

theorem attach_userCounted_counts : { (attach i (userCounted s)).vtb with entries := [], attaches := 0 } =
    { s.vtb with entries := [], attaches := 0 } := by rw [attach_vtb]; rfl

theorem attach_userCounted_visitor : (attach i (userCounted s)).visitor i = attached s i := attach_visitor_self i _

/-- What a frame that attaches its visitor moves, whatever the check says (R10, R24). -/
theorem attaching_leaves (i : Nat) (e : UplinkEntry) (s : State) :
    let t := uplinkAdmit i e (attach i (userCounted s))
    t.vtb.attaches = s.vtb.attaches + 1 ∧
      t.shi.counters.rxUser = s.shi.counters.rxUser + 1 ∧
      { t.shi with counters := s.shi.counters } = s.shi ∧
      (∀ j : Nat, j ≠ i → t.visitor j = s.visitor j) ∧
      t = { s with
        shi := t.shi, shore := t.shore, freeBuffers := t.freeBuffers, vtb := t.vtb, rse := t.rse } ∧
      { t.rse with running := false, runs := 0 } = { s.rse with running := false, runs := 0 } := by
  intro t
  obtain ⟨hport, hrx⟩ := uplinkAdmit_shi i e (attach i (userCounted s))
  have hshi : (attach i (userCounted s)).shi = (userCounted s).shi := attach_shi i _
  have hframe := uplinkAdmit_frame i e (attach i (userCounted s))
  have hrse : t.rse = (attach i (userCounted s)).rse := (congrArg State.rse hframe :)
  have hbase : ∀ a b c d, { attach i (userCounted s) with shi := a, shore := b, freeBuffers := c, vtb := d } =
      { s with shi := a, shore := b, freeBuffers := c, vtb := d, rse := (attach i (userCounted s)).rse } := by
    intro a b c d
    rw [attach_frame]
    rfl
  rw [hshi] at hport hrx
  refine ⟨?_, hrx, congrArg (fun x : Shi => { x with counters := s.shi.counters }) hport, fun j hj => ?_, ?_, ?_⟩
  · exact (uplinkAdmit_attaches i e _).trans (by rw [attach_vtb]; rfl)
  · exact (uplinkAdmit_visitor_ne e _ hj).trans (attach_visitor_ne _ hj)
  · rw [hrse]
    exact hframe.trans (hbase _ _ _ _)
  · rw [hrse]
    exact attach_rse i (userCounted s)

/-- Attached and refused (R24, R35). -/
theorem attaching_refused {why : Refused} (h : admission true s (attached s i) = some why) :
    let t := uplinkAdmit i e (attach i (userCounted s))
    t.visitor i = { attached s i with blocked := min ((attached s i).blocked + 1) (2 ^ 32 - 1) } ∧
      t.shore = s.shore ∧ t.freeBuffers = s.freeBuffers ∧
      t.shi.counters = { s.shi.counters with rxUser := s.shi.counters.rxUser + 1 } ∧
      { t.vtb with entries := [], attaches := 0 } =
        { (blockPacket i why s).vtb with entries := [], attaches := 0 } := by
  have hrefused : admission true (attach i (userCounted s)) ((attach i (userCounted s)).visitor i) = some why := by
    rw [attached_admission, attach_userCounted_visitor, h]
  intro t
  have ht : t = blockPacket i why (attach i (userCounted s)) := uplinkAdmit_of_refused hrefused
  rw [ht]
  refine ⟨?_, (attach_shore i _ :), (attach_freeBuffers i _ :), (congrArg Shi.counters (attach_shi i (userCounted s)) :),
    blockPacket_vtb_counts i why attach_userCounted_counts⟩
  rw [blockPacket_visitor, attach_userCounted_visitor]

/-- Attached and admitted, up to the queue (R24, R25). -/
theorem attaching_admitted (h : admission true s (attached s i) = none) :
    uplinkAdmit i e (attach i (userCounted s)) = uplinkQueue e ((attach i (userCounted s)).setVisitor i
      { attached s i with servingCell := some e.cell }) := by
  have hadmitted : admission true (attach i (userCounted s)) ((attach i (userCounted s)).visitor i) = none := by
    rw [attached_admission, attach_userCounted_visitor, h]
  rw [uplinkAdmit_of_admitted hadmitted, attach_userCounted_visitor]

theorem attaching_queued {p : Path} (h : admission true s (attached s i) = none) (hp : s.psl.active = some p)
    (hfree : 0 < s.freeBuffers) (hroom : (s.port p).txQueue.length < 1024) :
    let t := uplinkAdmit i e (attach i (userCounted s))
    t.shi.counters = { s.shi.counters with rxUser := s.shi.counters.rxUser + 1 } ∧
      t.freeBuffers = s.freeBuffers - 1 ∧ (∀ q : Path, q ≠ p → t.port q = s.port q) ∧
      t.port p = { s.port p with txQueue := (s.port p).txQueue ++ [e] } := by
  intro t
  let u := (attach i (userCounted s)).setVisitor i { attached s i with servingCell := some e.cell }
  have hshore : u.shore = s.shore := attach_shore i (userCounted s)
  have hport : ∀ q, u.port q = s.port q := fun q => congrArg (fun x => x.get q) hshore
  have hbuffers : u.freeBuffers = s.freeBuffers := attach_freeBuffers i (userCounted s)
  have hactive : u.psl.active = some p := (congrArg Psl.active (attach_psl i (userCounted s))).trans hp
  have ht : t = _ := (attaching_admitted h).trans (uplinkQueue_of_room (s := u) (e := e) (hbuffers ▸ hfree) hactive
    (by rw [hport]; exact hroom))
  rw [ht, hport, hbuffers]
  refine ⟨(congrArg Shi.counters (attach_shi i (userCounted s)) :), rfl, fun q hq => ?_, ?_⟩
  · exact (State.setPort_port_ne _ _ hq).trans (hport q)
  · exact State.setPort_port_self _ _ _

end Attaching

/-- Settles O14: a frame is sorted once; a packet goes its way through attachment, the check and the queue, each of
which says what it leaves. -/
theorem shipFramesAreSortedAndQueued : Obligations.ShipFramesAreSortedAndQueued := by
  refine ⟨fun f s => ⟨fun h => congrArg _ (if_pos h), fun h ht => congrArg _ (shipArrival_of_foreign h ht),
    fun h ht hb => congrArg _ (shipArrival_of_empty h ht hb),
    fun k h h1 h2 h3 => congrArg _ (shipArrival_of_unknown h h1 h2 h3), fun h => congrArg _ (shipArrival_of_short h),
    fun h hlen hcell => ?user, fun h hlen hcell hlevel henable => ?heartbeat, fun h hlen => ?request, ?unknown⟩,
    fun f i why s h htag hl ha => userFrame_refused h htag hl ha, fun f i p s h htag hl ha hp => ?admitted,
    fun f i w s h htag hl hw => ?attaching, fun i why s => ?blocked⟩
  case user =>
    have hexec : exec (.shipFrameArrival f) s = .next (userArrives f.body s) :=
      congrArg _ (shipArrival_of_user h hlen hcell)
    rw [hexec]
    exact ⟨fun hl => by simp [userArrives, hl], fun hl he => by simp [userArrives, hl, he],
      fun hl he hs => by simp [userArrives, hl, he, hs]⟩
  case heartbeat =>
    exact congrArg _ ((shipArrival_of_heartbeat h hlen hcell hlevel).trans (if_pos henable))
  case request =>
    have hexec : exec (.shipFrameArrival f) s = .next (shipRequestArrives f.src f.body s) :=
      congrArg _ (shipArrival_of_request h hlen)
    rw [hexec]
    exact ⟨fun hroom => congrArg _ (shipRequestArrives_of_room hroom),
      fun hfull => congrArg _ (shipRequestArrives_of_full hfull)⟩
  case unknown =>
    intro h htag
    have hunknown : lookupTag (userCounted s) (userPacket f.body).tag = none := htag
    exact congrArg _ ((shipArrival_of_userPasses h).trans (uplinkArrival_of_unknown hunknown))
  case admitted =>
    let u := (userCounted s).setVisitor i { s.visitor i with servingCell := some (cellField f.body) }
    rw [userFrame_admitted h htag hl ha]
    exact ⟨fun hfree => congrArg _ (uplinkQueue_of_no_buffer (s := u) hfree),
      fun hfree hfull => congrArg _ (uplinkQueue_of_full (s := u) hfree hp hfull),
      fun hfree hroom => congrArg _ (uplinkQueue_of_room (s := u) hfree hp hroom)⟩
  case attaching =>
    have hw' : w = attached s i := hw
    have hattach : attachLearning i (userCounted s) = attach i (userCounted s) := attachLearning_of_provisioned hl
    obtain ⟨hattaches, hrx, hport, hne, hframe, hrse⟩ := attaching_leaves i (userPacket f.body) s
    rw [hw']
    refine ⟨_, hattach ▸ userFrame_known h htag, hattaches, hrx, hport, hne, hframe, hrse,
      fun why ha => attaching_refused ha, fun ha => ⟨?_, ?_, fun p hp hfree hroom => attaching_queued ha hp hfree hroom⟩⟩
    · rw [attaching_admitted ha, State.visitor, uplinkQueue_vtb]
      exact setVisitor_visitor_of_open
        (v := { attached s i with servingCell := some (cellField f.body) }) rfl
    · rw [attaching_admitted ha, uplinkQueue_vtb]
      exact attach_userCounted_counts
  case blocked =>
    obtain ⟨hattaches, hattached, hbarred, hexhausted, hplan, hbackhaul, hcoverage⟩ := blockPacket_counts i why s
    exact ⟨_, rfl, blockPacket_visitor i why s, fun j hj => blockPacket_visitor_ne why s hj, hattaches, hattached,
      hbarred, hexhausted, hplan, hbackhaul, hcoverage, rfl⟩

end Sys2Proof.Machine
end

section
/-! SUPPORT. The delivery handling, the gap timer's expiry, and the placement of a DATA frame's packet (R13, R14, R147
to R151). -/

namespace Sys2Proof.Machine

/-! ## What a delivery may touch -/

/-- Only the blocks of the packet path and the resequencer differ. -/
def OnPacketPath (s t : State) : Prop := t = { s with
  shi := t.shi, shore := t.shore, freeBuffers := t.freeBuffers, vtb := t.vtb, rcq := t.rcq,
  rse := t.rse, drs := t.drs, cvu := t.cvu, ntu := t.ntu }

section Frames

variable {s t u : State}

theorem OnPacketPath.trans (h : OnPacketPath s t) (h' : OnPacketPath t u) : OnPacketPath s u := by
  unfold OnPacketPath at h
  refine Eq.trans h' ?_
  rw [h]

theorem onPacketPath_setDrs (s : State) (d : Drs) : OnPacketPath s (s.setDrs d) := rfl

theorem onPacketPath_returned (s : State) (d : Drs) (n : Nat) : OnPacketPath s ((s.setDrs d).returnBuffers n) := rfl

theorem onPacketPath_deliver (h : Held) (s : State) : OnPacketPath s (deliver h s) := by
  obtain ⟨t, ht, hframe⟩ := deliver_frame h s
  rw [ht]
  exact hframe

theorem onPacketPath_deliverNext (h : Held) (left : List Held) (s : State) :
    OnPacketPath s (deliverNext h left s) :=
  (onPacketPath_setDrs s _).trans (onPacketPath_deliver h _)

theorem onPacketPath_deliverAll (out : List Held) (s : State) : OnPacketPath s (deliverAll out s) := by
  obtain ⟨t, ht, hframe⟩ := deliverAll_frame out s
  rw [ht]
  exact hframe

theorem onPacketPath_deliverRun (run : List Held) (s : State) : OnPacketPath s (deliverRun run s) := by
  obtain ⟨t, ht, hframe⟩ := deliverRun_frame run s
  rw [ht]
  exact hframe

theorem onPacketPath_checkGapTimer (s : State) : OnPacketPath s (checkGapTimer s) := by
  rw [checkGapTimer_eq]
  exact onPacketPath_setDrs s _

end Frames

/-! ## The gap timer's expiry (R150) -/

theorem gapExpiry_of_held {h : Held} {left : List Held} {s : State} (hs : s.drs.slots = h :: left) : gapExpiry s =
    checkGapTimer (deliverRun (h :: left) (s.setDrs { s.drs with
      gapTimer := none
      gapExpiries := s.drs.gapExpiries + 1
      nextExpected := h.seq
      skipped := s.drs.skipped + BitVec.ofNat 32 (seqDistance s.drs h.seq) })) := by
  unfold gapExpiry
  dsimp only
  simp only [State.setDrs_drs, hs]
  rfl

/-- The expiry delivers the nearest packet with the run behind it, and counts the hole before them. -/
theorem gapExpiry_drs {h : Held} {run left : List Held} {s : State} (hs : s.drs.slots = h :: (run ++ left))
    (hrun : ∀ (k : Nat) (x : Held), run[k]? = some x → x.seq = h.seq + BitVec.ofNat 16 (k + 1))
    (hleft : ∀ x ∈ left.head?, x.seq ≠ h.seq + BitVec.ofNat 16 (run.length + 1)) :
    (gapExpiry s).drs = { s.drs with
      slots := left
      nextExpected := h.seq + BitVec.ofNat 16 (run.length + 1)
      gapTimer := if left = [] then none else some s.drs.gapHold
      gapExpiries := s.drs.gapExpiries + 1
      delivered := s.drs.delivered + BitVec.ofNat 32 (run.length + 1)
      skipped := s.drs.skipped + BitVec.ofNat 32 (seqDistance s.drs h.seq) } := by
  have hwhole : ∀ (k : Nat) (x : Held), (h :: run)[k]? = some x → x.seq = h.seq + BitVec.ofNat 16 k := by
    intro k x hx
    cases k with
    | zero => cases hx; simp
    | succ k => exact hrun k x hx
  have hdrs := deliverRun_drs (h :: run) left (s.setDrs { s.drs with
    gapTimer := none
    gapExpiries := s.drs.gapExpiries + 1
    nextExpected := h.seq
    skipped := s.drs.skipped + BitVec.ofNat 32 (seqDistance s.drs h.seq) }) hs hwhole hleft
  rw [gapExpiry_of_held hs, checkGapTimer_eq, State.setDrs_drs, ← List.cons_append, hdrs]
  simp

theorem gapExpiry_onPacketPath {h : Held} {left : List Held} {s : State} (hs : s.drs.slots = h :: left) :
    OnPacketPath s (gapExpiry s) := by
  rw [gapExpiry_of_held hs]
  exact (onPacketPath_setDrs s _).trans ((onPacketPath_deliverRun _ _).trans (onPacketPath_checkGapTimer _))

/-! ## The delivery handling (R14, R166) -/

section Delivery

variable {h : Held} {i : Nat} {s : State}

theorem downlinkDelivery_of_unknown (hg : lookupTag s h.tag = none) : downlinkDelivery h s =
    (s.countShore h.port (fun n => { n with dropUnknownTag := n.dropUnknownTag + 1 })).returnBuffers 1 := by
  simp only [downlinkDelivery, hg]

theorem downlinkDelivery_of_known (hg : lookupTag s h.tag = some i) :
    downlinkDelivery h s = deliverTo i h (owedWork i s) := by
  simp only [downlinkDelivery, hg]

theorem deliverTo_of_refused {why : Refused} (ha : admission false s (s.visitor i) = some why) :
    deliverTo i h s = refuseHeld i why s := by
  simp only [deliverTo, ha]

theorem deliverTo_of_uncovered (ha : admission false s (s.visitor i) = none)
    (hc : forwardingChoice s (s.visitor i) = none) : deliverTo i h s = refuseHeld i .noCoverage s := by
  simp only [deliverTo, ha, hc]

theorem deliverTo_of_chosen {c : Cell} {backup : Bool} (ha : admission false s (s.visitor i) = none)
    (hc : forwardingChoice s (s.visitor i) = some (c, backup)) :
    deliverTo i h s = deliverCharged i h c (countSubstitution backup s) := by
  simp only [deliverTo, ha, hc]

theorem countSubstitution_eq (backup : Bool) (s : State) : countSubstitution backup s =
    s.setCvu { s.cvu with substitutions := s.cvu.substitutions + (if backup then 1 else 0) } := by
  cases backup with
  | true => rfl
  | false =>
    have hzero : s.cvu.substitutions + (if false = true then 1 else 0) = s.cvu.substitutions := by simp
    rw [hzero]
    rfl

variable {c : Cell}

theorem deliverCharged_of_full (hfull : 2048 ≤ s.shi.egress.length) : deliverCharged i h c s =
    (s.countShip (fun n => { n with dropEgressFull := n.dropEgressFull + 1 })).returnBuffers 1 := if_pos hfull

theorem deliverCharged_of_charged (hroom : s.shi.egress.length < 2048)
    (hcharge : (charge i h.length .down s).2 = true) : deliverCharged i h c s =
      (charge i h.length .down s).1.setShi { s.shi with
        egress := s.shi.egress ++ [{ packet := h.packet, tag := h.tag, length := h.length, cell := c }] } := by
  rw [deliverCharged, if_neg (show ¬ Config.egressQueueSize ≤ s.shi.egress.length from hroom.not_ge)]
  simp only [hcharge, if_true, charge_shi]

theorem deliverCharged_of_ceiling (hroom : s.shi.egress.length < 2048)
    (hcharge : (charge i h.length .down s).2 = false) : deliverCharged i h c s =
      (charge i h.length .down s).1.setFreeBuffers (s.freeBuffers + 1) := by
  rw [deliverCharged, if_neg (show ¬ Config.egressQueueSize ≤ s.shi.egress.length from hroom.not_ge)]
  simp [hcharge, State.returnBuffers]

theorem carries_eq (x : CellHead) : carries x = true ↔ x.state = .serving ∧ 0 < x.activeLevel := by
  simp [carries]

theorem forwardingChoice_of_own {v : Visitor} (hv : v.servingCell = some c) (hc : carries (s.cell c) = true) :
    forwardingChoice s v = some (c, false) := by
  simp [forwardingChoice, hv, hc]

theorem forwardingChoice_of_no_backup {v : Visitor} (hv : v.servingCell = some c)
    (hc : carries (s.cell c) = false) (hb : (s.cell c).backup = none) : forwardingChoice s v = none := by
  simp [forwardingChoice, hv, hc, hb]

theorem forwardingChoice_of_backup {v : Visitor} {b : Cell} (hv : v.servingCell = some c)
    (hc : carries (s.cell c) = false) (hb : (s.cell c).backup = some b) :
    forwardingChoice s v = if carries (s.cell b) then some (b, true) else none := by
  simp [forwardingChoice, hv, hc, hb]

end Delivery

/-- Settles O31: the expiry is a run at the nearest held packet; the handling of a packet is one path through the
lookup, the check, the forwarding choice and the charge. -/
theorem gapExpiryAndDelivery : Obligations.GapExpiryAndDelivery := by
  refine ⟨fun h run left s hs hg hrun hleft => ?expiry, fun h s hg => ?unknown, fun h i u s hg hu => ?known,
    fun v s => ?choice⟩
  case expiry =>
    exact ⟨gapExpiry s, if_pos (timerRunning_of_ne hg), gapExpiry_drs hs hrun hleft, gapExpiry_onPacketPath hs⟩
  case unknown => exact downlinkDelivery_of_unknown hg
  case known =>
    rw [downlinkDelivery_of_known hg, ← hu]
    refine ⟨fun why ha => deliverTo_of_refused ha, fun ha hc => deliverTo_of_uncovered ha hc,
      fun c backup w ha hc hw => ?_⟩
    rw [deliverTo_of_chosen ha hc, countSubstitution_eq, ← hw]
    have hshi : w.shi = u.shi := (congrArg State.shi hw :)
    have hbuffers : w.freeBuffers = u.freeBuffers := (congrArg State.freeBuffers hw :)
    rw [← hshi, ← hbuffers]
    exact ⟨deliverCharged_of_full, deliverCharged_of_charged, deliverCharged_of_ceiling⟩
  case choice =>
    refine ⟨fun hv => by simp [forwardingChoice, hv], fun c hv => ⟨fun hserving hlevel => ?_, fun hc => ?_⟩⟩
    · exact forwardingChoice_of_own hv ((carries_eq _).2 ⟨hserving, hlevel⟩)
    · have hidle : carries (s.cell c) = false := by
        rcases hc with h | h <;> simp [carries, h]
      refine ⟨forwardingChoice_of_no_backup hv hidle, fun b hb => ?_⟩
      rw [forwardingChoice_of_backup hv hidle hb]
      simp only [carries_eq]

/-! ## A DATA frame at its port (R2, R13) -/

section Data

variable {p : Path} {f : EthFrame} {s : State}

theorem shoreArrival_of_data (h : TunnelFrame 0x10 p f) :
    shoreArrival p f s = dataArrives p f.src f.body s := by
  obtain ⟨hown, -, -⟩ := id h
  rw [shoreArrival_of_own p s hown, shoreSort, show shoreKind 0x10 = some .data from rfl]
  exact if_neg (by simp [shoreHeaderOk_of_tunnel h])

theorem acceptsData_iff : acceptsData s p = true ↔ s.psl.active = some p ∨ s.psl.drain.get p ≠ none := by
  simp [acceptsData, timerRunning, Option.isSome_iff_ne_none]

theorem dataArrives_of_bad_length (h : lengthOk (field f.body 14 2) (f.body.length - 16) = false) :
    dataArrives p f.src f.body s = s.countShore p (fun c => { c with dropLength := c.dropLength + 1 }) := if_pos h

theorem dataArrives_of_closed (h : lengthOk (field f.body 14 2) (f.body.length - 16) = true)
    (ha : acceptsData s p = false) : dataArrives p f.src f.body s =
      s.countShore p (fun c => { c with dropNotAccept := c.dropNotAccept + 1 }) := by
  simp [dataArrives, h, ha]

theorem dataArrives_of_accepted (h : lengthOk (field f.body 14 2) (f.body.length - 16) = true)
    (ha : acceptsData s p = true) : dataArrives p f.src f.body s = downlinkArrival (dataPacket p f.body)
      (s.setPort p { s.port p with
        partner := some f.src
        counters := { (s.port p).counters with rxData := (s.port p).counters.rxData + 1 } }) := by
  simp [dataArrives, h, ha, learnShore, State.modPort, State.countShore]

end Data

end Sys2Proof.Machine
end

section
/-! SUPPORT. The resequencer places a packet: in HUNT, in order, held, as a duplicate, late, and by a jump (R147 to
R150). -/

namespace Sys2Proof.Machine

variable {h : Held} {s : State}

/-! ## What a placement keeps -/

/-- A run moves the slots, NEXT_EXPECTED and DELIVERED of the resequencer alone. -/
theorem deliverRun_figures : ∀ (run : List Held) (s : State),
    { (deliverRun run s).drs with slots := [], nextExpected := 0, delivered := 0 } =
      { s.drs with slots := [], nextExpected := 0, delivered := 0 }
  | [], _ => rfl
  | x :: run, s => by
    unfold deliverRun
    split
    · rw [deliverRun_figures run, deliverNext_drs]
    · rfl

theorem placeNear_figures (h : Held) (s : State) :
    { (placeNear h s).drs with slots := [], nextExpected := 0, delivered := 0, duplicates := 0 } =
      { s.drs with slots := [], nextExpected := 0, delivered := 0, duplicates := 0 } := by
  unfold placeNear
  split
  · dsimp only
    refine (congrArg (fun d : Drs => { d with duplicates := 0 }) (deliverRun_figures _ _)).trans ?_
    rw [deliverNext_drs]
  · split
    · rfl
    · rfl

theorem onPacketPath_placeNear (h : Held) (s : State) : OnPacketPath s (placeNear h s) := by
  unfold placeNear
  split
  · exact (onPacketPath_deliverNext h _ s).trans (onPacketPath_deliverRun _ _)
  · split
    · exact onPacketPath_returned s _ 1
    · exact onPacketPath_setDrs s _

theorem onPacketPath_jumpTo (next : BitVec 16) (s : State) : OnPacketPath s (jumpTo next s) :=
  (onPacketPath_setDrs s _).trans ((onPacketPath_deliverAll _ _).trans (onPacketPath_deliverRun _ _))

/-! ## A packet at NEXT_EXPECTED (R147, R148) -/

theorem add_one_add_ofNat {w : Nat} (x : BitVec w) (n : Nat) :
    x + 1 + BitVec.ofNat w n = x + BitVec.ofNat w (n + 1) := by
  rw [BitVec.ofNat_add, BitVec.add_assoc, BitVec.add_comm 1]
  rfl

theorem seq_eq_of_distance_zero (hd : seqDistance s.drs h.seq = 0) : h.seq = s.drs.nextExpected := by
  unfold seqDistance at hd
  bv_omega

theorem placeNear_of_next (hd : seqDistance s.drs h.seq = 0) : placeNear h s =
    deliverRun s.drs.slots (deliverNext h s.drs.slots s) := by
  have hslots : (deliverNext h s.drs.slots s).drs.slots = s.drs.slots := by rw [deliverNext_drs]
  unfold placeNear
  rw [if_pos hd]
  dsimp only
  rw [hslots]

/-- A packet at NEXT_EXPECTED goes with the run behind it (R148). -/
theorem placeNear_drs_of_next {run left : List Held} (hd : seqDistance s.drs h.seq = 0)
    (hs : s.drs.slots = run ++ left)
    (hrun : ∀ (k : Nat) (x : Held), run[k]? = some x → x.seq = h.seq + BitVec.ofNat 16 (k + 1))
    (hleft : ∀ x ∈ left.head?, x.seq ≠ h.seq + BitVec.ofNat 16 (run.length + 1)) :
    (placeNear h s).drs = { s.drs with
      nextExpected := h.seq + BitVec.ofNat 16 (run.length + 1), slots := left
      delivered := s.drs.delivered + BitVec.ofNat 32 (run.length + 1) } := by
  have hnext : ∀ k : Nat, s.drs.nextExpected + 1 + BitVec.ofNat 16 k = h.seq + BitVec.ofNat 16 (k + 1) := by
    intro k
    rw [← seq_eq_of_distance_zero hd, add_one_add_ofNat]
  have hafter : (deliverNext h s.drs.slots s).drs =
      { s.drs with nextExpected := s.drs.nextExpected + 1, delivered := s.drs.delivered + 1 } := deliverNext_drs h _ s
  have hdrs := deliverRun_drs run left (deliverNext h s.drs.slots s) (by rw [hafter]; exact hs)
    (fun k x hx => by rw [hafter]; exact (hrun k x hx).trans (hnext k).symm)
    (fun x hx => by rw [hafter]; exact fun e => hleft x hx (e.trans (hnext _)))
  rw [placeNear_of_next hd]
  conv_lhs => rw [hs]
  rw [hs] at hdrs hafter
  rw [hdrs, hafter, ← hnext, ← add_one_add_ofNat]

/-- A packet at NEXT_EXPECTED with no run behind it (R147, R148). -/
theorem placeNear_of_next_alone (hd : seqDistance s.drs h.seq = 0) (hs : ∀ x ∈ s.drs.slots, x.seq ≠ h.seq + 1) :
    placeNear h s = downlinkDelivery h (s.setDrs { s.drs with
      nextExpected := h.seq + 1, delivered := s.drs.delivered + 1 }) := by
  have hafter : (deliverNext h s.drs.slots s).drs.nextExpected = h.seq + 1 := by
    rw [deliverNext_drs, seq_eq_of_distance_zero hd]
  have hrun : deliverRun s.drs.slots (deliverNext h s.drs.slots s) = deliverNext h s.drs.slots s := by
    cases hslots : s.drs.slots with
    | nil => rfl
    | cons x xs =>
      rw [hslots] at hs hafter
      rw [deliverRun, hafter]
      exact if_neg (hs x (List.mem_cons_self ..))
  rw [placeNear_of_next hd, hrun, seq_eq_of_distance_zero hd]
  rfl

/-! ## A packet within reach, late, or already held (R148) -/

theorem placeNear_of_held (hd : 1 ≤ seqDistance s.drs h.seq) (hx : ∃ x ∈ s.drs.slots, x.seq = h.seq) :
    placeNear h s = (s.setDrs { s.drs with duplicates := s.drs.duplicates + 1 }).returnBuffers 1 := by
  have hany : s.drs.slots.any (fun x => x.seq == h.seq) = true := by
    obtain ⟨x, hmem, heq⟩ := hx
    exact List.any_eq_true.2 ⟨x, hmem, by simp [heq]⟩
  rw [placeNear, if_neg (by omega), if_pos hany]

theorem placeNear_of_new (hd : 1 ≤ seqDistance s.drs h.seq) (hx : ∀ x ∈ s.drs.slots, x.seq ≠ h.seq) :
    placeNear h s = s.setDrs { s.drs with slots := slotInsert s.drs h s.drs.slots } := by
  have hany : ¬ s.drs.slots.any (fun x => x.seq == h.seq) = true := by simpa using hx
  rw [placeNear, if_neg (by omega), if_neg hany]

theorem slotInsert_ne_nil (d : Drs) (h : Held) (l : List Held) : slotInsert d h l ≠ [] :=
  List.ne_nil_of_mem (slotInsert_mem.2 (.inl rfl))

theorem resequence_of_near (hl : s.drs.locked = true) (hd : seqDistance s.drs h.seq ≤ 255) :
    resequence h s = checkGapTimer (placeNear h s) := by
  rw [resequence, if_pos hl, placeLocked]
  dsimp only
  rw [if_pos (by omega)]

theorem resequence_of_late (hl : s.drs.locked = true) (hd : 32768 ≤ seqDistance s.drs h.seq) :
    resequence h s = checkGapTimer ((s.setDrs { s.drs with late := s.drs.late + 1 }).returnBuffers 1) := by
  rw [resequence, if_pos hl, placeLocked]
  dsimp only
  rw [if_neg (by omega), if_neg (by omega)]

theorem resequence_of_far (hl : s.drs.locked = true) (hd : 256 ≤ seqDistance s.drs h.seq)
    (hd' : seqDistance s.drs h.seq < 32768) : resequence h s = checkGapTimer (jump h s) := by
  rw [resequence, if_pos hl, placeLocked]
  dsimp only
  rw [if_neg (by omega), if_pos hd']

/-- In HUNT the packet becomes the next one expected, which it then is (R147). -/
theorem resequence_of_hunt (hl : s.drs.locked = false) (hs : s.drs.slots = []) : resequence h s =
    checkGapTimer (downlinkDelivery h (s.setDrs { s.drs with
      locked := true, nextExpected := h.seq + 1, delivered := s.drs.delivered + 1 })) := by
  rw [resequence, if_neg (by simp [hl]), placeNear_of_next_alone (by simp [seqDistance]) (by simp [hs])]
  rfl

theorem checked_drs_of_delivery (h : Held) (s : State) : (checkGapTimer (downlinkDelivery h s)).drs = { s.drs with
    gapTimer := if s.drs.slots = [] then none else some (s.drs.gapTimer.getD s.drs.gapHold) } := by
  rw [checkGapTimer_eq, State.setDrs_drs, downlinkDelivery_drs]

theorem checked_of_delivery (h : Held) (s : State) : checkGapTimer (downlinkDelivery h s) =
    (downlinkDelivery h s).setDrs (checkGapTimer (downlinkDelivery h s)).drs := by
  rw [checkGapTimer_eq, State.setDrs_drs]

/-! ## The jump (R149) -/

section Jump

variable {out run left : List Held}

theorem jumpTo_distance (hfar : 256 ≤ seqDistance s.drs h.seq) :
    seqDistance s.drs (h.seq - 255) = seqDistance s.drs h.seq - 255 := by
  unfold seqDistance at *
  bv_omega

/-- The packets passed come before those that stay. -/
theorem jumpTo_of_split {next : BitVec 16} (hs : s.drs.slots = out ++ (run ++ left))
    (hout : ∀ x ∈ out, seqDistance s.drs x.seq < seqDistance s.drs next)
    (hstay : ∀ x ∈ run ++ left, seqDistance s.drs next ≤ seqDistance s.drs x.seq) :
    jumpTo next s = deliverRun (run ++ left) (deliverAll out (s.setDrs { s.drs with
      slots := run ++ left
      nextExpected := next
      skipped := s.drs.skipped + BitVec.ofNat 32 (seqDistance s.drs next - out.length) })) := by
  have hpassed : s.drs.slots.filter (fun x => decide (seqDistance s.drs x.seq < seqDistance s.drs next)) = out := by
    rw [hs, List.filter_append, List.filter_eq_self.2 fun x hx => decide_eq_true (hout x hx),
      List.filter_eq_nil_iff.2 fun x hx => by simpa using hstay x hx, List.append_nil]
  have hkept : s.drs.slots.filter (fun x => !decide (seqDistance s.drs x.seq < seqDistance s.drs next)) =
      run ++ left := by
    rw [hs, List.filter_append, List.filter_eq_nil_iff.2 fun x hx => by simpa using hout x hx,
      List.filter_eq_self.2 fun x hx => by simpa using hstay x hx, List.nil_append]
  unfold jumpTo
  dsimp only
  rw [hpassed, hkept, deliverAll_drs]
  rfl

/-- What the jump leaves of the resequencer (R149). -/
theorem jumpTo_drs {next : BitVec 16} (hs : s.drs.slots = out ++ (run ++ left))
    (hout : ∀ x ∈ out, seqDistance s.drs x.seq < seqDistance s.drs next)
    (hstay : ∀ x ∈ run ++ left, seqDistance s.drs next ≤ seqDistance s.drs x.seq)
    (hrun : ∀ (k : Nat) (x : Held), run[k]? = some x → x.seq = next + BitVec.ofNat 16 k)
    (hleft : ∀ x ∈ left.head?, x.seq ≠ next + BitVec.ofNat 16 run.length) :
    (jumpTo next s).drs = { s.drs with
      slots := left
      nextExpected := next + BitVec.ofNat 16 run.length
      skipped := s.drs.skipped + BitVec.ofNat 32 (seqDistance s.drs next - out.length)
      delivered := s.drs.delivered + BitVec.ofNat 32 (out.length + run.length) } := by
  have hall := deliverAll_drs out (s.setDrs { s.drs with
    slots := run ++ left
    nextExpected := next
    skipped := s.drs.skipped + BitVec.ofNat 32 (seqDistance s.drs next - out.length) })
  rw [jumpTo_of_split hs hout hstay, deliverRun_drs run left _ (by rw [hall]; rfl)
    (by rw [hall]; exact hrun) (by rw [hall]; exact hleft), hall]
  simp [BitVec.ofNat_add, BitVec.add_assoc]

end Jump

theorem onPacketPath_jump (h : Held) (s : State) : OnPacketPath s (jump h s) :=
  (onPacketPath_jumpTo _ s).trans ((onPacketPath_placeNear h _).trans (onPacketPath_setDrs _ _))

theorem jump_drs (h : Held) (s : State) : (jump h s).drs =
    { (placeNear h (jumpTo (h.seq - 255) s)).drs with
      jumps := (placeNear h (jumpTo (h.seq - 255) s)).drs.jumps + 1 } := rfl

/-- JUMPS, SKIPPED and LOCKED after a jump are those that the hand-over of the packet finds (R149). -/
theorem jump_figures (h : Held) (s : State) : (jump h s).drs.jumps = (jumpTo (h.seq - 255) s).drs.jumps + 1 ∧
    (jump h s).drs.locked = (jumpTo (h.seq - 255) s).drs.locked ∧
    (jump h s).drs.skipped = (jumpTo (h.seq - 255) s).drs.skipped := by
  have hfigures := placeNear_figures h (jumpTo (h.seq - 255) s)
  rw [jump_drs]
  exact ⟨(congrArg (fun d : Drs => d.jumps + 1) hfigures :), (congrArg Drs.locked hfigures :),
    (congrArg Drs.skipped hfigures :)⟩

/-- After a jump with a run of n packets behind it, what is left before the packet's own sequence (R149). -/
theorem seqDistance_after_jump {n : Nat} (hn : n ≤ 255)
    (hnext : s.drs.nextExpected = h.seq - 255 + BitVec.ofNat 16 n) : seqDistance s.drs h.seq = 255 - n := by
  unfold seqDistance
  rw [hnext]
  bv_omega

/-- Settles O17: a frame's packet is placed by its distance, and each placement is a run, an insertion or a counter. -/
theorem dataFramesAreResequenced : Obligations.DataFramesAreResequenced := by
  refine ⟨fun p f s h => ?frame, fun h s hl hs => ?hunt, fun h s hl => ⟨fun hd hne => ?next, fun run left hd hs hrun hleft =>
    ?run, fun hd hd' hne => ?hold, fun hd hd' hx => ?duplicate, fun hd => ?late⟩,
    fun h out run left d s hl hd hfar hd' hs hout hstay hrun hleft => ?jump⟩
  case frame =>
    have hexec : exec (.shoreFrameArrival p f) s = .next (dataArrives p f.src f.body s) :=
      congrArg _ (shoreArrival_of_data h)
    rw [hexec]
    refine ⟨fun hlen => congrArg _ (dataArrives_of_bad_length hlen), fun hlen ha hdrain => ?_, fun hlen ha => ?_⟩
    · refine congrArg _ (dataArrives_of_closed hlen (Bool.eq_false_iff.2 fun hacc => ?_))
      rcases acceptsData_iff.1 hacc with hx | hx
      · exact ha hx
      · exact hx hdrain
    · rw [dataArrives_of_accepted hlen (acceptsData_iff.2 ha)]
      refine ⟨fun hfree => ?_, fun hfree => ?_⟩
      · exact congrArg _ ((if_pos hfree).trans (by simp [State.countShore, dataPacket]))
      · exact congrArg _ (if_neg hfree.ne')
  case hunt =>
    rw [resequence_of_hunt hl hs]
    refine ⟨_, rfl, checked_of_delivery _ _, ?_⟩
    rw [checked_drs_of_delivery]
    simp [hs]
  case next =>
    rw [resequence_of_near hl (by omega), placeNear_of_next_alone hd hne]
    exact ⟨_, rfl, checked_of_delivery _ _, checked_drs_of_delivery _ _⟩
  case run =>
    have hplaced := placeNear_drs_of_next hd hs hrun hleft
    rw [resequence_of_near hl (by omega)]
    refine ⟨_, rfl, ?_, (onPacketPath_placeNear h s).trans (onPacketPath_checkGapTimer _)⟩
    rw [checkGapTimer_eq, State.setDrs_drs, hplaced]
  case hold =>
    rw [resequence_of_near hl hd', placeNear_of_new hd hne, checkGapTimer_eq]
    refine ⟨_, rfl, fun x => slotInsert_mem, ?_, rfl⟩
    simp [slotInsert_ne_nil]
  case duplicate =>
    rw [resequence_of_near hl hd', placeNear_of_held hd hx, checkGapTimer_eq]
    exact ⟨_, rfl, rfl, rfl, rfl, rfl⟩
  case late =>
    rw [resequence_of_late hl hd, checkGapTimer_eq]
    exact ⟨_, rfl, rfl, rfl, rfl, rfl⟩
  case jump =>
    subst hd
    have hpassed := jumpTo_distance (h := h) hfar
    have hafter := jumpTo_drs (next := h.seq - 255) hs (fun x hx => by rw [hpassed]; exact hout x hx)
      (fun x hx => by rw [hpassed]; exact (hstay x hx).1) hrun hleft
    obtain ⟨hjumps, hlocked, hskipped⟩ := jump_figures h s
    rw [hafter] at hjumps hlocked hskipped
    rw [hpassed] at hskipped
    rw [resequence_of_far hl hfar hd', checkGapTimer_eq]
    refine ⟨_, rfl, hjumps, hlocked.trans hl, hskipped, fun hshort => ?_, fun hlong hempty => ?_,
      (onPacketPath_jump h s).trans (onPacketPath_setDrs _ _)⟩
    · have hgap := seqDistance_after_jump (h := h) (s := jumpTo (h.seq - 255) s) hshort.le (by rw [hafter])
      have hnew : ∀ x ∈ (jumpTo (h.seq - 255) s).drs.slots, x.seq ≠ h.seq := by
        rw [hafter]
        intro x hx he
        have hreach := (hstay x (List.mem_append_right run hx)).2
        rw [he] at hreach
        omega
      have hplaced := placeNear_of_new (by omega) hnew
      rw [jump_drs, hplaced, State.setDrs_drs, State.setDrs_drs, hafter]
      exact ⟨rfl, fun x => slotInsert_mem, rfl, if_neg (slotInsert_ne_nil _ _ _)⟩
    · have hgap := seqDistance_after_jump (h := h) (s := jumpTo (h.seq - 255) s) hlong.le (by rw [hafter])
      have hzero : seqDistance (jumpTo (h.seq - 255) s).drs h.seq = 0 := by omega
      have hslots : (jumpTo (h.seq - 255) s).drs.slots = [] := by rw [hafter, hempty]
      have halone : ∀ x ∈ (jumpTo (h.seq - 255) s).drs.slots, x.seq ≠ h.seq + 1 := by
        rw [hslots]
        exact fun x hx => nomatch hx
      have hplaced := placeNear_of_next_alone hzero halone
      have hcount : ∀ b : BitVec 32, b + BitVec.ofNat 32 (out.length + 255) + 1 = b + BitVec.ofNat 32 (out.length + 256) :=
        fun b => by rw [BitVec.add_assoc, BitVec.add_comm _ 1, ← BitVec.add_assoc, add_one_add_ofNat]
      rw [jump_drs, hplaced, downlinkDelivery_drs, State.setDrs_drs, State.setDrs_drs, hafter, hempty, hlong]
      exact ⟨rfl, rfl, by simp, hcount _⟩

end Sys2Proof.Machine
end

section
/-! SUPPORT. What a shore transmitter takes: a due frame, the reply, or the head packet with its charge (R11, R12, R120,
R121). -/

namespace Sys2Proof.Machine

variable {p : Path} {s : State}

theorem exec_shoreTransmitTake (hc : (s.port p).carrier = true) (ht : (s.port p).transmitter = none) :
    exec (.shoreTransmitTake p) s = .next (shoreTake p s) := by
  show execShoreTransmitTake p s = _
  simp [execShoreTransmitTake, hc, ht]

/-! ## The choice (R12) -/

theorem shoreTake_of_due {d : Due} {left : List Due} (hd : (s.port p).due = d :: left) :
    shoreTake p s = takeSupervision p d left s := by
  simp only [shoreTake, hd]

theorem shoreTake_of_reply {r : Reply} (hd : (s.port p).due = []) (hr : (s.port p).reply = some r) :
    shoreTake p s = takeShoreReply p r s := by
  simp only [shoreTake, hd, hr]

theorem shoreTake_of_packet {e : UplinkEntry} {left : List UplinkEntry} (hd : (s.port p).due = [])
    (hr : (s.port p).reply = none) (hq : (s.port p).txQueue = e :: left) :
    shoreTake p s = takeUplink p e left s := by
  simp only [shoreTake, hd, hr, hq]

theorem shoreTake_of_nothing (hd : (s.port p).due = []) (hr : (s.port p).reply = none)
    (hq : (s.port p).txQueue = []) : shoreTake p s = s := by
  simp only [shoreTake, hd, hr, hq]

/-! ## Due frames and probes (R12, R120, R121) -/

theorem idleRestarted_eq (v : Psv) : idleRestarted v =
    { v with idleTimer := if v.state = .up then some 50 else v.idleTimer } := by
  unfold idleRestarted
  split <;> rfl

/-- A port and a path are written apart. -/
theorem setPath_setPort (s : State) (p q : Path) (v : Psv) (x : ShorePort) :
    (s.setPath q v).setPort p x = (s.setPort p x).setPath q v := rfl

theorem takeSupervision_eq (d : Due) (left : List Due) (s : State) : takeSupervision p d left s =
    (s.setPort p { s.port p with
      due := left
      transmitter := some { dst := destination (s.port p).partner, body := dueBytes p s d }
      counters := { (s.port p).counters with
        txSupervision := (s.port p).counters.txSupervision + 1 } }).setPath p
      (idleRestarted (dueTaken s.clocks.stamp d (s.path p))) := by
  unfold takeSupervision
  dsimp only
  rw [shoreSend_eq]
  simp only [State.modPort, State.modPath, State.countShore]
  simp [setPath_setPort]

theorem takeShoreReply_eq (r : Reply) (s : State) : takeShoreReply p r s =
    (s.setPort p { s.port p with
      reply := none
      transmitter := some { dst := destination (s.port p).partner, body := replyBytes r }
      counters := { (s.port p).counters with txReply := (s.port p).counters.txReply + 1 } }).setPath p
      (idleRestarted (s.path p)) := by
  unfold takeShoreReply
  dsimp only
  rw [shoreSend_eq]
  simp only [State.modPort, State.countShore]
  simp

theorem skipUsed_of_free {used : List (BitVec 8)} {id : BitVec 8} (n : Nat) (h : id ∉ used) :
    skipUsed used n id = id := by
  cases n with
  | zero => rfl
  | succ n => exact if_neg h

theorem advanceId_nextId {v : Psv} (h : v.nextId + 1 ∉ idsInUse v) : (advanceId v).nextId = v.nextId + 1 :=
  skipUsed_of_free 256 h

theorem makeRoom_of_room {v : Psv} (h : v.outstanding.length < 8) : makeRoom v = v := if_pos h

/-- The oldest of eight outstanding probes is lost (R121). -/
theorem makeRoom_of_full {v : Psv} (h : 8 ≤ v.outstanding.length) : makeRoom v = { v with
    outstanding := v.outstanding.drop 1
    losses := v.losses + 1
    lossWindow := if v.state = .up then (true :: v.lossWindow).take 32 else v.lossWindow } := by
  rw [makeRoom, if_neg (show ¬ v.outstanding.length < Config.outstandingMax from h.not_gt), resolveLost_eq]

theorem makeRoom_rest (v : Psv) : { makeRoom v with outstanding := [], losses := 0, lossWindow := [] } =
    { v with outstanding := [], losses := 0, lossWindow := [] } := by
  rcases Nat.lt_or_ge v.outstanding.length 8 with h | h
  · rw [makeRoom_of_room h]
  · rw [makeRoom_of_full h]

/-- The entry of a steady probe as it joins the outstanding list (R120). -/
def probeEntry (stamp : BitVec 32) (v : Psv) : Probe :=
  { id := v.nextId, stamp := stamp
    left := v.config.probeTimeout * (10 * v.config.prescale * v.config.postscale) }

/-- A steady probe is given its id, its timestamp and its deadline, and joins the list (R120, R121). -/
theorem takeSteadyProbe_eq (stamp : BitVec 32) (v : Psv) : takeSteadyProbe stamp v = advanceId { makeRoom v with
    outstanding := (makeRoom v).outstanding ++ [probeEntry stamp v], probes := v.probes + 1 } := by
  have hrest := makeRoom_rest v
  have hid : (makeRoom v).nextId = v.nextId := (congrArg Psv.nextId hrest :)
  have hprobes : (makeRoom v).probes = v.probes := (congrArg Psv.probes hrest :)
  unfold takeSteadyProbe probeEntry
  dsimp only
  rw [hid, hprobes, makeRoom_config]
  rfl

theorem takeSurveyProbe_of_inFlight {run : SurveyRun} {v : Psv} (k : Fin 8) (stamp : BitVec 32)
    (h : v.survey = .inFlight run) : takeSurveyProbe k stamp v = advanceId { v with
      survey := .inFlight { run with
        entries := run.entries.set k.val (.inFlight v.nextId stamp
          (v.config.probeTimeout * (10 * v.config.prescale * v.config.postscale))) }
      probes := v.probes + 1 } := by
  simp only [takeSurveyProbe, h]
  rfl

theorem dueTaken_of_other {d : Due} (stamp : BitVec 32) (v : Psv) (h1 : d ≠ .probe)
    (h2 : ∀ k : Fin 8, d ≠ .surveyProbe k) : dueTaken stamp d v = v := by
  cases d with
  | probe => exact absurd rfl h1
  | surveyProbe k => exact absurd rfl (h2 k)
  | pathOpen => rfl
  | echo id value => rfl
  | fill => rfl
  | pathSwap a => rfl

/-- A path after its steady probe is taken (R120, R121, R123). -/
theorem steadyProbe_leaves (stamp : BitVec 32) (v : Psv) :
    let w := idleRestarted (takeSteadyProbe stamp v)
    w.probes = v.probes + 1 ∧
      (v.nextId + 1 ∉ idsInUse w → w.nextId = v.nextId + 1) ∧
      w.outstanding = (makeRoom v).outstanding ++ [probeEntry stamp v] ∧
      w.losses = (makeRoom v).losses ∧ w.lossWindow = (makeRoom v).lossWindow ∧
      { w with outstanding := [], losses := 0, lossWindow := [], nextId := 0, probes := 0 } =
        { idleRestarted v with outstanding := [], losses := 0, lossWindow := [], nextId := 0, probes := 0 } := by
  intro w
  have hrest := makeRoom_rest v
  have hid : (makeRoom v).nextId = v.nextId := (congrArg Psv.nextId hrest :)
  have hw : w = _ := (congrArg idleRestarted (takeSteadyProbe_eq stamp v)).trans (idleRestarted_eq _)
  rw [hw]
  refine ⟨rfl, fun hfree => ?_, rfl, rfl, rfl, ?_⟩
  · rw [← hid] at hfree ⊢
    exact advanceId_nextId hfree
  · rw [idleRestarted_eq]
    exact congrArg (fun x : Psv => { x with
      idleTimer := if x.state = PathState.up then some 50 else x.idleTimer, nextId := 0, probes := 0 }) hrest

/-- A path after a probe of its survey is taken (R116, R120, R123). -/
theorem surveyProbe_leaves {run : SurveyRun} {v : Psv} (k : Fin 8) (stamp : BitVec 32)
    (h : v.survey = .inFlight run) :
    let w := idleRestarted (takeSurveyProbe k stamp v)
    (v.nextId + 1 ∉ idsInUse w → w.nextId = v.nextId + 1) ∧
      w = { idleRestarted v with
        nextId := w.nextId
        probes := v.probes + 1
        survey := .inFlight { run with
          entries := run.entries.set k.val (.inFlight v.nextId stamp
            (v.config.probeTimeout * (10 * v.config.prescale * v.config.postscale))) } } := by
  intro w
  have hw : w = _ :=
    (congrArg idleRestarted (takeSurveyProbe_of_inFlight k stamp h)).trans (idleRestarted_eq _)
  rw [hw]
  refine ⟨fun hfree => advanceId_nextId hfree, ?_⟩
  rw [idleRestarted_eq]
  rfl

/-! ## The head packet (R11, R49) -/

section Packet

variable {i : Nat} {e : UplinkEntry} {left : List UplinkEntry}

/-- The head packet has left the queue, and its buffer has returned (R11). -/
def packetTaken (p : Path) (left : List UplinkEntry) (s : State) : State :=
  (s.setPort p { s.port p with txQueue := left }).setFreeBuffers (s.freeBuffers + 1)

theorem packetTaken_port_self (p : Path) (left : List UplinkEntry) (s : State) :
    (packetTaken p left s).port p = { s.port p with txQueue := left } :=
  State.setPort_port_self _ _ _

theorem packetTaken_port_ne {q : Path} (left : List UplinkEntry) (s : State) (h : q ≠ p) :
    (packetTaken p left s).port q = s.port q := State.setPort_port_ne _ _ h

theorem takeUplink_of_stale (h : lookupTag s e.tag = none) : takeUplink p e left s =
    (packetTaken p left s).countShore p (fun c => { c with dropStaleTag := c.dropStaleTag + 1 }) := by
  have hstale : lookupTag ((s.modPort p (fun x => { x with txQueue := left })).returnBuffers 1) e.tag = none := h
  rw [takeUplink, hstale]
  rfl

theorem takeUplink_of_known (h : lookupTag s e.tag = some i) :
    takeUplink p e left s = takeAdmitted p i e (owedWork i (packetTaken p left s)) := by
  have hknown : lookupTag ((s.modPort p (fun x => { x with txQueue := left })).returnBuffers 1) e.tag = some i := h
  rw [takeUplink, hknown]
  rfl

theorem takeAdmitted_of_refused {why : Refused} (h : admission true s (s.visitor i) = some why) :
    takeAdmitted p i e s = blockPacket i why s := by
  simp only [takeAdmitted, h]

theorem takeAdmitted_of_ceiling (h : admission true s (s.visitor i) = none)
    (hc : (charge i e.length .up s).2 = false) : takeAdmitted p i e s = (charge i e.length .up s).1 := by
  simp [takeAdmitted, h, hc]

theorem takeAdmitted_of_charged (h : admission true s (s.visitor i) = none)
    (hc : (charge i e.length .up s).2 = true) :
    takeAdmitted p i e s = sendData p e (charge i e.length .up s).1 := by
  simp [takeAdmitted, h, hc]

theorem sendData_eq (p : Path) (e : UplinkEntry) (s : State) : sendData p e s =
    ((s.setUplinkSeq (s.uplinkSeq + 1)).setPort p { s.port p with
      transmitter := some { dst := destination (s.port p).partner, body := dataBytes p s.uplinkSeq e }
      counters := { (s.port p).counters with txData := (s.port p).counters.txData + 1 } }).setPath p
      (idleRestarted (s.path p)) := by
  unfold sendData
  dsimp only
  rw [shoreSend_eq]
  simp only [State.countShore]
  simp

/-- Of the record queue a charge can move only what a VOLUME close does (R49). -/
theorem charge_rcq (i n : Nat) (d : Direction) (s : State) : (charge i n d s).1.rcq = (volumeClose i n d s).rcq := by
  unfold charge
  dsimp only
  split
  · rfl
  · split
    · rfl
    · exact writeCharge_rcq i n d _ _ _

theorem takeAdmitted_rcq (h : admission true s (s.visitor i) = none) :
    (takeAdmitted p i e s).rcq = (volumeClose i e.length .up s).rcq := by
  cases hc : (charge i e.length .up s).2 with
  | false => rw [takeAdmitted_of_ceiling h hc, charge_rcq]
  | true => rw [takeAdmitted_of_charged h hc, sendData_eq, ← charge_rcq]; rfl

theorem volumeClose_of_full {r : OpenRecord} {n : Nat} {d : Direction} (hr : (s.visitor i).openRecord = some r)
    (hfull : volumeFull r n d = true) : volumeClose i n d s = (closeRecord i .volume s).1 := by
  simp [volumeClose, hr, hfull]

/-- The port, the paths and the sequence of a frame sent after a charge (R11). -/
theorem sendData_leaves {u : State} (hshore : u.shore = (packetTaken p left s).shore) (hpsv : u.psv = s.psv)
    (hseq : u.uplinkSeq = s.uplinkSeq) :
    (sendData p e u).port p = { s.port p with
      txQueue := left
      transmitter := some { dst := destination (s.port p).partner, body := dataBytes p s.uplinkSeq e }
      counters := { (s.port p).counters with txData := (s.port p).counters.txData + 1 } } ∧
    (sendData p e u).path p = idleRestarted (s.path p) ∧
    (∀ q : Path, q ≠ p → (sendData p e u).port q = s.port q ∧ (sendData p e u).path q = s.path q) ∧
    (sendData p e u).uplinkSeq = s.uplinkSeq + 1 := by
  have hport : ∀ q, u.port q = (packetTaken p left s).port q := fun q => congrArg (fun x => x.get q) hshore
  have hpath : ∀ q, u.path q = s.path q := fun q => congrArg (fun x => x.get q) hpsv
  rw [sendData_eq, hport p, packetTaken_port_self, hpath p, hseq]
  refine ⟨State.setPort_port_self _ _ _, State.setPath_path_self _ _ _, fun q hq => ⟨?_, ?_⟩, rfl⟩
  · exact (State.setPort_port_ne _ _ hq).trans ((hport q).trans (packetTaken_port_ne left s hq))
  · exact (State.setPath_path_ne _ _ hq).trans (hpath q)

theorem sendData_frame (p : Path) (e : UplinkEntry) (s : State) : sendData p e s = { s with
    shore := (sendData p e s).shore, psv := (sendData p e s).psv, uplinkSeq := (sendData p e s).uplinkSeq } := by
  rw [sendData_eq]
  rfl

end Packet

/-! ## A packet of an unmarked visitor that can pay (R11, R49) -/

section Payable

variable {i : Nat} {e : UplinkEntry} {left : List UplinkEntry} {r : OpenRecord}

theorem charge_written {n : Nat} {d : Direction} (hr : (s.visitor i).openRecord = some r)
    (hroom : volumeFull r n d = false) (hpays : chargedAfter (s.visitor i) r n ≤ 2 ^ 48 - 1) :
    charge i n d s = (writeCharge i n d (s.visitor i) r s, true) := by
  rw [charge_of_room hr hroom, if_neg (show ¬ Config.chargedMax < _ from hpays.not_gt)]

theorem shoreTake_paid (hd : (s.port p).due = []) (hrep : (s.port p).reply = none)
    (hq : (s.port p).txQueue = e :: left) (htag : lookupTag s e.tag = some i)
    (hm : (s.visitor i).reviewMark = false) (hc : (s.visitor i).closeMark = false)
    (ha : admission true s (s.visitor i) = none) (hr : (s.visitor i).openRecord = some r)
    (hroom : volumeFull r e.length .up = false) (hpays : chargedAfter (s.visitor i) r e.length ≤ 2 ^ 48 - 1) :
    shoreTake p s = sendData p e (writeCharge i e.length .up (s.visitor i) r (packetTaken p left s)) := by
  have hwritten := charge_written (s := packetTaken p left s) hr hroom hpays
  have hadmitted : admission true (packetTaken p left s) ((packetTaken p left s).visitor i) = none := ha
  rw [shoreTake_of_packet hd hrep hq, takeUplink_of_known htag,
    owedWork_of_unmarked (s := packetTaken p left s) hc hm,
    takeAdmitted_of_charged hadmitted (by rw [hwritten]), hwritten]
  rfl

end Payable

/-- Settles O19: the choice is made once; a due frame and a packet sent each write one port and one path. -/
theorem shoreTakesItsNextFrame : Obligations.ShoreTakesItsNextFrame := by
  refine ⟨fun p s => ⟨fun h => ?nothing, fun r hc ht hd hr => ?reply⟩, fun p d left s hc ht hd => ?due,
    fun p e left s hc ht hd hrep hq => ⟨fun htag => ?stale, fun i u htag hu => ?known⟩,
    fun p e left i r s hc ht hd hrep hq htag hm hcm ha hr hroom hpays => ?paid⟩
  case nothing =>
    show execShoreTransmitTake p s = _
    rcases h with h | h | ⟨hd, hr, hq⟩
    · simp [execShoreTransmitTake, h]
    · simp [execShoreTransmitTake, h]
    · rw [execShoreTransmitTake, shoreTake_of_nothing hd hr hq, ite_self]
  case reply =>
    rw [exec_shoreTransmitTake hc ht, shoreTake_of_reply hd hr, takeShoreReply_eq]
  case due =>
    rw [exec_shoreTransmitTake hc ht, shoreTake_of_due hd, takeSupervision_eq]
    have hpath : ∀ (u : State) (v : Psv), (u.setPath p v).path p = v := fun u v => State.setPath_path_self u p v
    refine ⟨_, rfl, ?_, fun q hq => ⟨State.setPort_port_ne _ _ hq, State.setPath_path_ne _ _ hq⟩, rfl,
      fun h1 h2 => ?_, fun hprobe => ?_, fun k run hk hrun => ?_⟩
    · refine (State.setPort_port_self _ _ _).trans ?_
      cases d <;> rfl
    · rw [hpath, dueTaken_of_other _ _ h1 h2]
    · rw [hpath, hprobe]
      obtain ⟨hprobes, hid, hlist, hlosses, hwindow, hrest⟩ := steadyProbe_leaves s.clocks.stamp (s.path p)
      refine ⟨hprobes, hid, fun e he => ⟨fun hroom => ?_, fun hfull => ?_⟩, hrest⟩
      · rw [makeRoom_of_room hroom] at hlist hlosses hwindow
        exact ⟨he ▸ hlist, hlosses, hwindow⟩
      · rw [makeRoom_of_full hfull] at hlist hlosses hwindow
        exact ⟨he ▸ hlist, hlosses, hwindow⟩
    · rw [hpath, hk]
      exact surveyProbe_leaves k s.clocks.stamp hrun
  case stale =>
    rw [exec_shoreTransmitTake hc ht, shoreTake_of_packet hd hrep hq, takeUplink_of_stale htag, State.countShore,
      packetTaken_port_self]
    exact congrArg Host.Outcome.next (congrArg (fun x => State.setFreeBuffers x (s.freeBuffers + 1))
      (State.setPort_setPort s p _ _))
  case known =>
    have hu' : u = owedWork i (packetTaken p left s) := hu
    rw [exec_shoreTransmitTake hc ht, shoreTake_of_packet hd hrep hq, takeUplink_of_known htag, ← hu']
    refine ⟨fun why ha => congrArg _ (takeAdmitted_of_refused ha), fun ha hceiling =>
      congrArg _ (takeAdmitted_of_ceiling ha hceiling), fun ha hcharged => ?_, fun r ha hr hfull => ?_⟩
    · rw [takeAdmitted_of_charged ha hcharged]
      have hshore : (charge i e.length .up u).1.shore = (packetTaken p left s).shore := by
        rw [charge_shore, hu', owedWork_shore]
      have hpsv : (charge i e.length .up u).1.psv = s.psv := by rw [charge_psv, hu', owedWork_psv]; rfl
      have hseq : (charge i e.length .up u).1.uplinkSeq = s.uplinkSeq := by
        rw [charge_uplinkSeq, hu', owedWork_uplinkSeq]
        rfl
      obtain ⟨hport, hpath, hothers, hnext⟩ := sendData_leaves (e := e) hshore hpsv hseq
      exact ⟨_, rfl, hport, hpath, hothers, hnext, sendData_frame p e _⟩
    · exact ⟨_, rfl, (takeAdmitted_rcq ha).trans (by rw [volumeClose_of_full hr hfull])⟩
  case paid =>
    rw [exec_shoreTransmitTake hc ht, shoreTake_paid hd hrep hq htag hm hcm ha hr hroom hpays]
    have hvtb := writeCharge_vtb i e.length .up (s.visitor i) r (packetTaken p left s)
    have hframe := writeCharge_frame i e.length .up (s.visitor i) r (packetTaken p left s)
    obtain ⟨hport, -, hothers, hnext⟩ := sendData_leaves (s := s) (left := left) (e := e)
      (u := writeCharge i e.length .up (s.visitor i) r (packetTaken p left s)) (by rw [writeCharge_shore])
      (by rw [writeCharge_psv]; rfl) (by rw [writeCharge_uplinkSeq]; rfl)
    have hsent := sendData_frame p e (writeCharge i e.length .up (s.visitor i) r (packetTaken p left s))
    have hvisitor : ∀ j, (sendData p e (writeCharge i e.length .up (s.visitor i) r (packetTaken p left s))).visitor j =
        ((packetTaken p left s).setVisitor i (visitorCharged (s.visitor i) r e.length .up)).visitor j := by
      intro j
      rw [hsent]
      exact congrArg (fun x : Vtb => tableRead Visitor.freeEntry x.entries j) hvtb
    refine ⟨_, rfl, by rw [hport], ?_, hnext, by rw [hport], by rw [hport],
      (hvisitor i).trans (setVisitor_visitor_of_open rfl), fun j hj => (hvisitor j).trans
        (setVisitor_visitor_ne _ _ hj), hothers, ?_⟩
    · rw [hsent]
      exact writeCharge_freeBuffers ..
    · rw [sendData_eq, hframe]
      rfl

end Sys2Proof.Machine
end

section
/-! SUPPORT. A HEARTBEAT: the move of its cell head, the targets worked out again, and the check of the stated level
(R158, R162, R164). -/

namespace Sys2Proof.Machine

variable {c d : Cell} {level : Nat} {s : State}

/-! ## The move toward SERVING (R158) -/

/-- The state of a cell head after a heartbeat. -/
def heartbeatState (h : CellHead) : CellState :=
  match h.state with
  | .absent => if h.join ≤ 1 then .serving else .joining
  | .lost => if h.join ≤ 1 then .serving else .joining
  | .joining => if h.join ≤ h.joinCount + 1 then .serving else .joining
  | .serving => .serving

/-- JOIN_COUNT of a cell head after a heartbeat. -/
def heartbeatCount (h : CellHead) : Nat :=
  match h.state with
  | .absent => 1
  | .lost => 1
  | .joining => h.joinCount + 1
  | .serving => h.joinCount

/-- A heartbeat advances the count and then, at JOIN, enters SERVING; the table gives the outcome of both (R158). -/
theorem heartbeatJoin_advance (u : Cvu) (h : CellHead) : heartbeatJoin (heartbeatAdvance u h) = { h with
    state := heartbeatState h
    joinCount := heartbeatCount h
    hbTimer := some (u.hbTimeout * 100)
    joins := h.joins + if h.state ≠ .serving ∧ heartbeatState h = .serving then 1 else 0 } := by
  have hjoin : ∀ x : CellHead, x.state = .joining → heartbeatJoin x = { x with
      state := if x.join ≤ x.joinCount then .serving else .joining
      joins := x.joins + if x.join ≤ x.joinCount then 1 else 0 } := by
    intro x hx
    by_cases hc : x.join ≤ x.joinCount
    · simp [heartbeatJoin, hx, hc]
    · simp [heartbeatJoin, hc, ← hx]
  cases hs : h.state with
  | absent =>
    rw [heartbeatAdvance, hs, hjoin _ rfl]
    by_cases hc : h.join ≤ 1 <;> simp [heartbeatState, heartbeatCount, heartbeatStart, hs, hc]
  | lost =>
    rw [heartbeatAdvance, hs, hjoin _ rfl]
    by_cases hc : h.join ≤ 1 <;> simp [heartbeatState, heartbeatCount, heartbeatStart, hs, hc]
  | joining =>
    have hadvance : heartbeatAdvance u h = { h with
        joinCount := h.joinCount + 1, hbTimer := heartbeatStart u } := by simp only [heartbeatAdvance, hs]
    have hadvanced := hjoin { h with joinCount := h.joinCount + 1, hbTimer := heartbeatStart u } hs
    rw [hadvance, hadvanced]
    by_cases hc : h.join ≤ h.joinCount + 1 <;> simp [heartbeatState, heartbeatCount, heartbeatStart, hs, hc]
  | serving => simp [heartbeatAdvance, heartbeatJoin, heartbeatState, heartbeatCount, heartbeatStart, hs]

/-- The same for a heartbeat that states a level. -/
theorem heartbeatJoin_reported (u : Cvu) (h : CellHead) (level : Nat) :
    heartbeatJoin (heartbeatAdvance u { h with reportedLevel := level, heartbeats := h.heartbeats + 1 }) = { h with
      reportedLevel := level
      heartbeats := h.heartbeats + 1
      state := heartbeatState h
      joinCount := heartbeatCount h
      hbTimer := some (u.hbTimeout * 100)
      joins := h.joins + if h.state ≠ .serving ∧ heartbeatState h = .serving then 1 else 0 } := by
  rw [heartbeatJoin_advance]
  rfl

/-! ## Levels (R162, R164) -/

/-- What a heartbeat's targets and level check do not write of a cell head. -/
def unleveled (h : CellHead) : CellHead :=
  { h with
    target := 0, pendingLevel := 0, activeLevel := 0, grantOwed := false, decreases := 0, levelMismatches := 0 }

theorem unleveled_applyTarget (n : Nat) (h : CellHead) : unleveled (applyTarget n h) = unleveled h := by
  unfold applyTarget
  split <;> rfl

theorem applyTarget_mismatches (n : Nat) (h : CellHead) :
    (applyTarget n h).levelMismatches = h.levelMismatches := by
  unfold applyTarget
  split <;> rfl

theorem levelCheck_eq (n : Nat) (h : CellHead) : levelCheck n h = { h with
    levelMismatches := h.levelMismatches + if h.activeLevel < n then 1 else 0
    grantOwed := h.grantOwed || decide (h.activeLevel < n) } := by
  unfold levelCheck
  split
  · next hn => simp [hn]
  · next hn => simp [hn]

theorem unleveled_levelCheck (n : Nat) (h : CellHead) : unleveled (levelCheck n h) = unleveled h := by
  rw [levelCheck_eq]
  rfl

theorem standing_levelCheck (n : Nat) (h : CellHead) : standing (levelCheck n h) = standing h := by
  rw [levelCheck_eq]
  rfl

/-! ## The heartbeat as a whole (R158) -/

/-- The cell head of a heartbeat once it has moved, before any target is worked out again. -/
def beaten (c : Cell) (level : Nat) (s : State) : CellHead :=
  heartbeatJoin (heartbeatAdvance s.cvu
    { s.cell c with reportedLevel := level, heartbeats := (s.cell c).heartbeats + 1 })

/-- The state of a heartbeat's step before the check of the stated level. -/
def settled (c : Cell) (level : Nat) (s : State) : State :=
  if (beaten c level s).state ≠ (s.cell c).state then retarget (s.setCell c (beaten c level s))
  else s.setCell c (beaten c level s)

theorem heartbeat_eq (c : Cell) (level : Nat) (s : State) : heartbeat c level s =
    (settled c level s).setCell c (levelCheck level ((settled c level s).cell c)) := rfl

theorem settled_of_same (h : (beaten c level s).state = (s.cell c).state) :
    settled c level s = s.setCell c (beaten c level s) := if_neg (not_not.2 h)

theorem settled_of_change (h : (beaten c level s).state ≠ (s.cell c).state) :
    settled c level s = retarget (s.setCell c (beaten c level s)) := if_pos h

theorem heartbeat_cell_self (c : Cell) (level : Nat) (s : State) :
    (heartbeat c level s).cell c = levelCheck level ((settled c level s).cell c) :=
  State.setCell_cell_self _ _ _

theorem heartbeat_cell_ne (hd : d ≠ c) : (heartbeat c level s).cell d = (settled c level s).cell d :=
  State.setCell_cell_ne _ _ hd

/-- The cell head's own fields after a heartbeat are those of its move. -/
theorem heartbeat_unleveled (c : Cell) (level : Nat) (s : State) :
    unleveled ((heartbeat c level s).cell c) = unleveled (beaten c level s) := by
  rw [heartbeat_cell_self, unleveled_levelCheck]
  by_cases h : (beaten c level s).state = (s.cell c).state
  · rw [settled_of_same h, State.setCell_cell_self]
  · rw [settled_of_change h, retarget_cell, unleveled_applyTarget, State.setCell_cell_self]

/-- The move, in the cell head that a heartbeat leaves (R158). -/
theorem heartbeat_moves (c : Cell) (level : Nat) (s : State) :
    ((heartbeat c level s).cell c).reportedLevel = level ∧
    ((heartbeat c level s).cell c).heartbeats = (s.cell c).heartbeats + 1 ∧
    ((heartbeat c level s).cell c).hbTimer = some (s.cvu.hbTimeout * 100) ∧
    ((heartbeat c level s).cell c).state = heartbeatState (s.cell c) ∧
    ((heartbeat c level s).cell c).joinCount = heartbeatCount (s.cell c) ∧
    ((heartbeat c level s).cell c).joins = (s.cell c).joins +
      (if (s.cell c).state ≠ .serving ∧ heartbeatState (s.cell c) = .serving then 1 else 0) ∧
    ((heartbeat c level s).cell c).address = (s.cell c).address ∧
    ((heartbeat c level s).cell c).losses = (s.cell c).losses := by
  have hkept := heartbeat_unleveled c level s
  rw [beaten, heartbeatJoin_reported] at hkept
  generalize (heartbeat c level s).cell c = x at hkept ⊢
  exact ⟨(congrArg CellHead.reportedLevel hkept :), (congrArg CellHead.heartbeats hkept :),
    (congrArg CellHead.hbTimer hkept :), (congrArg CellHead.state hkept :), (congrArg CellHead.joinCount hkept :),
    (congrArg CellHead.joins hkept :), (congrArg CellHead.address hkept :), (congrArg CellHead.losses hkept :)⟩

theorem beaten_state (c : Cell) (level : Nat) (s : State) :
    (beaten c level s).state = heartbeatState (s.cell c) := by
  rw [beaten, heartbeatJoin_reported]

theorem settled_mismatches (c : Cell) (level : Nat) (s : State) :
    ((settled c level s).cell c).levelMismatches = (s.cell c).levelMismatches := by
  have hbeaten : (beaten c level s).levelMismatches = (s.cell c).levelMismatches := by
    rw [beaten, heartbeatJoin_reported]
  by_cases h : (beaten c level s).state = (s.cell c).state
  · rw [settled_of_same h, State.setCell_cell_self, hbeaten]
  · rw [settled_of_change h, retarget_cell, applyTarget_mismatches, State.setCell_cell_self, hbeaten]

/-- The stated level is checked against the active level at the end of the step (R164). -/
theorem heartbeat_checks (c : Cell) (level : Nat) (s : State) :
    (((heartbeat c level s).cell c).activeLevel < level → ((heartbeat c level s).cell c).grantOwed = true ∧
      ((heartbeat c level s).cell c).levelMismatches = (s.cell c).levelMismatches + 1) ∧
    (level ≤ ((heartbeat c level s).cell c).activeLevel →
      ((heartbeat c level s).cell c).levelMismatches = (s.cell c).levelMismatches) := by
  rw [heartbeat_cell_self, levelCheck_eq, ← settled_mismatches c level s]
  refine ⟨fun h => ?_, fun h => ?_⟩
  · have hlow : ((settled c level s).cell c).activeLevel < level := h
    simp [hlow]
  · have hhigh : ¬ ((settled c level s).cell c).activeLevel < level := Nat.not_lt.2 h
    simp [hhigh]

/-- With no change of state the levels and the other cell heads stand (R162). -/
theorem heartbeat_of_same (h : (beaten c level s).state = (s.cell c).state) :
    ((heartbeat c level s).cell c).activeLevel = (s.cell c).activeLevel ∧
      ∀ d : Cell, d ≠ c → (heartbeat c level s).cell d = s.cell d := by
  refine ⟨?_, fun d hd => ?_⟩
  · rw [heartbeat_cell_self, levelCheck_eq, settled_of_same h, State.setCell_cell_self, beaten, heartbeatJoin_reported]
  · rw [heartbeat_cell_ne hd, settled_of_same h, State.setCell_cell_ne _ _ hd]

/-- What the check of the level leaves of every cell head's levels. -/
theorem heartbeat_levels (c : Cell) (level : Nat) (s : State) (d : Cell) :
    ((heartbeat c level s).cell d).target = ((settled c level s).cell d).target ∧
    ((heartbeat c level s).cell d).pendingLevel = ((settled c level s).cell d).pendingLevel ∧
    ((heartbeat c level s).cell d).activeLevel = ((settled c level s).cell d).activeLevel ∧
    standing ((heartbeat c level s).cell d) = standing ((settled c level s).cell d) := by
  by_cases hd : d = c
  · rw [hd, heartbeat_cell_self]
    refine ⟨?_, ?_, ?_, standing_levelCheck _ _⟩
    all_goals rw [levelCheck_eq]
  · rw [heartbeat_cell_ne hd]
    exact ⟨rfl, rfl, rfl, rfl⟩

/-- A change of state works out every target again (R162). -/
theorem heartbeat_of_change (h : (beaten c level s).state ≠ (s.cell c).state) (d : Cell) :
    ((heartbeat c level s).cell d).target = targetOf (currentTerms s).cap (heartbeat c level s).cvu d ∧
      ((heartbeat c level s).cell d).pendingLevel = ((heartbeat c level s).cell d).target ∧
      ((heartbeat c level s).cell d).activeLevel =
        min (s.cell d).activeLevel ((heartbeat c level s).cell d).target := by
  obtain ⟨htarget, hpending, hactive, -⟩ := heartbeat_levels c level s d
  have hstanding : ∀ e : Cell, standing (settled c level s).cvu.cells[e] =
      standing (heartbeat c level s).cvu.cells[e] := fun e => by
    obtain ⟨-, -, -, hstands⟩ := heartbeat_levels c level s e
    exact hstands.symm
  have hown : ((s.setCell c (beaten c level s)).cell d).activeLevel = (s.cell d).activeLevel := by
    by_cases hd : d = c
    · rw [hd, State.setCell_cell_self, beaten, heartbeatJoin_reported]
    · rw [State.setCell_cell_ne _ _ hd]
  rw [htarget, hpending, hactive, ← targetOf_congr hstanding, settled_of_change h]
  refine ⟨retarget_target (s.setCell c (beaten c level s)) d, ?_, ?_⟩
  · rw [retarget_cell, applyTarget_eq]
  · rw [retarget_cell, applyTarget_eq, ← hown]

theorem heartbeat_state_ne (hd : d ≠ c) : ((heartbeat c level s).cell d).state = (s.cell d).state := by
  by_cases h : (beaten c level s).state = (s.cell c).state
  · rw [(heartbeat_of_same h).2 d hd]
  · rw [heartbeat_cell_ne hd, settled_of_change h, retarget_cell, applyTarget_state, State.setCell_cell_ne _ _ hd]

/-- Of the Coverage Unit a write of a cell head and a retarget move the cell heads alone. -/
theorem setCell_frame (s : State) (c : Cell) (x : CellHead) : { (s.setCell c x).cvu with cells := s.cvu.cells } = s.cvu ∧
    s.setCell c x = { s with cvu := (s.setCell c x).cvu } := ⟨rfl, rfl⟩

theorem settled_frame (c : Cell) (level : Nat) (s : State) :
    { (settled c level s).cvu with cells := s.cvu.cells } = s.cvu ∧
      settled c level s = { s with cvu := (settled c level s).cvu } := by
  by_cases h : (beaten c level s).state = (s.cell c).state
  · rw [settled_of_same h]
    exact setCell_frame s c _
  · rw [settled_of_change h]
    have hretarget : ∀ (u : State) (x : Vector CellHead 16),
        { (retarget u).cvu with cells := x } = { u.cvu with cells := x } := fun u x => by
      simp only [retarget, State.setCvu_cvu, retargetUnder]
    obtain ⟨hcvu, -⟩ := setCell_frame s c (beaten c level s)
    exact ⟨(hretarget _ _).trans hcvu, retarget_frame (s.setCell c (beaten c level s))⟩

/-- Only the cell heads differ after a heartbeat. -/
theorem heartbeat_frame (c : Cell) (level : Nat) (s : State) :
    { (heartbeat c level s).cvu with cells := s.cvu.cells } = s.cvu ∧
      heartbeat c level s = { s with cvu := (heartbeat c level s).cvu } := by
  obtain ⟨hcvu, hframe⟩ := settled_frame c level s
  rw [heartbeat_eq]
  generalize levelCheck level _ = x
  generalize settled c level s = u at hcvu hframe ⊢
  have hset : { (u.setCell c x).cvu with cells := s.cvu.cells } = { u.cvu with cells := s.cvu.cells } := rfl
  refine ⟨hset.trans hcvu, ?_⟩
  rw [hframe]
  rfl

/-! ## The frame that carries it (R1, R184) -/

/-- The state in which a HEARTBEAT is handed to the Coverage Unit: counted, its sender's address learned. -/
def heartbeatAt (f : EthFrame) (s : State) : State :=
  (s.countShip (fun n => { n with rxHeartbeat := n.rxHeartbeat + 1 })).setCell (cellField f.body)
    { s.cell (cellField f.body) with address := some f.src }

theorem heartbeatAt_cell_self (f : EthFrame) (s : State) : (heartbeatAt f s).cell (cellField f.body) =
    { s.cell (cellField f.body) with address := some f.src } := State.setCell_cell_self _ _ _

theorem heartbeatAt_cell_ne {f : EthFrame} (hd : d ≠ cellField f.body) : (heartbeatAt f s).cell d = s.cell d :=
  State.setCell_cell_ne _ _ hd

theorem heartbeatAt_frame (f : EthFrame) (s : State) : { (heartbeatAt f s).cvu with cells := s.cvu.cells } = s.cvu ∧
    heartbeatAt f s = { s with shi := (heartbeatAt f s).shi, cvu := (heartbeatAt f s).cvu } := ⟨rfl, rfl⟩

/-- Two steps of which the first writes the ship port and the cell heads, and the second the cell heads. -/
theorem cells_frame_trans {w t : State} (h1 : { w.cvu with cells := s.cvu.cells } = s.cvu)
    (h2 : w = { s with shi := w.shi, cvu := w.cvu }) (h3 : { t.cvu with cells := w.cvu.cells } = w.cvu)
    (h4 : t = { w with cvu := t.cvu }) : { t.cvu with cells := s.cvu.cells } = s.cvu ∧ t.shi = w.shi ∧
      t = { s with shi := t.shi, cvu := t.cvu } := by
  have hshi : t.shi = w.shi := (congrArg State.shi h4 :)
  refine ⟨?_, hshi, ?_⟩
  · rw [← h1, ← h3]
  · rw [hshi]
    refine h4.trans ?_
    rw [h2]

/-- Settles O15: a HEARTBEAT is a move of its own cell head, a retarget where the state changed, and a level check. -/
theorem heartbeatMovesCellHead : Obligations.HeartbeatMovesCellHead := by
  intro f rest s hcheck htype hbody hlen hcell hlevel henable
  have hown : OwnFrame 0x02 f := ⟨hcheck, htype, by rw [hbody]; rfl⟩
  have hexec : exec (.shipFrameArrival f) s =
      .next (heartbeat (cellField f.body) (byteAt f.body 2) (heartbeatAt f s)) :=
    congrArg _ ((shipArrival_of_heartbeat hown hlen hcell hlevel).trans (if_neg (by simp [henable])))
  obtain ⟨hreported, hbeats, htimer, hstate, hcount, hjoins, haddress, hlosses⟩ :=
    heartbeat_moves (cellField f.body) (byteAt f.body 2) (heartbeatAt f s)
  obtain ⟨hmismatch, hmatch⟩ := heartbeat_checks (cellField f.body) (byteAt f.body 2) (heartbeatAt f s)
  obtain ⟨hcells, hbeat⟩ := heartbeat_frame (cellField f.body) (byteAt f.body 2) (heartbeatAt f s)
  obtain ⟨hcells', hbeat'⟩ := heartbeatAt_frame f s
  obtain ⟨hcvu, hshi, hframe⟩ := cells_frame_trans hcells' hbeat' hcells hbeat
  have hbeaten := beaten_state (cellField f.body) (byteAt f.body 2) (heartbeatAt f s)
  have hsame := heartbeat_of_same (c := cellField f.body) (level := byteAt f.body 2) (s := heartbeatAt f s)
  have hchange := heartbeat_of_change (c := cellField f.body) (level := byteAt f.body 2) (s := heartbeatAt f s)
  have hothers := fun d => heartbeat_state_ne (c := cellField f.body) (d := d) (level := byteAt f.body 2)
    (s := heartbeatAt f s)
  have hne : ∀ d, d ≠ cellField f.body → (heartbeatAt f s).cell d = s.cell d := fun d hd => heartbeatAt_cell_ne hd
  rw [heartbeatAt_cell_self] at hbeats hstate hcount hjoins haddress hlosses hmismatch hmatch hbeaten hsame hchange
  rw [hbeaten] at hsame hchange
  have hlevels : ∀ d, ((heartbeatAt f s).cell d).activeLevel = (s.cell d).activeLevel := fun d => by
    by_cases hd : d = cellField f.body
    · rw [hd, heartbeatAt_cell_self]
    · rw [hne d hd]
  have htimeout : (heartbeatAt f s).cvu.hbTimeout = s.cvu.hbTimeout := rfl
  have hport : (heartbeatAt f s).shi = { s.shi with counters := { s.shi.counters with
      rxHeartbeat := s.shi.counters.rxHeartbeat + 1 } } := rfl
  have hcap : currentTerms (heartbeatAt f s) = currentTerms s := rfl
  rw [htimeout] at htimer
  rw [hport] at hshi
  rw [hcap] at hchange
  generalize heartbeat (cellField f.body) (byteAt f.body 2) (heartbeatAt f s) = t at *
  refine ⟨t, hexec, hreported, hbeats, htimer, hstate, hcount, ?_, haddress, hlosses, hmismatch, hmatch,
    fun h => ?_, fun h d => ?_, fun d hd => (hothers d hd).trans (congrArg CellHead.state (hne d hd)), hcvu, hshi, hframe⟩
  · rw [hstate]
    exact hjoins
  · obtain ⟨hactive, hcells⟩ := hsame (hstate.symm.trans h)
    exact ⟨hactive, fun d hd => (hcells d hd).trans (hne d hd)⟩
  · obtain ⟨htarget, hpending, hactive⟩ := hchange (fun e => h (hstate.trans e)) d
    exact ⟨htarget, hpending, hlevels d ▸ hactive⟩

end Sys2Proof.Machine
end

section
/-! SUPPORT. The restart's pass over the visitors: an entry's review, its RESTART close and its marks, and the end of
the pass (R69, R84, R182). -/

namespace Sys2Proof.Machine

variable {i : Nat} {s : State} {x : RestartRun} {o : OpenRecord}

/-! ## The snapshot of a new record -/

/-- A snapshot goes by the conditions and by the plan, the partner and ROAMING of the entry (R46). -/
theorem openNow_congr {u : State} {v w : Visitor} (hznu : u.znu = s.znu) (hrtu : u.rtu = s.rtu)
    (hpsl : u.psl = s.psl) (hpsv : u.psv = s.psv) (hcfu : u.cfu = s.cfu) (hplan : w.plan = v.plan)
    (hpartner : w.partner = v.partner) (hroaming : w.roaming = v.roaming) : openNow u w = openNow s v := by
  have hprice : priceNow u w = priceNow s v := by
    simp only [priceNow, activeRow, activeSurcharge, State.path, currentTerms, hznu, hrtu, hpsl, hpsv, hplan,
      hpartner, hroaming]
  unfold openNow
  rw [hprice]
  simp only [activeRow, currentTerms, hznu, hrtu, hpsl, hcfu, hplan, hroaming]

/-! ## One entry of the pass (R69) -/

theorem exec_restartEntryStep (hx : s.cfu.restart = some x) (hi : nextRestartEntry x.nextIndex s = some i) :
    exec .restartEntryStep s = .next (restartEntry i x s) := by
  show execRestartEntryStep s = _
  simp only [execRestartEntryStep, hx, hi]

/-- The review and the close of an entry, of which the rest of its step goes on. -/
def restartWork (i : Nat) (s : State) : State × CloseOutcome := restartClose i (review i s)

theorem restartWork_of_closed (h : lifecycleOpen ((review i s).visitor i).lifecycle = false) :
    restartWork i s = (review i s, .empty) := if_neg (by simp [h])

theorem restartWork_of_open (h : lifecycleOpen ((review i s).visitor i).lifecycle = true) :
    restartWork i s = closeRecord i .restart (review i s) := if_pos h

theorem restartWork_cfu (i : Nat) (s : State) : (restartWork i s).1.cfu = s.cfu := by
  unfold restartWork restartClose
  split <;> simp

/-- What one entry's step leaves, from its review and its close (R69, R182). -/
theorem restartEntry_leaves (i : Nat) (x : RestartRun) (s : State) :
    (restartEntry i x s).rcq = (restartWork i s).1.rcq ∧ (restartEntry i x s).ntu = (restartWork i s).1.ntu ∧
      (restartEntry i x s).cfu = { s.cfu with restart := some (restartCounted i (restartWork i s).2 x) } ∧
      ∀ j : Nat, (restartEntry i x s).visitor j = (clearMarks i (restartWork i s).1).visitor j := by
  have hentry : restartEntry i x s = (refreshEngine (clearMarks i (restartWork i s).1)).setCfu
      { (refreshEngine (clearMarks i (restartWork i s).1)).cfu with
        restart := some (restartCounted i (restartWork i s).2 x) } := rfl
  have hcfu : (refreshEngine (clearMarks i (restartWork i s).1)).cfu = s.cfu := by
    rw [refreshEngine_frame]
    exact restartWork_cfu i s
  rw [hentry, hcfu]
  refine ⟨?_, ?_, rfl, fun j => ?_⟩
  · exact (refreshEngine_rcq _).trans rfl
  · exact (refreshEngine_ntu _).trans rfl
  · exact refreshEngine_visitor _ j

theorem restartEntry_frame (i : Nat) (x : RestartRun) (s : State) : restartEntry i x s = { s with
    vtb := (restartEntry i x s).vtb, rcq := (restartEntry i x s).rcq, rse := (restartEntry i x s).rse,
    cfu := (restartEntry i x s).cfu, ntu := (restartEntry i x s).ntu } := by
  unfold restartEntry restartClose
  split
  · apply State.eq_of_blocks <;> simp
  · apply State.eq_of_blocks <;> simp

theorem restartEntry_visitor_ne {j : Nat} (hj : j ≠ i) : (restartEntry i x s).visitor j = s.visitor j := by
  obtain ⟨-, -, -, hvisitor⟩ := restartEntry_leaves i x s
  rw [hvisitor]
  refine (setVisitor_visitor_ne _ _ hj).trans ?_
  unfold restartWork restartClose
  split
  · rw [closeRecord_visitor_ne _ _ hj, review_visitor_ne s hj]
  · rw [review_visitor_ne s hj]

/-! ## A PROVISIONED entry -/

theorem review_of_no_record (h : (s.visitor i).openRecord = none) : review i s = evaluated s i := by
  unfold review
  dsimp only
  split
  · rfl
  · next r hr => exact absurd (h.symm.trans hr) (by simp)

/-- The step of a PROVISIONED entry is its evaluation (R69). -/
theorem restartEntry_of_provisioned (hl : (s.visitor i).lifecycle = .provisioned)
    (ho : (s.visitor i).openRecord = none) :
    (restartEntry i x s).visitor i = { s.visitor i with
      roaming := roamingNow s (s.visitor i).partner, reviewMark := false, closeMark := false } ∧
    (restartEntry i x s).cfu.restart = some { x with nextIndex := i + 1 } ∧
    (restartEntry i x s).rse.reviews = s.rse.reviews + 1 ∧
    (restartEntry i x s).rcq = s.rcq ∧ (restartEntry i x s).ntu = s.ntu := by
  have hfree : (reviewed s i).lifecycle ≠ .free := by
    show (s.visitor i).lifecycle ≠ .free
    rw [hl]
    decide
  have hself : (evaluated s i).visitor i = reviewed s i := evaluated_visitor (ne_freeEntry_of_lifecycle hfree)
  have hclosed : lifecycleOpen ((review i s).visitor i).lifecycle = false := by
    rw [review_of_no_record ho, hself]
    show lifecycleOpen (s.visitor i).lifecycle = false
    rw [hl]
    rfl
  have hwork : restartWork i s = (evaluated s i, .empty) := by
    rw [restartWork_of_closed hclosed, review_of_no_record ho]
  obtain ⟨hrcq, hntu, hcfu, hvisitor⟩ := restartEntry_leaves i x s
  rw [hrcq, hntu, hcfu, hvisitor, hwork]
  refine ⟨?_, ?_, ?_, rfl, rfl⟩
  · rw [clearMarks_visitor_self (by rw [hself]; exact hfree), removalEntry, hself]
    rfl
  · simp [restartCounted]
  · obtain ⟨hreviews, -⟩ := refreshEngine_figures (clearMarks i (evaluated s i))
    have hrse : (restartEntry i x s).rse = (refreshEngine (clearMarks i (restartWork i s).1)).rse := rfl
    rw [hrse, hwork, hreviews]
    rfl

/-! ## An entry with an open record -/

section Open

/-- The entry after its review, whatever the comparison says (R66). -/
theorem review_leaves_open (ho : (s.visitor i).openRecord = some o) : ∃ r a n,
    (review i s).visitor i = { reviewed s i with openRecord := some r, spilled := a, spillCount := n } := by
  cases hd : recordDifference s (reviewed s i) o with
  | none =>
    obtain ⟨hvis, -⟩ := review_of_same_leaves ho hd
    exact ⟨o, _, _, hvis.trans (by rw [← show (reviewed s i).openRecord = some o from ho])⟩
  | some why =>
    obtain ⟨⟨a, n, hvis⟩, -⟩ := review_of_difference_leaves ho hd
    exact ⟨_, a, n, hvis⟩

/-- The RESTART close leaves the entry a new record with the current snapshot (R63, R69). -/
theorem restartWork_visitor (hl : lifecycleOpen (s.visitor i).lifecycle = true)
    (ho : (s.visitor i).openRecord = some o) : restartWork i s = closeRecord i .restart (review i s) ∧ ∃ a n,
      (restartWork i s).1.visitor i = { reviewed s i with
        openRecord := some (openNow s (reviewed s i)), spilled := a, spillCount := n } := by
  obtain ⟨r, a, n, hvis⟩ := review_leaves_open ho
  have hopen : lifecycleOpen ((review i s).visitor i).lifecycle = true := by rw [hvis]; exact hl
  have hwork := restartWork_of_open hopen
  obtain ⟨a', n', hclose⟩ := closeRecord_visitor .restart (show ((review i s).visitor i).openRecord = some r by rw [hvis])
  have hnew : openNow (review i s) ((review i s).visitor i) = openNow s (reviewed s i) :=
    openNow_congr (review_znu i s) (review_rtu i s) (review_psl i s) (review_psv i s) (review_cfu i s)
      (by rw [hvis]) (by rw [hvis]) (by rw [hvis])
  refine ⟨hwork, a', n', ?_⟩
  rw [hwork, hclose, hnew, hvis]

theorem restartEntry_of_open (hl : lifecycleOpen (s.visitor i).lifecycle = true)
    (ho : (s.visitor i).openRecord = some o) : ∃ a n, (restartEntry i x s).visitor i = { reviewed s i with
      openRecord := some (openNow s (reviewed s i)), reviewMark := false, closeMark := false
      spilled := a, spillCount := n } ∧ a = ((restartWork i s).1.visitor i).spilled := by
  obtain ⟨-, a, n, hvis⟩ := restartWork_visitor hl ho
  obtain ⟨-, -, -, hvisitor⟩ := restartEntry_leaves i x s
  refine ⟨a, n, ?_, by rw [hvis]⟩
  rw [hvisitor]
  refine (setVisitor_visitor_of_open (r := openNow s (reviewed s i)) (by rw [hvis])).trans ?_
  rw [hvis]

/-- A record that agrees with the conditions is the one that the RESTART close finds (R69). -/
theorem restartWork_of_same (hl : lifecycleOpen (s.visitor i).lifecycle = true)
    (ho : (s.visitor i).openRecord = some o) (hd : recordDifference s (reviewed s i) o = none) :
    restartWork i s = closeRecord i .restart (evaluated s i) ∧ (evaluated s i).visitor i = reviewed s i := by
  obtain ⟨hwork, -⟩ := restartWork_visitor hl ho
  exact ⟨hwork.trans (by rw [review_of_same ho hd]), setVisitor_visitor_of_open (s := s) (v := reviewed s i) ho⟩

/-- After a difference the RESTART close finds a record without traffic (log entry 10). -/
theorem restartWork_of_difference {why : CloseReason} (hl : lifecycleOpen (s.visitor i).lifecycle = true)
    (ho : (s.visitor i).openRecord = some o) (hd : recordDifference s (reviewed s i) o = some why) :
    (restartWork i s).2 = .empty ∧ (restartWork i s).1.rcq = (closeRecord i why s).1.rcq := by
  obtain ⟨hwork, -⟩ := restartWork_visitor hl ho
  obtain ⟨⟨a, n, hvis⟩, hrcq, -⟩ := review_of_difference_leaves ho hd
  have hempty := closeRecord_of_empty (why := .restart) (s := review i s) (i := i)
    (r := openNow s (reviewed s i)) (by rw [hvis]) rfl
  rw [hwork, hempty]
  exact ⟨rfl, hrcq⟩

end Open

/-! ## The counts and the queue of an agreeing record (R65, R182) -/

section Agreeing

/-- With traffic and room the closed record joins the queue (R64, R69). -/
theorem restartEntry_queued (hl : lifecycleOpen (s.visitor i).lifecycle = true)
    (ho : (s.visitor i).openRecord = some o) (hd : recordDifference s (reviewed s i) o = none)
    (ht : holdsTraffic o = true) (hroom : held s.rcq < 1024) :
    (restartEntry i x s).rcq = { s.rcq with
      nextSeq := s.rcq.nextSeq + 1
      records := s.rcq.records ++
        [{ seq := s.rcq.nextSeq, index := i, tag := (s.visitor i).tag, reason := .restart
           closeTime := s.cfu.clock, contents := o }] } ∧
    (restartEntry i x s).cfu = { s.cfu with restart := some { x with
      nextIndex := i + 1, queued := x.queued + 1 } } := by
  obtain ⟨hwork, hself⟩ := restartWork_of_same hl ho hd
  obtain ⟨hrcq, -, hcfu, -⟩ := restartEntry_leaves i x s
  have hopen : ((evaluated s i).visitor i).openRecord = some o := by rw [hself]; exact ho
  have htag : ((evaluated s i).visitor i).tag = (s.visitor i).tag := by rw [hself]; rfl
  have hclose := closeRecord_of_room (why := .restart) (s := evaluated s i) hopen ht hroom
  rw [hrcq, hcfu, hwork, hclose]
  refine ⟨?_, by simp [restartCounted]⟩
  show (joinQueue i ((evaluated s i).visitor i).tag .restart o (evaluated s i)).rcq = _
  rw [joinQueue_rcq, htag]
  rfl

/-- With traffic and no room it spills (R69, R73). -/
theorem restartEntry_spilled (hl : lifecycleOpen (s.visitor i).lifecycle = true)
    (ho : (s.visitor i).openRecord = some o) (hd : recordDifference s (reviewed s i) o = none)
    (ht : holdsTraffic o = true) (hfull : 1024 ≤ held s.rcq) :
    (restartEntry i x s).rcq = { s.rcq with spills := s.rcq.spills + 1 } ∧
    ((restartEntry i x s).visitor i).spilled = (s.visitor i).spilled + o.charge + o.feeCharged ∧
    (restartEntry i x s).ntu.recordSpill.pending = true ∧
    (restartEntry i x s).cfu = { s.cfu with restart := some { x with
      nextIndex := i + 1, spilled := x.spilled + 1 } } := by
  obtain ⟨hwork, hself⟩ := restartWork_of_same hl ho hd
  obtain ⟨hrcq, hntu, hcfu, -⟩ := restartEntry_leaves i x s
  have hopen : ((evaluated s i).visitor i).openRecord = some o := by rw [hself]; exact ho
  have hclose := closeRecord_of_full (why := .restart) (s := evaluated s i) hopen ht hfull
  obtain ⟨a, n, hvis, ha⟩ := restartEntry_of_open (x := x) hl ho
  rw [hvis, ha, hrcq, hntu, hcfu, hwork, hclose]
  refine ⟨rfl, ?_, spillRecord_raises, by simp [restartCounted]⟩
  rw [reopen_visitor, spillRecord_visitor hopen, hself]
  exact (Nat.add_assoc _ _ _).symm

/-- Without traffic neither count moves (R65, R182). -/
theorem restartEntry_empty (hl : lifecycleOpen (s.visitor i).lifecycle = true)
    (ho : (s.visitor i).openRecord = some o) (hd : recordDifference s (reviewed s i) o = none)
    (ht : holdsTraffic o = false) : (restartEntry i x s).rcq = s.rcq ∧
    (restartEntry i x s).cfu = { s.cfu with restart := some { x with nextIndex := i + 1 } } := by
  obtain ⟨hwork, hself⟩ := restartWork_of_same hl ho hd
  obtain ⟨hrcq, -, hcfu, -⟩ := restartEntry_leaves i x s
  have hopen : ((evaluated s i).visitor i).openRecord = some o := by rw [hself]; exact ho
  have hclose := closeRecord_of_empty (why := .restart) (s := evaluated s i) hopen ht
  rw [hrcq, hcfu, hwork, hclose]
  exact ⟨rfl, by simp [restartCounted]⟩

/-- A record that differs is counted nowhere (log entry 10). -/
theorem restartEntry_differs {why : CloseReason} (hl : lifecycleOpen (s.visitor i).lifecycle = true)
    (ho : (s.visitor i).openRecord = some o) (hd : recordDifference s (reviewed s i) o = some why) :
    (restartEntry i x s).rcq = (closeRecord i why s).1.rcq ∧
    (restartEntry i x s).cfu = { s.cfu with restart := some { x with nextIndex := i + 1 } } := by
  obtain ⟨hout, hqueue⟩ := restartWork_of_difference hl ho hd
  obtain ⟨hrcq, -, hcfu, -⟩ := restartEntry_leaves i x s
  rw [hrcq, hcfu, hout, hqueue]
  exact ⟨rfl, by simp [restartCounted]⟩

end Agreeing

/-- Settles O60: an entry's step is its review, then the RESTART close of the record which that leaves; the end of the
pass is the interval timer and the reply. -/
theorem restartPassAndEnd : Obligations.RestartPassAndEnd := by
  refine fun x s hx => ⟨fun i hi hl ho => ?provisioned, fun i o hi hl ho => ?opened, fun i o v hi hl ho hv =>
    ⟨fun hz hp hprice => ?agrees, fun why hwhy => ?differs⟩, fun hnone => ?ends⟩
  case provisioned =>
    obtain ⟨hvis, hrestart, hreviews, hrcq, hntu⟩ := restartEntry_of_provisioned (x := x) hl ho
    refine ⟨_, exec_restartEntryStep hx hi, hvis, fun j hj => restartEntry_visitor_ne hj, hrestart, hreviews, ?_⟩
    have hframe := restartEntry_frame i x s
    rw [hrcq, hntu] at hframe
    exact hframe
  case opened =>
    obtain ⟨a, n, hvis, -⟩ := restartEntry_of_open (x := x) hl ho
    obtain ⟨-, -, hcfu, -⟩ := restartEntry_leaves i x s
    refine ⟨_, exec_restartEntryStep hx hi, ?_, ?_, ?_, ?_, ?_, fun j hj => restartEntry_visitor_ne hj, ?_,
      restartEntry_frame i x s⟩
    · rw [hvis]
      rfl
    · rw [hvis]
    · rw [hvis]
    · rw [hvis]
      rfl
    · rw [hvis]
      rfl
    · rw [hcfu]
      rfl
  case agrees =>
    subst hv
    have hd : recordDifference s (reviewed s i) o = none := recordDifference_of_same hz hp hprice
    refine ⟨fun ht hroom => ?_, fun ht hfull => ?_, fun ht => ?_⟩
    · exact ⟨_, exec_restartEntryStep hx hi, restartEntry_queued hl ho hd ht hroom⟩
    · exact ⟨_, exec_restartEntryStep hx hi, restartEntry_spilled hl ho hd ht hfull⟩
    · exact ⟨_, exec_restartEntryStep hx hi, restartEntry_empty hl ho hd ht⟩
  case differs =>
    subst hv
    exact ⟨_, exec_restartEntryStep hx hi, restartEntry_differs hl ho (recordDifference_of_first hwhy)⟩
  case ends =>
    show execRestartIntervalTimer s = _
    simp only [execRestartIntervalTimer, hx, hnone]
    rfl

end Sys2Proof.Machine
end

section
/-! SUPPORT. PART_RESTART up to its sixth stage: the notices, the packets, the paths, the selector, the cell heads and the
zone (R17, R126, R143, R145, R169, R176, R182). -/

namespace Sys2Proof.Machine

variable {p q : Path} {s : State}

/-! ## A path at the restart (R126) -/

/-- The supervisor of a path after the restart. -/
def restartedPath (carrier : Bool) (v : Psv) : Psv :=
  if v.state = .disabled then { v with gap := none }
  else if v.state = .test then { cleanedUp false v with gap := none, state := .disabled }
  else enterService carrier { cleanedUp false v with gap := none, lostLatch := true }

/-- The port of a path after the restart of its path. -/
def restartedPort (st : PathState) (x : ShorePort) : ShorePort :=
  if st = .disabled then x else { x with due := x.due.filter isPathSwap }

theorem pathRestart_of_disabled (h : (s.path p).state = .disabled) :
    pathRestart p s = s.modPath p (fun v => { v with gap := none }) := by
  simp only [pathRestart, h]

theorem pathRestart_of_test (h : (s.path p).state = .test) : pathRestart p s =
    (cleanUp false p s).modPath p (fun v => { v with gap := none, state := .disabled }) := by
  simp only [pathRestart, h]

theorem pathRestart_of_service (h1 : (s.path p).state ≠ .disabled) (h2 : (s.path p).state ≠ .test) :
    pathRestart p s = (cleanUp false p s).modPath p (fun v =>
      enterService (s.port p).carrier { v with gap := none, lostLatch := true }) := by
  cases h : (s.path p).state with
  | disabled => exact absurd h h1
  | test => exact absurd h h2
  | down => simp only [pathRestart, h]
  | settling => simp only [pathRestart, h]
  | opening => simp only [pathRestart, h]
  | surveying => simp only [pathRestart, h]
  | up => simp only [pathRestart, h]

theorem pathRestart_path_self (p : Path) (s : State) :
    (pathRestart p s).path p = restartedPath (s.port p).carrier (s.path p) := by
  unfold restartedPath
  split
  · next h => rw [pathRestart_of_disabled h, modPath_path_self]
  · next h =>
    split
    · next h' => rw [pathRestart_of_test h', modPath_path_self, cleanUp_path_self]
    · next h' => rw [pathRestart_of_service h h', modPath_path_self, cleanUp_path_self]

theorem pathRestart_port_self (p : Path) (s : State) :
    (pathRestart p s).port p = restartedPort (s.path p).state (s.port p) := by
  have hclean := cleanUp_port_self false p s
  unfold restartedPort
  split
  · next h => rw [pathRestart_of_disabled h]; rfl
  · next h =>
    by_cases h' : (s.path p).state = .test
    · rw [pathRestart_of_test h']
      exact hclean
    · rw [pathRestart_of_service h h']
      exact hclean

theorem pathRestart_ne (s : State) (h : q ≠ p) :
    (pathRestart p s).path q = s.path q ∧ (pathRestart p s).port q = s.port q := by
  have hpath := cleanUp_path_ne false s h
  have hport := cleanUp_port_ne false s h
  by_cases h1 : (s.path p).state = .disabled
  · rw [pathRestart_of_disabled h1]
    exact ⟨modPath_path_ne _ _ h, rfl⟩
  · by_cases h2 : (s.path p).state = .test
    · rw [pathRestart_of_test h2]
      exact ⟨(modPath_path_ne _ _ h).trans hpath, hport⟩
    · rw [pathRestart_of_service h1 h2]
      exact ⟨(modPath_path_ne _ _ h).trans hpath, hport⟩

theorem pathRestart_frame (p : Path) (s : State) : pathRestart p s = { s with
    shore := (pathRestart p s).shore, psv := (pathRestart p s).psv } := by
  by_cases h1 : (s.path p).state = .disabled
  · rw [pathRestart_of_disabled h1]
    rfl
  · by_cases h2 : (s.path p).state = .test
    · rw [pathRestart_of_test h2]
      rfl
    · rw [pathRestart_of_service h1 h2]
      rfl

/-- The paths of a list, restarted one after another. -/
def restartPaths (l : List Path) (s : State) : State := l.foldl (fun s p => pathRestart p s) s

/-- Each path is restarted from the port and the supervisor that stood before any of them. -/
theorem restartPaths_get (p : Path) : ∀ (l : List Path) (s : State), l.Nodup →
    (restartPaths l s).path p = (if p ∈ l then restartedPath (s.port p).carrier (s.path p) else s.path p) ∧
    (restartPaths l s).port p = (if p ∈ l then restartedPort (s.path p).state (s.port p) else s.port p)
  | [], s, _ => by simp [restartPaths]
  | q :: l, s, h => by
    obtain ⟨hq, hl⟩ := List.nodup_cons.1 h
    have ih := restartPaths_get p l (pathRestart q s) hl
    have hstep : restartPaths (q :: l) s = restartPaths l (pathRestart q s) := rfl
    rw [hstep]
    by_cases hp : p = q
    · subst hp
      rw [if_neg hq, if_neg hq, pathRestart_path_self, pathRestart_port_self] at ih
      simpa using ih
    · obtain ⟨hpath, hport⟩ := pathRestart_ne s hp
      rw [hpath, hport] at ih
      simpa [hp] using ih

theorem restartPaths_frame : ∀ (l : List Path) (s : State), restartPaths l s = { s with
    shore := (restartPaths l s).shore, psv := (restartPaths l s).psv }
  | [], _ => rfl
  | q :: l, s => by
    have ih := restartPaths_frame l (pathRestart q s)
    have hstep := pathRestart_frame q s
    show restartPaths l (pathRestart q s) = { s with
      shore := (restartPaths l (pathRestart q s)).shore, psv := (restartPaths l (pathRestart q s)).psv }
    generalize restartPaths l (pathRestart q s) = t at ih ⊢
    refine ih.trans ?_
    rw [hstep]

/-! ## The notices, the packets and the selector (R17, R143, R176) -/

theorem restartNotices_noticeGet (s : State) (x : Source) : noticeGet (restartNotices s).ntu x =
    { noticeGet s.ntu x with pending := false, armed := false } := by
  cases x <;> rfl

theorem restartNotices_rest (s : State) : (restartNotices s).ntu.creditList = [] ∧
    (restartNotices s).ntu.creditOverflow = false ∧ (restartNotices s).ntu.creditDrops = s.ntu.creditDrops ∧
    (restartNotices s).ntu.noticeSeq = s.ntu.noticeSeq ∧ (restartNotices s).ntu.surveyPath = s.ntu.surveyPath :=
  ⟨rfl, rfl, rfl, rfl, rfl⟩

theorem restartPackets_port (s : State) (p : Path) : (restartPackets s).port p = { s.port p with txQueue := [] } := by
  simp [restartPackets, State.port, State.returnBuffers]

/-- The selector's block after the restart (R143). -/
def restartedSelector (x : Psl) : Psl := { x with
  active := none, pin := none, candidate := none, confirmFor := none, confirmCount := 0
  costs := { sp0 := none, sp1 := none, sp2 := none, sp3 := none }
  drain := { sp0 := none, sp1 := none, sp2 := none, sp3 := none }
  holdDown := none, period := some x.settings.period }

theorem selectorRestart_eq (s : State) : selectorRestart s =
    bulkReview (withdrawPathSwap (s.setPsl (restartedSelector s.psl))) := rfl

theorem selectorRestart_port (s : State) (p : Path) : (selectorRestart s).port p = (s.port p).unswapped := by
  have hshore : (selectorRestart s).port p = (withdrawPathSwap (s.setPsl (restartedSelector s.psl))).port p :=
    congrArg (fun x => x.get p) (bulkReview_shore _)
  rw [hshore, withdrawPathSwap_port]
  rfl

theorem selectorRestart_visitor (s : State) (i : Nat) :
    (selectorRestart s).visitor i = setReviewMark (s.visitor i) := by
  rw [selectorRestart_eq, bulkReview_visitor]
  rfl

theorem bulkReview_vtb_rest (s : State) : { (bulkReview s).vtb with entries := s.vtb.entries } = s.vtb := by
  rw [bulkReview, refreshEngine_vtb]
  rfl

theorem selectorRestart_vtb (s : State) : { (selectorRestart s).vtb with entries := s.vtb.entries } = s.vtb :=
  bulkReview_vtb_rest (withdrawPathSwap (s.setPsl (restartedSelector s.psl)))

theorem selectorRestart_rse (s : State) : { (selectorRestart s).rse with running := false, runs := 0 } =
    { s.rse with running := false, runs := 0 } := by
  obtain ⟨-, -, -, hrse⟩ := refreshEngine_figures ((withdrawPathSwap (s.setPsl (restartedSelector s.psl))).setVtb
    { s.vtb with entries := tableMap setReviewMark s.vtb.entries })
  exact hrse

theorem selectorRestart_frame (s : State) : selectorRestart s = { s with
    shore := (selectorRestart s).shore, vtb := (selectorRestart s).vtb, rse := (selectorRestart s).rse
    psl := restartedSelector s.psl } := by
  rw [selectorRestart_eq, bulkReview_frame]
  rfl

/-! ## The six stages together (R182) -/

/-- The state after the third stage. -/
def pathsRestarted (s : State) : State := restartPaths Path.all (restartPackets (restartNotices s))

theorem pathsRestarted_path (s : State) (p : Path) :
    (pathsRestarted s).path p = restartedPath (s.port p).carrier (s.path p) := by
  obtain ⟨hpath, -⟩ := restartPaths_get p Path.all (restartPackets (restartNotices s)) (by decide)
  rw [if_pos (mem_pathAll p), restartPackets_port] at hpath
  exact hpath

theorem pathsRestarted_port (s : State) (p : Path) : (pathsRestarted s).port p =
    restartedPort (s.path p).state { s.port p with txQueue := [] } := by
  obtain ⟨-, hport⟩ := restartPaths_get p Path.all (restartPackets (restartNotices s)) (by decide)
  rw [if_pos (mem_pathAll p), restartPackets_port] at hport
  exact hport

theorem restartStages_eq (s : State) : restartStages s =
    ((selectorRestart (pathsRestarted s)).setCvu (coverageRestart (selectorRestart (pathsRestarted s)).cvu)).setZnu
      (zoneRestart (selectorRestart (pathsRestarted s)).znu) := by
  simp only [restartStages, pathsRestarted, restartPaths, State.setCvu_znu]

/-- What the stages write, block by block (R182). -/
theorem restartStages_frame (s : State) : restartStages s = { s with
    shi := { s.shi with egress := [] }, shore := (restartStages s).shore
    freeBuffers := s.freeBuffers + heldPackets s, uplinkSeq := 0
    vtb := (restartStages s).vtb, rse := (restartStages s).rse
    psv := (restartStages s).psv, psl := restartedSelector s.psl
    drs := { s.drs with locked := false, nextExpected := 0, slots := [], gapTimer := none }
    cvu := coverageRestart s.cvu, znu := zoneRestart s.znu
    ntu := (restartNotices s).ntu, cfu := { s.cfu with restarts := s.cfu.restarts + 1 } } := by
  have hselector := selectorRestart_frame (pathsRestarted s)
  have hpaths : pathsRestarted s = { restartPackets (restartNotices s) with
      shore := (pathsRestarted s).shore, psv := (pathsRestarted s).psv } := restartPaths_frame _ _
  rw [restartStages_eq]
  generalize selectorRestart (pathsRestarted s) = c at hselector ⊢
  generalize pathsRestarted s = w at hselector hpaths
  rw [hselector, hpaths]
  rfl

/-- The stages after the fourth leave what it wrote of the ports, the paths, the visitors and the engine. -/
theorem restartStages_selector (s : State) : (restartStages s).shore = (selectorRestart (pathsRestarted s)).shore ∧
    (restartStages s).psv = (selectorRestart (pathsRestarted s)).psv ∧
    (restartStages s).vtb = (selectorRestart (pathsRestarted s)).vtb ∧
    (restartStages s).rse = (selectorRestart (pathsRestarted s)).rse := by
  rw [restartStages_eq]
  simp

theorem restartStages_port (s : State) (p : Path) : (restartStages s).port p =
    (restartedPort (s.path p).state { s.port p with txQueue := [] }).unswapped := by
  obtain ⟨hshore, -⟩ := restartStages_selector s
  have hport := selectorRestart_port (pathsRestarted s) p
  rw [State.port, ← hshore] at hport
  rw [State.port, hport, pathsRestarted_port]

theorem restartStages_path (s : State) (p : Path) :
    (restartStages s).path p = restartedPath (s.port p).carrier (s.path p) := by
  obtain ⟨-, hstages, -⟩ := restartStages_selector s
  have hpsv : (selectorRestart (pathsRestarted s)).psv = (pathsRestarted s).psv := by rw [selectorRestart_frame]
  rw [State.path, hstages, hpsv]
  exact pathsRestarted_path s p

/-- The tables of the visitors and the engine after the stages: every visitor marked (R143). -/
theorem restartStages_visitors (s : State) :
    (∀ i : Nat, (restartStages s).visitor i = setReviewMark (s.visitor i)) ∧
      { (restartStages s).vtb with entries := s.vtb.entries } = s.vtb ∧
      { (restartStages s).rse with running := false, runs := 0 } = { s.rse with running := false, runs := 0 } := by
  have hpaths : pathsRestarted s = { restartPackets (restartNotices s) with
      shore := (pathsRestarted s).shore, psv := (pathsRestarted s).psv } := restartPaths_frame _ _
  have hvtb : (pathsRestarted s).vtb = s.vtb := (congrArg State.vtb hpaths :)
  have hrse : (pathsRestarted s).rse = s.rse := (congrArg State.rse hpaths :)
  have hvtb' := selectorRestart_vtb (pathsRestarted s)
  have hrse' := selectorRestart_rse (pathsRestarted s)
  obtain ⟨-, -, hstages, hstages'⟩ := restartStages_selector s
  rw [hvtb] at hvtb'
  rw [hrse] at hrse'
  rw [hstages, hstages']
  refine ⟨fun i => ?_, hvtb', hrse'⟩
  have hvisitor := selectorRestart_visitor (pathsRestarted s) i
  rw [State.visitor, ← hstages, State.visitor, hvtb] at hvisitor
  exact hvisitor

/-! ## Each path and each port -/

theorem restartedPath_of_disabled {v : Psv} (c : Bool) (h : v.state = .disabled) :
    restartedPath c v = { v with gap := none } := if_pos h

theorem restartedPath_of_test {v : Psv} (c : Bool) (h : v.state = .test) : restartedPath c v = { v with
    state := .disabled, settleTimer := none, openTimer := none, probeTimer := none
    idleTimer := none, gap := none, outstanding := [], survey := .idle } := by
  rw [restartedPath, if_neg (by rw [h]; decide), if_pos h]
  rfl

theorem restartedPath_of_service {v : Psv} (c : Bool) (h1 : v.state ≠ .disabled) (h2 : v.state ≠ .test) :
    restartedPath c v = { v with
      state := if c then .settling else .down
      settleTimer := if c then some (v.config.settle * 100) else none
      lostLatch := true, openTimer := none, probeTimer := none, idleTimer := none, gap := none
      outstanding := [], survey := .idle } := by
  rw [restartedPath, if_neg h1, if_neg h2]
  cases c <;> rfl

/-- No path is UP after the restart, and no recovery gap runs (R126). -/
theorem restartedPath_idle (c : Bool) (v : Psv) : (restartedPath c v).state ≠ .up ∧ (restartedPath c v).gap = none := by
  by_cases h1 : v.state = .disabled
  · rw [restartedPath_of_disabled c h1]
    exact ⟨fun h => absurd (h1.symm.trans h) (by decide), rfl⟩
  · by_cases h2 : v.state = .test
    · rw [restartedPath_of_test c h2]
      exact ⟨PathState.noConfusion, rfl⟩
    · rw [restartedPath_of_service c h1 h2]
      cases c <;> exact ⟨PathState.noConfusion, rfl⟩

/-- Of a path cleaned up no frame stays due (R109, R143). -/
theorem restartedPort_unswapped (st : PathState) (x : ShorePort) : (restartedPort st x).unswapped = { x with
    due := if st = .disabled then x.due.filter (fun d => !isPathSwap d) else [] } := by
  unfold restartedPort ShorePort.unswapped
  split
  · rfl
  · simp [List.filter_filter]

theorem coverageRestart_cell (s : State) (c : Cell) : (s.setCvu (coverageRestart s.cvu)).cell c = { s.cell c with
    state := .absent, hbTimer := none, joinCount := 0, target := 0, pendingLevel := 0
    activeLevel := 0, reportedLevel := 0, grantOwed := false } := by
  simp [State.cell, coverageRestart, cellRestart]

theorem zoneRestart_eq (x : Znu) : zoneRestart x = { x with
    candidate := none, candidateCount := 0
    positionTimer := if x.positionState = .fresh then some (x.timeout * 1000) else none } := by
  unfold zoneRestart
  dsimp only
  by_cases h : x.positionState = .fresh
  · rw [if_pos h, if_pos h]
    rfl
  · rw [if_neg h, if_neg h]
    rfl

/-! ## The request -/

theorem exec_partRestart {r : Request} (h : ShipHead "PART_RESTART" r s) :
    exec (.partRestart .ship) s = .next (restartBegin r (dropRequest .ship s)) := by
  obtain ⟨hhead, hname, hrepeat, hfree⟩ := h
  have hcheck : generalCheck .ship r = none := generalCheck_ship (by rw [hname]; simp [requestNames]) hrepeat
  show Host.Outcome.next (takeNamed .ship (fun x => x == nm "PART_RESTART") (restartTaken .ship) s) = _
  simp [takeNamed, hhead, hname, hfree, restartTaken, hcheck]

theorem reply_of_portFree (h : portFree s .ship = true) : s.shi.reply = none := by
  simp only [portFree, replySlot, Bool.and_eq_true, Option.isNone_iff_eq_none] at h
  exact h.1

theorem restartBegin_eq (r : Request) (s : State) : restartBegin r s =
    (restartStages s).setCfu { (restartStages s).cfu with
      restart := some { nextIndex := 0, tag := r.tag, ignoredItem := setsAside [] r, queued := 0, spilled := 0 } } := rfl

theorem dropRequest_ship_frame (s : State) :
    dropRequest .ship s = { s with shi := { s.shi with requests := s.shi.requests.tail } } := rfl

/-- The stages from the state in which the request has left its queue, with the conservation of buffers. -/
theorem restartStages_dropped {s : State} (hbuffers : BufferLaw s) : restartStages (dropRequest .ship s) = { s with
    shi := { s.shi with requests := s.shi.requests.tail, egress := [] }
    shore := (restartStages (dropRequest .ship s)).shore, freeBuffers := 3072, uplinkSeq := 0
    vtb := (restartStages (dropRequest .ship s)).vtb, rse := (restartStages (dropRequest .ship s)).rse
    psv := (restartStages (dropRequest .ship s)).psv, psl := restartedSelector s.psl
    drs := { s.drs with locked := false, nextExpected := 0, slots := [], gapTimer := none }
    cvu := coverageRestart s.cvu, znu := zoneRestart s.znu
    ntu := (restartNotices s).ntu, cfu := { s.cfu with restarts := s.cfu.restarts + 1 } } := by
  obtain ⟨hsum, -⟩ := hbuffers
  have hpool : (dropRequest .ship s).freeBuffers + heldPackets (dropRequest .ship s) = 3072 := by
    rw [heldPackets_eq]
    exact hsum
  have hframe := restartStages_frame (dropRequest .ship s)
  rw [hpool] at hframe
  refine hframe.trans ?_
  generalize restartStages (dropRequest .ship s) = v
  rw [dropRequest_ship_frame]
  rfl

/-- Settles O59: the six stages write each block once, and the request adds the pass. -/
theorem partRestartStages : Obligations.PartRestartStages := by
  intro r s hhead hbuffers
  have hexec := exec_partRestart hhead
  obtain ⟨-, -, -, hportFree⟩ := hhead
  have hreply : s.shi.reply = none := reply_of_portFree hportFree
  have hframe := restartStages_dropped hbuffers
  obtain ⟨hvisitors, hvtb, hrse⟩ := restartStages_visitors (dropRequest .ship s)
  have hport : ∀ p, (restartStages (dropRequest .ship s)).port p = { s.port p with
      txQueue := []
      due := if (s.path p).state = .disabled then (s.port p).due.filter (fun d => !isPathSwap d) else [] } :=
    fun p => (restartStages_port (dropRequest .ship s) p).trans (restartedPort_unswapped _ _)
  have hpath : ∀ p, (restartStages (dropRequest .ship s)).path p =
      restartedPath (s.port p).carrier (s.path p) := restartStages_path (dropRequest .ship s)
  have hvisitors' : ∀ i, (restartStages (dropRequest .ship s)).visitor i = setReviewMark (s.visitor i) := hvisitors
  obtain ⟨hlist, hoverflow, hdrops, hseq, hsurvey⟩ := restartNotices_rest s
  rw [restartBegin_eq] at hexec
  generalize restartStages (dropRequest .ship s) = v at hexec hframe hvtb hrse hport hpath hvisitors'
  have hcvu : v.cvu = coverageRestart s.cvu := (congrArg State.cvu hframe :)
  have hznu : v.znu = zoneRestart s.znu := (congrArg State.znu hframe :)
  have hntu : v.ntu = (restartNotices s).ntu := (congrArg State.ntu hframe :)
  have hcfu : v.cfu = { s.cfu with restarts := s.cfu.restarts + 1 } := (congrArg State.cfu hframe :)
  have hshi : v.shi = { s.shi with requests := s.shi.requests.tail, egress := [] } := (congrArg State.shi hframe :)
  have hcell : ∀ c, v.cell c = (s.setCvu (coverageRestart s.cvu)).cell c := fun c =>
    congrArg (fun x : Cvu => x.cells[c]) hcvu
  refine ⟨_, hexec, (congrArg State.freeBuffers hframe :), (congrArg State.uplinkSeq hframe :), fun p => ?idle, hport,
    fun p h => (hpath p).trans (restartedPath_of_disabled _ h), fun p h => (hpath p).trans (restartedPath_of_test _ h),
    fun p h1 h2 => (hpath p).trans (restartedPath_of_service _ h1 h2), (congrArg Shi.egress hshi :),
    (congrArg State.drs hframe :), (congrArg State.psl hframe :), fun c => (hcell c).trans (coverageRestart_cell s c),
    ?cvu, hznu.trans (zoneRestart_eq _), fun x => ?notices, ?list, ?overflow, ?drops, ?seq, ?survey, ?cfu, rfl, hshi,
    (congrArg Shi.reply hshi).trans hreply, (congrArg State.rtu hframe :), (congrArg State.rcq hframe :), ?zones,
    fun i => ?kept, fun i hi => ?marked, hvtb, hrse, (congrArg State.clocks hframe :), (congrArg State.pending hframe :)⟩
  case idle =>
    obtain ⟨hstate, hgap⟩ := restartedPath_idle (s.port p).carrier (s.path p)
    rw [← hpath p] at hstate hgap
    exact ⟨(congrArg ShorePort.txQueue (hport p) :), hstate, hgap⟩
  case cvu =>
    show v.cvu = { s.cvu with cells := v.cvu.cells, grantTimer := some s.cvu.grantPeriod }
    rw [hcvu]
    rfl
  case notices =>
    show noticeGet v.ntu x = _
    rw [hntu, restartNotices_noticeGet]
  case list => exact (congrArg Ntu.creditList hntu).trans hlist
  case overflow => exact (congrArg Ntu.creditOverflow hntu).trans hoverflow
  case drops => exact (congrArg Ntu.creditDrops hntu).trans hdrops
  case seq => exact (congrArg Ntu.noticeSeq hntu).trans hseq
  case survey => exact (congrArg Ntu.surveyPath hntu).trans hsurvey
  case cfu =>
    rw [State.setCfu_cfu, hcfu]
  case zones =>
    show v.znu.zones = _
    rw [hznu, zoneRestart_eq]
  case kept =>
    show { v.visitor i with reviewMark := false } = _
    rw [hvisitors', setReviewMark_rest]
  case marked =>
    have hmark := setReviewMark_marked (s.visitor i)
    rw [← hvisitors' i] at hmark
    exact hmark hi

end Sys2Proof.Machine
end
